-- ==== Sys2Proof/Word.lean ====
section
/-! DEFINITION. The byte of the message link and the plain arithmetic the manual's "Numbers and units" names:
saturating counts, ceil of a quotient, and clamping a value to a range. -/

namespace Sys2Proof

/-- One byte of the serial link (R185: 8 data bits). -/
abbrev Byte := BitVec 8

/-- A saturating count "stops at its stated limit instead of wrapping" (00_scope.md, Numbers and units). -/
def satAdd (limit a b : Nat) : Nat := min limit (a + b)

/-- "ceil" of `a / b`: the least integer not below it. -/
def ceilDiv (a b : Nat) : Nat := (a + b - 1) / b

/-- To clamp a value to a range is to replace it by the nearest limit when it lies outside. -/
def clampNat (lo hi x : Nat) : Nat := max lo (min x hi)

end Sys2Proof
end

