-- ==== Sys2Proof/Config.lean ====
section
/-! DEFINITION. The fixed sizes and values of the manual, and the two values it leaves open as constants without a
body: nothing can be proved of what they are, so a claim holds whatever they are. -/

namespace Sys2Proof.Config

/-- The intake queue holds at most 16 entries (R11). -/
def queueLimit : Nat := 16

/-- A notice list holds at most 8 codes (R6). -/
def noticeLimit : Nat := 8

/-- The trace buffer holds at most 512 records (R61). -/
def traceLimit : Nat := 512

/-- TRACE_HALF is reported when the buffer rises to 256 records (R61). -/
def traceHalf : Nat := 256

/-- The receive buffer holds up to 2 entries (R187). -/
def rxLimit : Nat := 2

/-- The transport list holds at most 3 entries (R91). -/
def transportLimit : Nat := 3

/-- The largest value of the 4-byte counts: accumulator (R45), lamp-on time (R59), dryer clock (R114). -/
def countMax : Nat := 4294967295

/-- Samples of a full window (R56); also the warm-up of a segment (R52). -/
def windowLength : Nat := 25

/-- A sample below 0.50 mW/cm² is dark (R52). -/
def darkLimit : Nat := 50

/-- The dark count that ends a run (R52). -/
def darkCount : Nat := 10

/-- The load timer's limit, 30 s (R73), in ms. -/
def loadLimitMs : Nat := 30000

/-- The gap after which a partial frame is discarded, 50 ms (R186). -/
def byteGapMs : Nat := 50

/-- The limit of a PICK or PLACE, 18 s (R141), in ms. -/
def pickPlaceLimitMs : Nat := 18000

/-- Nominal travel time for each level, 2 s (R141), in ms. -/
def travelPerLevelMs : Nat := 2000

/-- What the limit of a TRAVEL adds to its nominal time, 10 s (R141), in ms. -/
def travelMarginMs : Nat := 10000

/-- The transport's lowest and highest speed, mm/min (R32). -/
def speedMin : Nat := 100
def speedMax : Nat := 2000

/-- The minimum gap between plates on the transport, mm (R32). -/
def minGap : Nat := 150

/-- The solvent admission band, ±3 °C (R32). -/
def solventBand : Nat := 3

/-- The dryer band, ±5 °C (R32). -/
def dryerBand : Nat := 5

/-- The sync byte of a frame (R185). -/
def syncByte : Byte := 213#8

/-- The kind of an ATTENTION frame (R185, R196). -/
def attentionKind : Byte := 112#8

/-- DESIGN CHOICE (log 9), safe: the level the elevator mechanism reports when it has been stopped, or when the
elevator leaves FAULT (R147, R148). It is an input the table gives no row; the n-th such report is this free value. -/
opaque mechanismLevel : Nat → Fin 8

/-- DESIGN CHOICE (log 10), safe: whether bank A counts as the newer of two valid banks whose save numbers
(A's, then B's) are equal or 2147483648 apart, where R38 names none or both. -/
opaque bankAStands : Nat → Nat → Bool

end Sys2Proof.Config
end

