-- ==== Sys2Proof/Syntax.lean ====
section
/-! DEFINITION. The commands of the controller: one constructor of `Instr` for each row of spec/opcode_table.json, with
the row's operands. Request rows carry the tag and the body bytes of the request's frame (R185). -/

namespace Sys2Proof

/-- A slot of the plate table (R1): index k is slot number k + 1. -/
abbrev Slot := Fin 40

/-- A dryer drawer (R114): index k is drawer number k + 1. -/
abbrev DrawerNo := Fin 6

/-- The four lamp channels of LIO and integration channels of DIN, in the order R195 counts them (R44, R168). -/
inductive LampChannel
  | back | main | uva | uvc
deriving DecidableEq, Repr

/-- The eight drive channels, 1 to 8 (R165). -/
inductive DriveChannel
  | intakeRollers | transport | brushes | pump | heater | elevator | outfeed | conveyor
deriving DecidableEq, Repr

/-- A valid frame as the receive buffer holds it (R185): kind, tag and body. -/
structure RxFrame where
  kind : Byte
  tag : Byte
  body : List Byte
deriving DecidableEq, Repr

/-- The 70 commands. Comments name the operands; the rule of each row stands in the table. -/
inductive Instr
  /-- POWER_ON: bit k of `levels` is 1 when the raw level of input line k + 1 is energised (R158). -/
  | powerOn (levels : BitVec 12)
  /-- START_UP_LOAD_FINISHED: `level` is the level the elevator mechanism reports at the end of INIT (R140). -/
  | startUpLoadFinished (level : Fin 8)
  /-- COUNTERS_WRITE_END: whether the area read back verifies (R40). -/
  | countersWriteEnd (verified : Bool)
  /-- RAW_INPUT_CHANGE: the raw level of a line becomes energised or de-energised (R159). -/
  | rawInputChange (line : Fin 12) (energised : Bool)
  | debounceExpiry (line : Fin 12)
  | outputHoldEnd (line : Fin 8)
  | overcurrentTrip (channel : DriveChannel)
  /-- INTAKE_TAG_ARRIVAL: the plate id read, or 0 for a no-read (R70). -/
  | intakeTagArrival (tag : Nat)
  | loadTimerExpiry
  /-- SAMPLE_ARRIVAL: the raw reading, 0 to 4095 counts (R48). -/
  | sampleArrival (channel : LampChannel) (raw : BitVec 12)
  | gapMark (slot : Slot)
  | endMark (slot : Slot)
  | commitMark (slot : Slot)
  | exitMark
  /-- SOLVENT_TEMP_READING and DRYER_READING: the reading in whole °C (log 28). -/
  | solventTempReading (reading : Byte)
  | replenishComplete
  | dryerReading (reading : Byte)
  | elevatorArrived
  | elevatorPickComplete
  | elevatorPlaceComplete
  | elevatorPhaseTimeout
  /-- FINISHER_TAG_ARRIVAL: the plate id read, or 0 for a no-read (R131). -/
  | finisherTagArrival (tag : Nat)
  | setupDelayEnd
  | pushDwellEnd
  | handoffTimeout
  /-- FRAME_COMPLETE, BAD_LENGTH_ENTRY and BYTE_RECEIVED: the byte received (R186). -/
  | frameComplete (byte : Byte)
  | badLengthEntry (byte : Byte)
  | byteGapTimeout
  | badCheck
  /-- BAD_LENGTH: a BAD_LENGTH entry (`none`) or a valid frame whose body does not fit its request (R188). -/
  | badLength (frame : Option RxFrame)
  | unknownKind (frame : RxFrame)
  | txFrameDone
  | watchdogExpiry
  | lineStatus (tag : Byte) (body : List Byte)
  | lineHold (tag : Byte) (body : List Byte)
  | lineResume (tag : Byte) (body : List Byte)
  | lineReset (tag : Byte) (body : List Byte)
  | plateAdd (tag : Byte) (body : List Byte)
  | plateRead (tag : Byte) (body : List Byte)
  | plateAmend (tag : Byte) (body : List Byte)
  | plateCancel (tag : Byte) (body : List Byte)
  | queueRead (tag : Byte) (body : List Byte)
  | queueMove (tag : Byte) (body : List Byte)
  | plateResume (tag : Byte) (body : List Byte)
  | plateEject (tag : Byte) (body : List Byte)
  | plateRetire (tag : Byte) (body : List Byte)
  | recipeWrite (tag : Byte) (body : List Byte)
  | recipeRead (tag : Byte) (body : List Byte)
  | recipeDelete (tag : Byte) (body : List Byte)
  | calWrite (tag : Byte) (body : List Byte)
  | calRead (tag : Byte) (body : List Byte)
  | configWrite (tag : Byte) (body : List Byte)
  | configRead (tag : Byte) (body : List Byte)
  | storeSave (tag : Byte) (body : List Byte)
  /-- STORE_SAVE_END: whether the bank read back verifies (R39). -/
  | storeSaveEnd (verified : Bool)
  | solventRead (tag : Byte) (body : List Byte)
  | replenishNow (tag : Byte) (body : List Byte)
  | bathChanged (tag : Byte) (body : List Byte)
  | dryerSet (tag : Byte) (body : List Byte)
  | dryerRead (tag : Byte) (body : List Byte)
  | faultRead (tag : Byte) (body : List Byte)
  | faultClear (tag : Byte) (body : List Byte)
  | faultMask (tag : Byte) (body : List Byte)
  | traceRead (tag : Byte) (body : List Byte)
  | traceClear (tag : Byte) (body : List Byte)
  | attnEnable (tag : Byte) (body : List Byte)
  | attnClear (tag : Byte) (body : List Byte)
  | outputSet (tag : Byte) (body : List Byte)
  | byteReceived (byte : Byte)
  | powerLoss
deriving DecidableEq, Repr

end Sys2Proof
end

