-- ==== Sys2Proof/Machine/State.lean ====
section
/-! DEFINITION. Everything the manual gives the controller to remember, block by block (00_scope.md, "The Controller"),
as plain data, and the state right after the first power-on. -/

namespace Sys2Proof.Machine

/-- No command of this controller ends the machine: what the manual calls faults are flags (R180) and channel states,
all of them data in `State`. Nothing raises a `Fault`, so the type has no value. -/
inductive Fault
deriving DecidableEq, Repr

/-- Why a command has no meaning. -/
inductive Refusal
  /-- Raised by an arm of `exec` for a command that has no meaning yet; safe: nothing follows from it. -/
  | notModelled (mnemonic : String)
  /-- Raised by the meaning of a command whose operand no wire, reader or frame can carry (`Instr.WellFormed`,
  log 33); safe: the machine never receives such a command. -/
  | illFormed
deriving DecidableEq, Repr

/-! ### Small shared shapes -/

/-- One value for each of the four lamp channels (R44, R168). -/
structure PerLamp (α : Type) where
  back : α
  main : α
  uva : α
  uvc : α
deriving DecidableEq, Repr

/-- One value for each of the eight drive channels (R165). -/
structure PerDrive (α : Type) where
  intakeRollers : α
  transport : α
  brushes : α
  pump : α
  heater : α
  elevator : α
  outfeed : α
  conveyor : α
deriving DecidableEq, Repr

/-- The six attention items (R191), in the order of R195. -/
inductive AttnItem
  | plateClosed | plateHeld | fault | traceHalf | queueEmpty | lineState
deriving DecidableEq, Repr

/-- A set of attention items, coded as R195 codes it: value 2^k for the item at place k. -/
abbrev AttnSet := BitVec 6

/-- The 35 fault flags (R180), in the order of its catalogue. -/
inductive Flag
  | inhibit | linkLoss | storeCheck | countersCheck
  | lampFail (ch : LampChannel)
  | lampWeak | lampLife | loadTimeout
  | driveFault (ch : DriveChannel)
  | washTemp | solventLimit | replenishBlocked | replenishAbort | transportStall
  | dryerOvertemp | dryerUndertemp | elevatorTimeout | orderMismatch | intakeUnknown
  | exitTimeout | overdry | traceOverflow | linkTrunc | linkOverrun | linkBadcheck
deriving DecidableEq, Repr

/-- A set of fault flags, coded as R195 codes it: bit k for the flag at place k of the catalogue. -/
abbrev FlagSet := BitVec 35

/-! ### Settings (chapter 2) -/

/-- Target, level and E_set of one lamp channel in a recipe (R27). -/
structure LampProcess where
  target : Nat
  level : Nat
  eSet : Nat
deriving DecidableEq, Repr

/-- The process fields of a recipe, which a plate record copies as its working recipe (R7, R27). -/
structure Process where
  back : LampProcess
  main : LampProcess
  exposureStretch : Nat
  holdOnUnderdose : Bool
  vNom : Nat
  dryTime : Nat
  uva : LampProcess
  uvc : LampProcess
  finisherStretch : Nat
deriving DecidableEq, Repr

/-- A recipe as its slot holds it (R27); its number is the slot's. -/
structure Recipe where
  name : List Byte
  process : Process
deriving DecidableEq, Repr

/-- A lamp channel group of the calibration record (R31). -/
structure LampCal where
  offset : Nat
  gain : Nat
  eNom : Nat
  ratedLife : Nat
deriving DecidableEq, Repr

/-- The washout group of the calibration record (R32). -/
structure WashCal where
  brushLength : Nat
  rinseLength : Nat
  bathVolume : Nat
  lambdaRef : Nat
  lambdaRepl : Nat
  lambdaMax : Nat
  exchange : Nat
  pumpRate : Nat
  speedBand : Nat
  tempSetpoint : Nat
deriving DecidableEq, Repr

/-- The calibration record (R31, R32). -/
structure Calibration where
  lamps : PerLamp LampCal
  wash : WashCal
  dryerSetpoint : Nat
deriving DecidableEq, Repr

/-- The input functions (R35, R160), in the order of R35. -/
inductive InputFunction
  | inhibit | exuLid | exuPresent | intakePresent | lfnPresent | exitPresent | washExitPresent
  | stkBusy | stkTaken | freshLow | operatorTake | none
deriving DecidableEq, Repr

/-- The output sources (R35, R162), in the order of R35. `sort k` is SORT_k. -/
inductive OutputSource
  | user | faultAny | lineRun | safeHold | stopped | exuLamp | lfnLamp | washBusy | drawerFree
  | plateReady | sort (k : Fin 4) | disabled
deriving DecidableEq, Repr

/-- The handoff modes (R35), in its order. -/
inductive HandoffMode
  | takenThenIdle | idleOnly | timed | operator
deriving DecidableEq, Repr

/-- An input line group (R35); debounce in ms. -/
structure InputCfg where
  function : InputFunction
  invert : Bool
  debounce : Nat
deriving DecidableEq, Repr

/-- An output line group (R35); minimum pulse width in ms. -/
structure OutputCfg where
  source : OutputSource
  invert : Bool
  minPulse : Nat
deriving DecidableEq, Repr

/-- The exit handoff group (R35); setup delay in ms, dwell and timeout in s. -/
structure ExitCfg where
  mode : HandoffMode
  pushFirst : Bool
  setupDelay : Nat
  timedDwell : Nat
  handoffTimeout : Nat
deriving DecidableEq, Repr

/-- The line configuration record (R35); watchdog period in s, 0 for off. -/
structure LineConfig where
  inputs : Vector InputCfg 12
  outputs : Vector OutputCfg 8
  exit : ExitCfg
  watchdog : Nat
  attention : AttnSet
deriving DecidableEq, Repr

/-- The working copy: recipe slots, calibration record and line configuration record (R26). -/
structure Settings where
  recipes : Vector (Option Recipe) 24
  cal : Calibration
  cfg : LineConfig
deriving DecidableEq, Repr

/-! ### RSS -/

inductive BankName
  | a | b
deriving DecidableEq, Repr

/-- A bank of the stored copy (R38). `valid`: its check value agrees with its contents (log 11). -/
structure Bank where
  settings : Settings
  saveNumber : Nat
  valid : Bool
deriving DecidableEq, Repr

/-- A STORE_SAVE in service: the bank it writes and the tag its reply carries (R39). -/
structure Save where
  bank : BankName
  tag : Byte
deriving DecidableEq, Repr

/-- The counters area (R40). `valid`: its check value agrees (log 11). -/
structure CountersArea where
  lambda : Nat
  lampOn : PerLamp Nat
  valid : Bool
deriving DecidableEq, Repr

structure Store where
  working : Settings
  unsaved : Bool
  bankA : Bank
  bankB : Bank
  save : Option Save
  counters : CountersArea
  /-- A counters write is in progress (R40). -/
  countersWriting : Bool
  /-- A counters write has been asked and waits (R40). -/
  countersWaiting : Bool
  /-- The last counters write failed: the condition of COUNTERS_CHECK (R40). -/
  countersFailed : Bool
  /-- Loading committed since the last counters write began (log 12). -/
  commitsSinceWrite : Nat
deriving DecidableEq, Repr

/-! ### PTB (chapter 1) -/

/-- The states of R8 but FREE, which is a slot without a record. -/
inductive PlateState
  | queued | loading | exposing | exposed | washing | washExit | drying | dryDone
  | finishing | finished | atExit | done | held | scrapped
deriving DecidableEq, Repr

inductive Station
  | exu | lfn
deriving DecidableEq, Repr

/-- The held reasons, in the order of R4. -/
inductive HoldReason
  | underdose | lampFail | orderMismatch | loadTimeout
deriving DecidableEq, Repr

/-- The notice codes, in the order of R6. -/
inductive Notice
  | underdose | lampFail | orderMismatch | loadTimeout | lampWeak | lampLife
  | washSpeedClamped | transportStall | overdry
deriving DecidableEq, Repr

/-- The outcomes of a run result (R5). -/
inductive RunOutcome
  | complete | underdose | skipped | notRun
deriving DecidableEq, Repr

/-- The outcomes of a closed record (R10). -/
inductive PlateOutcome
  | clean | warned | scrapped
deriving DecidableEq, Repr

/-- A run result (R5). -/
structure RunResult where
  dose : Nat
  samples : Nat
  segments : Nat
  outcome : RunOutcome
  traceComplete : Bool
deriving DecidableEq, Repr

/-- The washout part (R4); stall time in whole seconds. -/
structure WashoutPart where
  entrySpeed : Nat
  joined : Bool
  increment : Nat
  stallTime : Nat
deriving DecidableEq, Repr

/-- The dry part (R4), in seconds. -/
structure DryPart where
  accrued : Nat
  required : Nat
  overdry : Bool
deriving DecidableEq, Repr

/-- A plate record (R3, R4). Its slot is its place in the table. -/
structure PlateRecord where
  plateId : Nat
  state : PlateState
  recipeNo : Nat
  working : Process
  width : Nat
  length : Nat
  thickness : Nat
  relief : Nat
  coverage : Nat
  sortCode : Option Nat
  results : PerLamp RunResult
  interruptions : Nat
  notices : List Notice
  moreNotices : Bool
  intakePosition : Option Nat
  held : Option (Station × HoldReason)
  washout : Option WashoutPart
  drawer : Option DrawerNo
  dry : Option DryPart
  outcome : Option PlateOutcome
deriving DecidableEq, Repr

structure PlateTable where
  plates : Vector (Option PlateRecord) 40
  /-- The intake queue, head first; the plate id of an entry is its record's (R11, log 30). -/
  queue : List Slot
  lastUnmatched : Option Nat
deriving DecidableEq, Repr

/-! ### DIN (chapter 3) -/

/-- A run record (R45). Doses in µJ/cm². -/
structure RunRecord where
  slot : Slot
  plateId : Nat
  target : Nat
  eSet : Nat
  level : Nat
  eRef : Nat
  nNom : Nat
  nCap : Nat
  accumulator : Nat
  lampSamples : Nat
  segment : Nat
  segSamples : Nat
  windowIndex : Nat
  windowCount : Nat
  windowSum : Nat
  dark : Nat
  recording : Bool
  weakNoted : Bool
deriving DecidableEq, Repr

/-- How a run ended (R53). -/
inductive RunEnding
  | complete | underdose | lampFail
deriving DecidableEq, Repr

/-- An integration channel with its run record (R44, R45). -/
inductive Channel
  | idle
  | integrating (run : RunRecord)
  | paused (run : RunRecord)
  | ended (run : RunRecord) (ending : RunEnding)
deriving DecidableEq, Repr

/-- A trace record (R61) with its record number (R196). -/
structure TraceRecord where
  number : Nat
  plateId : Nat
  channel : LampChannel
  segment : Nat
  windowIndex : Nat
  count : Nat
  mean : Nat
  level : Nat
  dose : Nat
deriving DecidableEq, Repr

structure DoseIntegrator where
  channels : PerLamp Channel
  lampOn : PerLamp Nat
  carry : PerLamp Nat
  trace : List TraceRecord
  traceActive : Bool
  nextNumber : Nat
deriving DecidableEq, Repr

/-! ### EXU (chapter 4) -/

inductive ExuState
  | empty | load | exposing | exposed | held | clearWait
deriving DecidableEq, Repr

inductive Substage
  | back | main
deriving DecidableEq, Repr

structure Exposure where
  state : ExuState
  plate : Option Slot
  substage : Option Substage
  paused : Bool
  contPending : Bool
  /-- The extension of the accepted PLATE_RESUME, percent (R81). -/
  extension : Nat
  /-- The held reason PTB passed with the resume (R55). -/
  resumeReason : HoldReason
  armed : Bool
  readInProgress : Bool
  /-- Roller running time, ms (R71). -/
  loadTimer : Nat
deriving DecidableEq, Repr

/-! ### WOU (chapter 5) -/

/-- An entry of the transport list (R91). The leading edge is kept in 1/60000 mm, which a speed in mm/min adds once
each ms; stall time in ms. -/
structure TransportEntry where
  slot : Slot
  plateId : Nat
  length : Nat
  increment : Nat
  position : Nat
  committed : Bool
  stall : Nat
deriving DecidableEq, Repr

inductive TransportState
  | idle | running | stalled | stoppedByInhibit | stoppedByFault
deriving DecidableEq, Repr

/-- The admission blockers, in the order of R95. -/
inductive Blocker
  | none | lineNotRun | transportStopped | transportFull | gap | replenishment | flag | loading
  | speedBand | noDrawer
deriving DecidableEq, Repr

/-- A replenishment run (R108): run time T in s, pumped time in ms, exchange fraction in percent. -/
structure ReplenishRun where
  runTime : Nat
  pumped : Nat
  fraction : Nat
deriving DecidableEq, Repr

inductive Replenishment
  | none | pending | blocked
  | running (run : ReplenishRun)
deriving DecidableEq, Repr

structure Washout where
  list : List TransportEntry
  transport : TransportState
  speed : Nat
  stallHold : Bool
  exitWaiting : Bool
  offered : Option Slot
  blocker : Blocker
  lambda : Nat
  committed : Nat
  replenish : Replenishment
  temp : Option Nat
  /-- The latest reading lay outside the band in force when it was taken (R32, R106; log 35). -/
  tempOutside : Bool
deriving DecidableEq, Repr

/-! ### DRY (chapter 6) -/

/-- A drawer with the slot and plate id bound to it (R115). -/
inductive Drawer
  | free
  | reserved (slot : Slot) (plateId : Nat)
  | drying (slot : Slot) (plateId : Nat)
  | dryDone (slot : Slot) (plateId : Nat) (doneTime : Nat)
  | unloading (slot : Slot) (plateId : Nat)
deriving DecidableEq, Repr

inductive TempClass
  | none | below | inBand | above
deriving DecidableEq, Repr

structure Dryer where
  drawers : Vector Drawer 6
  temp : Option Nat
  tempClass : TempClass
  clock : Nat
deriving DecidableEq, Repr

/-! ### LFN (chapter 7) -/

inductive LfnState
  | empty | check | running | finished | held | clearWait
deriving DecidableEq, Repr

inductive RunStatus
  | waiting | active | paused | done | failed
deriving DecidableEq, Repr

/-- Status and continuation-pending mark of one finisher channel (R128). -/
structure FinisherRun where
  status : RunStatus
  contPending : Bool
deriving DecidableEq, Repr

structure Finisher where
  state : LfnState
  plate : Option Slot
  incoming : Bool
  tagRead : Option Nat
  uva : FinisherRun
  uvc : FinisherRun
  /-- The extension of the accepted PLATE_RESUME, percent (R135). -/
  extension : Nat
  /-- The held reason PTB passed with the resume (R55). -/
  resumeReason : HoldReason
  /-- Release: MOVING when true, NOT_STARTED when false (R137). -/
  moving : Bool
deriving DecidableEq, Repr

/-! ### TRC (chapter 8) -/

/-- An elevator phase (R141); a TRAVEL carries its target level. -/
inductive Phase
  | travel (target : Fin 8) | pick | place
deriving DecidableEq, Repr

/-- The elevator state (R140); FAULT carries the kept phase (R148). -/
inductive ElevatorState
  | idle
  | inPhase (phase : Phase)
  | fault (kept : Phase)
deriving DecidableEq, Repr

inductive ElevatorRequest
  | homing
  | put (slot : Slot) (drawer : DrawerNo)
  | take (drawer : DrawerNo) (slot : Slot)
deriving DecidableEq, Repr

/-- The washout exit table as TRC knows it (R140, R143). -/
inductive WashExitTable
  | empty
  | waitingPut (slot : Slot)
  | putBegun (slot : Slot)
  | clearWait
deriving DecidableEq, Repr

inductive HandoffState
  | empty | setup | pushing | offered | doneWaitClear
deriving DecidableEq, Repr

structure Transfer where
  elevator : ElevatorState
  level : Fin 8
  request : Option ElevatorRequest
  /-- Phase timer and its limit, ms (R141). -/
  timer : Nat
  limit : Nat
  halted : Bool
  pendingPut : Option Slot
  table : WashExitTable
  /-- Reports of the mechanism's level taken so far: the argument of the free value of log 9. -/
  levelReads : Nat
  handoff : HandoffState
  incoming : Option Slot
  plate : Option Slot
  values : ExitCfg
  taken : Bool
  /-- Time the setup delay has run, ms (R151). -/
  setupRun : Nat
  /-- Time the conveyor has run, ms (R152). -/
  dwell : Nat
  /-- The handoff timer, ms, while it runs (R154). -/
  handoffTimer : Option Nat
deriving DecidableEq, Repr

/-! ### LIO (chapter 9) -/

/-- An input line: raw level (energised), line state, debounce timer in ms while it runs (R158). -/
structure InputLine where
  raw : Bool
  active : Bool
  timer : Option Nat
deriving DecidableEq, Repr

/-- An output line: user value, driven state (energised), hold in ms while it runs (R163, R164). -/
structure OutputLine where
  user : Bool
  driven : Bool
  hold : Option Nat
deriving DecidableEq, Repr

/-- The setpoint of a drive channel that is ON (R165). -/
inductive Setpoint
  | none
  | value (n : Nat)
  | phase (p : Phase) (level : Fin 8)
deriving DecidableEq, Repr

inductive DriveState
  | off
  | on (setpoint : Setpoint)
  | fault
deriving DecidableEq, Repr

/-- A drive channel and its forced-off mark (R165, R169). -/
structure Drive where
  state : DriveState
  forced : Bool
deriving DecidableEq, Repr

/-- A lamp channel: ON at a level, or OFF (`none`), and its forced-off mark (R168, R169). -/
structure Lamp where
  level : Option Nat
  forced : Bool
deriving DecidableEq, Repr

structure LineIo where
  inputs : Vector InputLine 12
  outputs : Vector OutputLine 8
  drives : PerDrive Drive
  lamps : PerLamp Lamp
deriving DecidableEq, Repr

/-! ### FLT (chapter 10) -/

inductive LineState
  | init | run | safeHold | stopped
deriving DecidableEq, Repr

/-- The causes of a change of line state, in the order of R171. -/
inductive Cause
  | startUp | inhibit | inhibitRelease | lineHold | linkLoss | lineResume | lineReset
deriving DecidableEq, Repr

structure FaultMonitor where
  lineState : LineState
  cause : Cause
  flags : FlagSet
  masks : FlagSet
deriving DecidableEq, Repr

/-! ### LNK (chapter 11) -/

/-- The parser (R186). BODY and CHECK keep the bytes from the kind on; LENGTH and CHECK keep their first byte. -/
inductive Parser
  | hunt
  | length (first : Option Byte)
  | body (length : Nat) (got : List Byte)
  | check (got : List Byte) (first : Option Byte)
deriving DecidableEq, Repr

/-- An entry of the receive buffer (R187). -/
inductive RxEntry
  | frame (f : RxFrame)
  | badCheck
  | badLength
deriving DecidableEq, Repr

/-- A reply that waits to be sent (R189). Its body begins with its status; its whole frame (R185) is formed when the
transmitter takes it. -/
structure TxFrame where
  kind : Byte
  tag : Byte
  body : List Byte
deriving DecidableEq, Repr

/-- The watchdog timer while it runs: time run in ms, and the period in s it was started with (R190). -/
structure Watchdog where
  elapsed : Nat
  period : Nat
deriving DecidableEq, Repr

structure Link where
  parser : Parser
  /-- Time since the last byte, ms; watched in LENGTH, BODY and CHECK (R186). -/
  gap : Nat
  inService : Option RxEntry
  rx : List RxEntry
  tx : List TxFrame
  attnMark : Bool
  /-- The whole frame being sent, sync to check, as it goes over the line (R185, R189). -/
  sending : Option (List Byte)
  watchdog : Option Watchdog
  /-- RSS has handed the link watchdog group to LNK since power-on (R41, R190). -/
  handed : Bool
  /-- A valid frame has arrived before the link watchdog group was handed over: the timer starts at the hand-over
  (R190). -/
  heard : Bool
  attnPending : AttnSet
deriving DecidableEq, Repr

/-! ### The whole controller -/

structure State where
  /-- The commands that are waiting, first in, first out. -/
  pending : List Instr
  /-- Whether the controller has power (POWER_ON, POWER_LOSS; log 2). -/
  powered : Bool
  ptb : PlateTable
  rss : Store
  din : DoseIntegrator
  exu : Exposure
  wou : Washout
  dry : Dryer
  lfn : Finisher
  trc : Transfer
  lio : LineIo
  flt : FaultMonitor
  lnk : Link
deriving DecidableEq, Repr

/-! ### Defaults and the state after the first power-on -/

/-- The same value for each lamp channel. -/
def perLamp {α : Type} (a : α) : PerLamp α := ⟨a, a, a, a⟩

/-- The same value for each drive channel. -/
def perDrive {α : Type} (a : α) : PerDrive α := ⟨a, a, a, a, a, a, a, a⟩

/-- The default calibration record (R31, R32). -/
def defaultCalibration : Calibration :=
  { lamps := perLamp { offset := 0, gain := 1024, eNom := 1000, ratedLife := 1000 }
    wash := { brushLength := 1200, rinseLength := 400, bathVolume := 120, lambdaRef := 15000,
              lambdaRepl := 4000, lambdaMax := 6000, exchange := 10, pumpRate := 20, speedBand := 5,
              tempSetpoint := 28 }
    dryerSetpoint := 60 }

/-- The default exit handoff group (R35). -/
def defaultExit : ExitCfg :=
  { mode := .operator, pushFirst := false, setupDelay := 500, timedDwell := 8, handoffTimeout := 120 }

/-- The default line configuration record (R35). -/
def defaultConfig : LineConfig :=
  { inputs := #v[⟨.inhibit, false, 10⟩, ⟨.exuLid, false, 20⟩, ⟨.exuPresent, false, 20⟩,
      ⟨.intakePresent, false, 20⟩, ⟨.washExitPresent, false, 20⟩, ⟨.lfnPresent, false, 20⟩,
      ⟨.exitPresent, false, 20⟩, ⟨.stkBusy, false, 20⟩, ⟨.stkTaken, false, 20⟩, ⟨.freshLow, false, 20⟩,
      ⟨.operatorTake, false, 20⟩, ⟨.none, false, 20⟩]
    outputs := #v[⟨.faultAny, false, 0⟩, ⟨.lineRun, false, 0⟩, ⟨.plateReady, false, 0⟩,
      ⟨.sort 0, false, 0⟩, ⟨.sort 1, false, 0⟩, ⟨.sort 2, false, 0⟩, ⟨.sort 3, false, 0⟩,
      ⟨.disabled, false, 0⟩]
    exit := defaultExit
    watchdog := 120
    attention := 63#6 }

/-- The defaults: every recipe slot empty, every field at its default (R41). -/
def defaultSettings : Settings :=
  { recipes := Vector.replicate 24 none, cal := defaultCalibration, cfg := defaultConfig }

/-- A counters area with nothing in it (R42's values for a bad area but for λ). -/
def blankCounters : CountersArea := { lambda := 0, lampOn := perLamp 0, valid := false }

/-- A bank that holds no settings saved: its check value does not agree (DESIGN CHOICE, log 1 and log 11). -/
def blankBank : Bank := { settings := defaultSettings, saveNumber := 0, valid := false }

def State.blankStore : Store :=
  { working := defaultSettings, unsaved := true, bankA := blankBank, bankB := blankBank, save := none,
    counters := blankCounters, countersWriting := false, countersWaiting := false, countersFailed := false,
    commitsSinceWrite := 0 }

/-- Every block at the value it takes at power-on before the start-up load, with a non-volatile store that holds
nothing (R1, R11, R44, R59, R61, R62, R66, R87, R114, R128, R140, R149, R158, R163 to R165, R168, R171, R180, R186,
R187, R189 to R191). Station states are those the stations hold until their end-of-INIT readings (DESIGN CHOICE, log 14,
unsafe: they are not shown to anyone before INIT ends). -/
def State.blank : State :=
  { pending := []
    powered := false
    ptb := { plates := Vector.replicate 40 none, queue := [], lastUnmatched := none }
    rss := State.blankStore
    din := { channels := perLamp .idle, lampOn := perLamp 0, carry := perLamp 0, trace := [],
             traceActive := true, nextNumber := 0 }
    exu := { state := .empty, plate := none, substage := none, paused := false, contPending := false,
             extension := 0, resumeReason := .underdose, armed := false, readInProgress := false,
             loadTimer := 0 }
    wou := { list := [], transport := .idle, speed := 0, stallHold := false, exitWaiting := false,
             offered := none, blocker := .none, lambda := 0, committed := 0, replenish := .none,
             temp := none, tempOutside := false }
    dry := { drawers := Vector.replicate 6 .free, temp := none, tempClass := .none, clock := 0 }
    lfn := { state := .empty, plate := none, incoming := false, tagRead := none,
             uva := ⟨.waiting, false⟩, uvc := ⟨.waiting, false⟩, extension := 0, resumeReason := .lampFail,
             moving := false }
    trc := { elevator := .idle, level := 0, request := none, timer := 0, limit := 0, halted := false,
             pendingPut := none, table := .empty, levelReads := 0, handoff := .empty, incoming := none,
             plate := none, values := defaultExit, taken := false, setupRun := 0, dwell := 0,
             handoffTimer := none }
    lio := { inputs := Vector.replicate 12 ⟨false, false, none⟩,
             outputs := Vector.replicate 8 ⟨false, false, none⟩,
             drives := perDrive ⟨.off, false⟩, lamps := perLamp ⟨none, false⟩ }
    flt := { lineState := .init, cause := .startUp, flags := 0, masks := 0 }
    lnk := { parser := .hunt, gap := 0, inService := none, rx := [], tx := [], attnMark := false,
             sending := none, watchdog := none, handed := false, heard := false, attnPending := 0 } }

/-- The controller right after its first power-on (R41, R42): no bank is valid, so the defaults are loaded, the unsaved-
edits mark is yes and STORE_CHECK (bit 2 of the catalogue) is set; the counters area does not agree, so COUNTERS_CHECK
(bit 3) is set, λ is the working λ_max and a counters write is in progress; the link watchdog group has been handed
over; the line is INIT. The two reports have raised the FAULT attention item (R181, R191). DESIGN CHOICE for what the
store holds before the first save and for the raw input levels, log 1, unsafe. -/
def State.reset : State :=
  { State.blank with
    powered := true
    rss := { State.blankStore with
             counters := { lambda := 6000, lampOn := perLamp 0, valid := true }
             countersWriting := true
             countersFailed := true }
    wou := { State.blank.wou with lambda := 6000 }
    flt := { State.blank.flt with flags := 12#35 }
    lnk := { State.blank.lnk with attnMark := true, handed := true, attnPending := 4#6 } }

end Sys2Proof.Machine
end

