-- ==== Sys2Proof/Machine/Ops.lean ====
section
/-! DEFINITION. The named operations every block's meaning is written over: block updates, lookup by lamp and drive
channel, the plate table (chapter 1), notices, holds and closing, and the attention report of LNK (R191). -/

namespace Sys2Proof.Machine

/-! ### Updates of one block -/

def modPtb (f : PlateTable → PlateTable) (s : State) : State := { s with ptb := f s.ptb }
def modRss (f : Store → Store) (s : State) : State := { s with rss := f s.rss }
def modDin (f : DoseIntegrator → DoseIntegrator) (s : State) : State := { s with din := f s.din }
def modExu (f : Exposure → Exposure) (s : State) : State := { s with exu := f s.exu }
def modWou (f : Washout → Washout) (s : State) : State := { s with wou := f s.wou }
def modDry (f : Dryer → Dryer) (s : State) : State := { s with dry := f s.dry }
def modLfn (f : Finisher → Finisher) (s : State) : State := { s with lfn := f s.lfn }
def modTrc (f : Transfer → Transfer) (s : State) : State := { s with trc := f s.trc }
def modLio (f : LineIo → LineIo) (s : State) : State := { s with lio := f s.lio }
def modFlt (f : FaultMonitor → FaultMonitor) (s : State) : State := { s with flt := f s.flt }
def modLnk (f : Link → Link) (s : State) : State := { s with lnk := f s.lnk }

/-! ### Lookup by channel -/

def PerLamp.get {α : Type} (p : PerLamp α) : LampChannel → α
  | .back => p.back
  | .main => p.main
  | .uva => p.uva
  | .uvc => p.uvc

def PerLamp.set {α : Type} (p : PerLamp α) (ch : LampChannel) (v : α) : PerLamp α :=
  match ch with
  | .back => { p with back := v }
  | .main => { p with main := v }
  | .uva => { p with uva := v }
  | .uvc => { p with uvc := v }

def PerDrive.get {α : Type} (p : PerDrive α) : DriveChannel → α
  | .intakeRollers => p.intakeRollers
  | .transport => p.transport
  | .brushes => p.brushes
  | .pump => p.pump
  | .heater => p.heater
  | .elevator => p.elevator
  | .outfeed => p.outfeed
  | .conveyor => p.conveyor

def PerDrive.set {α : Type} (p : PerDrive α) (ch : DriveChannel) (v : α) : PerDrive α :=
  match ch with
  | .intakeRollers => { p with intakeRollers := v }
  | .transport => { p with transport := v }
  | .brushes => { p with brushes := v }
  | .pump => { p with pump := v }
  | .heater => { p with heater := v }
  | .elevator => { p with elevator := v }
  | .outfeed => { p with outfeed := v }
  | .conveyor => { p with conveyor := v }

def lampChannels : List LampChannel := [.back, .main, .uva, .uvc]

def driveChannels : List DriveChannel :=
  [.intakeRollers, .transport, .brushes, .pump, .heater, .elevator, .outfeed, .conveyor]

/-! ### Attention (R191) -/

/-- The place of an attention item: its value in a set is 2^place (R195). -/
def AttnItem.place : AttnItem → Nat
  | .plateClosed => 0
  | .plateHeld => 1
  | .fault => 2
  | .traceHalf => 3
  | .queueEmpty => 4
  | .lineState => 5

/-- The set that holds one item. -/
def attnBit (a : AttnItem) : AttnSet := BitVec.twoPow 6 a.place

/-- Whether a set holds an item. -/
def attnHas (m : AttnSet) (a : AttnItem) : Bool := m.getLsbD a.place

/-- The enable set: the attention group of the working line configuration (R191). -/
def attnEnabled (s : State) : AttnSet := s.rss.working.cfg.attention

/-- R191: an item reported and not pending becomes pending; when it is also enabled the ATTENTION mark is set. A report
of an item already pending has no effect. -/
def raiseAttn (a : AttnItem) (s : State) : State :=
  if attnHas s.lnk.attnPending a then s
  else modLnk (fun l => { l with attnPending := l.attnPending ||| attnBit a
                                 attnMark := l.attnMark || attnHas (attnEnabled s) a }) s

/-! ### The plate table (R1, R2) -/

/-- The record in a slot; `none` when the slot is FREE (R1). -/
def plateAt (s : State) (k : Slot) : Option PlateRecord := s.ptb.plates[k.val]

def setPlate (k : Slot) (r : Option PlateRecord) (s : State) : State :=
  modPtb (fun t => { t with plates := t.plates.set k.val r k.isLt }) s

/-- Change the record in a slot; a FREE slot stays FREE. -/
def modPlate (k : Slot) (f : PlateRecord → PlateRecord) (s : State) : State :=
  match plateAt s k with
  | none => s
  | some r => setPlate k (some (f r)) s

/-- The slots in rising order. -/
def allSlots : List Slot := List.finRange 40

/-- The lowest-numbered FREE slot (R1). -/
def lowestFree (s : State) : Option Slot := allSlots.find? (fun k => (plateAt s k).isNone)

/-- Whether the record in slot `k` carries plate id `id`. -/
def carriesId (s : State) (id : Nat) (k : Slot) : Bool :=
  match plateAt s k with
  | none => false
  | some r => r.plateId == id

/-- The plate-id index (R2): the slot of the record that carries the id. -/
def slotOfId (s : State) (id : Nat) : Option Slot := allSlots.find? (carriesId s id)

/-- The count of FREE slots (R179). -/
def freeSlots (s : State) : Nat := (allSlots.filter (fun k => (plateAt s k).isNone)).length

/-- The state of the record in a slot, `none` for FREE. -/
def plateState (s : State) (k : Slot) : Option PlateState := (plateAt s k).map (·.state)

/-- The plate id in a slot, 0 for a FREE slot. -/
def plateIdAt (s : State) (k : Slot) : Nat := ((plateAt s k).map (·.plateId)).getD 0

/-- R8: PTB moves a record from one state to another on a station's event, changing the parts `f` names at the
transition. A record that is not in the From state of the table is left alone (log 30). -/
def movePlate (k : Slot) (src dst : PlateState) (f : PlateRecord → PlateRecord) (s : State) : State :=
  match plateAt s k with
  | none => s
  | some r => if r.state = src then setPlate k (some { f r with state := dst }) s else s

/-! ### Notices, holds, closing (R6, R9, R10) -/

/-- R6: append a notice code to a record. -/
def appendNotice (n : Notice) (r : PlateRecord) : PlateRecord :=
  if n ∈ r.notices then r
  else if r.notices.length < Config.noticeLimit then { r with notices := r.notices ++ [n] }
  else { r with moreNotices := true }

def addNotice (k : Slot) (n : Notice) (s : State) : State := modPlate k (appendNotice n) s

/-- The notice a held reason appends (R9). -/
def HoldReason.notice : HoldReason → Notice
  | .underdose => .underdose
  | .lampFail => .lampFail
  | .orderMismatch => .orderMismatch
  | .loadTimeout => .loadTimeout

/-- The states from which R8 and R9 let a station hold a plate. -/
def PlateState.holdable : PlateState → Bool
  | .loading | .exposing | .dryDone | .finishing | .held => true
  | _ => false

/-- R9: hold a plate: state HELD, held fields, the reason's notice, PLATE_HELD reported. -/
def holdPlate (k : Slot) (at_ : Station) (reason : HoldReason) (s : State) : State :=
  match plateAt s k with
  | none => s
  | some r =>
    if r.state.holdable then
      raiseAttn .plateHeld
        (setPlate k (some (appendNotice reason.notice { r with state := .held, held := some (at_, reason) })) s)
    else s

/-- R10: the outcome a record entering DONE receives. -/
def doneOutcome (r : PlateRecord) : PlateOutcome :=
  if r.notices = [] ∧ r.moreNotices = false then .clean else .warned

/-- R10, R155: a record in AT_EXIT enters DONE and is closed; PLATE_CLOSED is reported. -/
def closeDone (k : Slot) (s : State) : State :=
  match plateAt s k with
  | none => s
  | some r =>
    if r.state = .atExit then
      raiseAttn .plateClosed (setPlate k (some { r with state := .done, outcome := some (doneOutcome r) }) s)
    else s

/-- R10, R25: a HELD record enters SCRAPPED and is closed; its held fields go and PLATE_CLOSED is reported. -/
def closeScrapped (k : Slot) (s : State) : State :=
  match plateAt s k with
  | none => s
  | some r =>
    if r.state = .held then
      raiseAttn .plateClosed
        (setPlate k (some { r with state := .scrapped, held := none, outcome := some .scrapped }) s)
    else s

/-! ### The intake queue (R11) -/

/-- R11: the entry of a record leaves the queue; a queue then empty reports QUEUE_EMPTY. -/
def leaveQueue (k : Slot) (s : State) : State :=
  modPtb (fun t => { t with queue := t.queue.filter (· ≠ k) }) s

/-- R11: QUEUE_EMPTY is reported when an entry has left and the queue is empty. -/
def reportQueueEmpty (s : State) : State :=
  if s.ptb.queue = [] then raiseAttn .queueEmpty s else s

/-- The position of a record's entry, 1 for the head (R20). -/
def queuePosition (s : State) (k : Slot) : Nat := s.ptb.queue.idxOf k + 1

end Sys2Proof.Machine
end

