-- ==== Sys2Proof/Machine/Flags.lean ====
section
/-! DEFINITION. The fault flags (R180) as a set, the fault summary (R181), and the fields of EXU, LFN, DRY that are read
from the flags. -/

namespace Sys2Proof.Machine

def LampChannel.place : LampChannel → Nat
  | .back => 0
  | .main => 1
  | .uva => 2
  | .uvc => 3

def DriveChannel.place : DriveChannel → Nat
  | .intakeRollers => 0
  | .transport => 1
  | .brushes => 2
  | .pump => 3
  | .heater => 4
  | .elevator => 5
  | .outfeed => 6
  | .conveyor => 7

/-- The place of a flag in the catalogue of R180, from 0, the eight DRIVE_FAULT flags counted one by one (R195). -/
def Flag.place : Flag → Nat
  | .inhibit => 0
  | .linkLoss => 1
  | .storeCheck => 2
  | .countersCheck => 3
  | .lampFail ch => 4 + LampChannel.place ch
  | .lampWeak => 8
  | .lampLife => 9
  | .loadTimeout => 10
  | .driveFault ch => 11 + DriveChannel.place ch
  | .washTemp => 19
  | .solventLimit => 20
  | .replenishBlocked => 21
  | .replenishAbort => 22
  | .transportStall => 23
  | .dryerOvertemp => 24
  | .dryerUndertemp => 25
  | .elevatorTimeout => 26
  | .orderMismatch => 27
  | .intakeUnknown => 28
  | .exitTimeout => 29
  | .overdry => 30
  | .traceOverflow => 31
  | .linkTrunc => 32
  | .linkOverrun => 33
  | .linkBadcheck => 34

/-- The 35 flags in the order of the catalogue (R180). -/
def allFlags : List Flag :=
  [.inhibit, .linkLoss, .storeCheck, .countersCheck, .lampFail .back, .lampFail .main, .lampFail .uva,
   .lampFail .uvc, .lampWeak, .lampLife, .loadTimeout, .driveFault .intakeRollers, .driveFault .transport,
   .driveFault .brushes, .driveFault .pump, .driveFault .heater, .driveFault .elevator, .driveFault .outfeed,
   .driveFault .conveyor, .washTemp, .solventLimit, .replenishBlocked, .replenishAbort, .transportStall,
   .dryerOvertemp, .dryerUndertemp, .elevatorTimeout, .orderMismatch, .intakeUnknown, .exitTimeout, .overdry,
   .traceOverflow, .linkTrunc, .linkOverrun, .linkBadcheck]

/-- The set that holds one flag. -/
def flagBit (f : Flag) : FlagSet := BitVec.twoPow 35 f.place

/-- Whether a set holds a flag. -/
def flagHas (m : FlagSet) (f : Flag) : Bool := m.getLsbD f.place

/-- Whether a flag is set: its set mark (R180). Effects follow the set mark and never the mask mark. -/
def isSet (f : Flag) (s : State) : Bool := flagHas s.flt.flags f

/-- R181: the fault summary is set exactly when at least one unmasked flag is set. -/
def faultSummary (s : State) : Bool := (s.flt.flags &&& ~~~s.flt.masks) != 0#35

/-- The number of flags in a set (R179). -/
def flagCount (m : FlagSet) : Nat := (allFlags.filter (flagHas m)).length

/-- The classes of flags (R180), in the order line, station, warning. -/
inductive FlagClass
  | line | station | warning
deriving DecidableEq, Repr

/-- The class of a flag (the catalogue of R180). -/
def flagClass : Flag → FlagClass
  | .inhibit | .linkLoss | .storeCheck => .line
  | .lampFail _ | .loadTimeout | .driveFault _ | .washTemp | .solventLimit | .replenishAbort
  | .dryerOvertemp | .elevatorTimeout | .orderMismatch | .exitTimeout => .station
  | .countersCheck | .lampWeak | .lampLife | .replenishBlocked | .transportStall | .dryerUndertemp
  | .intakeUnknown | .overdry | .traceOverflow | .linkTrunc | .linkOverrun | .linkBadcheck => .warning

/-- R69: a flag that closes the intake read is set. -/
def intakeFlagged (s : State) : Bool :=
  isSet (.lampFail .back) s || isSet (.lampFail .main) s || isSet .loadTimeout s
    || isSet (.driveFault .intakeRollers) s

/-- R74: a lamp-failure flag of the exposure unit is set. -/
def exuLampFailed (s : State) : Bool := isSet (.lampFail .back) s || isSet (.lampFail .main) s

/-- R132: a lamp-failure flag of the finisher is set. -/
def lfnLampFailed (s : State) : Bool := isSet (.lampFail .uva) s || isSet (.lampFail .uvc) s

/-- R129: a station flag of the finisher is set, which closes it to takes. -/
def lfnFlagged (s : State) : Bool :=
  lfnLampFailed s || isSet .orderMismatch s || isSet (.driveFault .outfeed) s

/-- R95, condition 6: a flag that blocks admission is set. -/
def admissionFlagged (s : State) : Bool :=
  isSet .washTemp s || isSet .replenishAbort s || isSet .solventLimit s
    || isSet (.driveFault .transport) s || isSet (.driveFault .brushes) s

/-- R116: reservations are open except while DRYER_OVERTEMP or the heater's DRIVE_FAULT flag is set. -/
def reservationsOpen (s : State) : Bool :=
  !(isSet .dryerOvertemp s) && !(isSet (.driveFault .heater) s)

end Sys2Proof.Machine
end

