-- ==== Sys2Proof/Machine/LineIo.lean ====
section
/-! DEFINITION. LIO (chapter 9): input functions, output sources and driven states, drive channels and lamp channels, and
the report of a flag's condition to FLT (R180, R181), which every block uses. -/

namespace Sys2Proof.Machine

/-! ### Input functions (R158, R160) -/

def allInputs : List (Fin 12) := List.finRange 12
def allOutputs : List (Fin 8) := List.finRange 8

def inputAt (s : State) (i : Fin 12) : InputLine := s.lio.inputs[i.val]
def inputCfg (s : State) (i : Fin 12) : InputCfg := s.rss.working.cfg.inputs[i.val]
def outputAt (s : State) (i : Fin 8) : OutputLine := s.lio.outputs[i.val]
def outputCfg (s : State) (i : Fin 8) : OutputCfg := s.rss.working.cfg.outputs[i.val]

def setInput (i : Fin 12) (v : InputLine) (s : State) : State :=
  modLio (fun l => { l with inputs := l.inputs.set i.val v i.isLt }) s

def setOutput (i : Fin 8) (v : OutputLine) (s : State) : State :=
  modLio (fun l => { l with outputs := l.outputs.set i.val v i.isLt }) s

/-- R160: the state of a function is the line state of the input line that carries it; a function carried by no line
reads inactive. `none` is no function. -/
def inputActive (fn : InputFunction) (s : State) : Bool :=
  allInputs.any (fun i => (inputCfg s i).function == fn && (inputAt s i).active)

/-- The inhibit input as LIO gives it. -/
def inhibitActive (s : State) : Bool := inputActive .inhibit s

/-- R158: a raw level counts as active when energised with invert no, or de-energised with invert yes. -/
def rawSense (raw invert : Bool) : Bool := raw != invert

/-! ### Drive and lamp channel states -/

def driveState (c : DriveChannel) (s : State) : DriveState := (s.lio.drives.get c).state

def driveFaulted (c : DriveChannel) (s : State) : Bool :=
  match driveState c s with
  | .fault => true
  | _ => false

def driveIsOn (c : DriveChannel) (s : State) : Bool :=
  match driveState c s with
  | .on _ => true
  | _ => false

def lampLevel (c : LampChannel) (s : State) : Option Nat := (s.lio.lamps.get c).level

def lampIsOn (c : LampChannel) (s : State) : Bool := (lampLevel c s).isSome

/-! ### Output sources (R162) and driven states (R163) -/

/-- The plate's sort code the handoff presents, or `none` when the sources are inactive (R150). A record with no sort
code shows 0. -/
def presentedSort (s : State) : Option Nat :=
  match s.trc.handoff with
  | .setup | .pushing | .offered =>
    match s.trc.plate with
    | none => none
    | some k => some (((plateAt s k).bind (·.sortCode)).getD 0)
  | _ => none

/-- WOU's busy condition (R88). -/
def washBusy (s : State) : Bool :=
  !s.wou.list.isEmpty || (match s.wou.replenish with | .running _ => true | _ => false)

def allDrawers : List DrawerNo := List.finRange 6
def drawerAt (s : State) (d : DrawerNo) : Drawer := s.dry.drawers[d.val]

def setDrawer (d : DrawerNo) (v : Drawer) (s : State) : State :=
  modDry (fun y => { y with drawers := y.drawers.set d.val v d.isLt }) s

/-- The lowest-numbered FREE drawer (R116). -/
def lowestFreeDrawer (s : State) : Option DrawerNo := allDrawers.find? (fun d => drawerAt s d == .free)

/-- The count of FREE drawers. -/
def freeDrawers (s : State) : Nat := (allDrawers.filter (fun d => drawerAt s d == .free)).length

/-- R162: whether a source is active; USER is the line's own user value. -/
def sourceActive (s : State) (user : Bool) : OutputSource → Bool
  | .user => user
  | .faultAny => faultSummary s
  | .lineRun => s.flt.lineState == .run
  | .safeHold => s.flt.lineState == .safeHold
  | .stopped => s.flt.lineState == .stopped
  | .exuLamp => lampIsOn .back s || lampIsOn .main s
  | .lfnLamp => lampIsOn .uva s || lampIsOn .uvc s
  | .washBusy => washBusy s
  | .drawerFree => (lowestFreeDrawer s).isSome
  | .plateReady => s.trc.handoff == .offered
  | .sort k => ((presentedSort s).getD 0).testBit k.val
  | .disabled => false

/-- R163: the wanted state of a line with configuration `c` and user value `user`. -/
def wantedState (s : State) (c : OutputCfg) (user : Bool) : Bool :=
  match c.source with
  | .disabled => false
  | src => sourceActive s user src != c.invert

/-- R163: with no hold running the driven state takes the wanted state, and a change starts the hold, unless the width
is 0. -/
def settledOutput (s : State) (c : OutputCfg) (o : OutputLine) : OutputLine :=
  match o.hold with
  | some _ => o
  | none =>
    if wantedState s c o.user = o.driven then o
    else { o with driven := wantedState s c o.user, hold := if c.minPulse = 0 then none else some 0 }

def refreshOutput (s : State) (i : Fin 8) : State :=
  setOutput i (settledOutput s (outputCfg s i) (outputAt s i)) s

/-- R163: LIO acts on every output line at a change of a source. During INIT the lines are held de-energised. -/
def refreshOutputs (s : State) : State :=
  if s.flt.lineState = .init then s else allOutputs.foldl refreshOutput s

/-! ### Reports to FLT (R180, R181) -/

/-- R180, R181: a block reports a flag's condition. A flag already set stays set; a flag newly set and unmasked reports
FAULT; the outputs follow the summary. -/
def setFlag (f : Flag) (s : State) : State :=
  if isSet f s then s
  else
    let s1 := refreshOutputs (modFlt (fun t => { t with flags := t.flags ||| flagBit f }) s)
    if flagHas s.flt.masks f then s1 else raiseAttn .fault s1

/-- A flag is cleared by the block that owns it: STORE_CHECK at a save that succeeds (R39). -/
def clearFlag (f : Flag) (s : State) : State :=
  refreshOutputs (modFlt (fun t => { t with flags := t.flags &&& ~~~flagBit f }) s)

/-! ### Requests to drive channels (R165) and lamp channels (R168) -/

def setDrive (c : DriveChannel) (v : Drive) (s : State) : State :=
  modLio (fun l => { l with drives := l.drives.set c v }) s

def setLamp (c : LampChannel) (v : Lamp) (s : State) : State :=
  modLio (fun l => { l with lamps := l.lamps.set c v }) s

/-- R165: a request ON with a setpoint. Refused in FAULT, and from OFF while the inhibit is active. -/
def driveOn (c : DriveChannel) (sp : Setpoint) (s : State) : State :=
  match driveState c s with
  | .fault => s
  | .on _ => setDrive c { s.lio.drives.get c with state := .on sp } s
  | .off => if inhibitActive s then s else setDrive c { s.lio.drives.get c with state := .on sp } s

/-- R165: a request OFF. -/
def driveOff (c : DriveChannel) (s : State) : State :=
  match driveState c s with
  | .on _ => setDrive c { s.lio.drives.get c with state := .off } s
  | _ => s

/-- R165: a new setpoint for a channel that is ON. -/
def driveSet (c : DriveChannel) (sp : Setpoint) (s : State) : State :=
  match driveState c s with
  | .on _ => setDrive c { s.lio.drives.get c with state := .on sp } s
  | _ => s

/-- R168: whether LIO refuses to turn a lamp channel from OFF to ON. -/
def lampRefused (c : LampChannel) (s : State) : Bool :=
  inhibitActive s || (match c with
    | .back | .main => inputActive .exuLid s
    | .uva | .uvc => false)

/-- R168: a request ON at a level. -/
def lampOn (c : LampChannel) (level : Nat) (s : State) : State :=
  if lampIsOn c s || !lampRefused c s then
    refreshOutputs (setLamp c { s.lio.lamps.get c with level := some level } s)
  else s

/-- R168: a request OFF. -/
def lampOff (c : LampChannel) (s : State) : State :=
  if lampIsOn c s then refreshOutputs (setLamp c { s.lio.lamps.get c with level := none } s) else s

/-- R168: a new level for a lamp channel that is ON. -/
def lampSet (c : LampChannel) (level : Nat) (s : State) : State :=
  if lampIsOn c s then setLamp c { s.lio.lamps.get c with level := some level } s else s

end Sys2Proof.Machine
end

