-- ==== Sys2Proof/Machine/Store.lean ====
section
/-! DEFINITION. RSS (chapter 2): the banks of the stored copy, the counters area and its writes, and the power-on loads. -/

namespace Sys2Proof.Machine

/-! ### Banks (R38) -/

def bank (n : BankName) (r : Store) : Bank :=
  match n with
  | .a => r.bankA
  | .b => r.bankB

def setBank (n : BankName) (v : Bank) (r : Store) : Store :=
  match n with
  | .a => { r with bankA := v }
  | .b => { r with bankB := v }

def otherBank : BankName → BankName
  | .a => .b
  | .b => .a

/-- How far save number `x` follows `y`, counted with wrap-around past 4294967295 to 0 (R38). -/
def saveDistance (x y : Nat) : Nat := (x + (4294967296 - y % 4294967296)) % 4294967296

/-- R38: the save number `x` follows `y` by 1 to 2147483648. -/
def follows (x y : Nat) : Bool := 1 ≤ saveDistance x y && saveDistance x y ≤ 2147483648

/-- The newer of two valid banks (R38). Where their save numbers make neither or both newer, the choice is free
(log 10). -/
def newerBank (r : Store) : BankName :=
  let a := follows r.bankA.saveNumber r.bankB.saveNumber
  let b := follows r.bankB.saveNumber r.bankA.saveNumber
  if a && !b then .a
  else if b && !a then .b
  else if Config.bankAStands r.bankA.saveNumber r.bankB.saveNumber then .a else .b

/-- The current bank: the newer valid bank, or the one valid bank, or none (R38). -/
def currentBank (r : Store) : Option BankName :=
  match r.bankA.valid, r.bankB.valid with
  | true, true => some (newerBank r)
  | true, false => some .a
  | false, true => some .b
  | false, false => none

/-- The bank the next save writes: the one that is not current, bank A when none is (R39). -/
def saveTarget (r : Store) : BankName :=
  match currentBank r with
  | none => .a
  | some n => otherBank n

/-- The number the next save writes (R39). -/
def nextSaveNumber (r : Store) : Nat :=
  match currentBank r with
  | none => 1
  | some n => ((bank n r).saveNumber + 1) % 4294967296

/-! ### The counters area (R40) -/

/-- A counters write begins: the area receives the working values as they stand (R40). -/
def beginCountersWrite (s : State) : State :=
  modRss (fun r => { r with
    counters := { lambda := s.wou.lambda, lampOn := s.din.lampOn, valid := true }
    countersWriting := true
    countersWaiting := false
    commitsSinceWrite := 0 }) s

/-- R40: a block asks a counters write; while one or a save is in progress it waits. -/
def askCountersWrite (s : State) : State :=
  if s.rss.countersWriting || s.rss.save.isSome then modRss (fun r => { r with countersWaiting := true }) s
  else beginCountersWrite s

/-- R40: the writes asked meanwhile are made as one write when the write or save has ended. -/
def startWaitingCounters (s : State) : State :=
  if s.rss.countersWaiting && !s.rss.countersWriting && s.rss.save.isNone then beginCountersWrite s else s

/-- R40: a counters write ends its read-back. -/
def endCountersWrite (verified : Bool) (s : State) : State :=
  if s.rss.countersWriting then
    let s1 := modRss (fun r => { r with
      counters := { r.counters with valid := verified }
      countersWriting := false
      countersFailed := !verified }) s
    let s2 := if verified then s1 else setFlag .countersCheck s1
    startWaitingCounters s2
  else s

/-! ### Settings read by the other blocks -/

def lampCal (s : State) (ch : LampChannel) : LampCal := s.rss.working.cal.lamps.get ch
def washCal (s : State) : WashCal := s.rss.working.cal.wash
def dryerSetpoint (s : State) : Nat := s.rss.working.cal.dryerSetpoint

/-- The unsaved-edits mark becomes yes (R26). -/
def markUnsaved (s : State) : State := modRss (fun r => { r with unsaved := true }) s

/-- The level, E_set and target of a channel in a working recipe (R45). -/
def Process.lamp (p : Process) : LampChannel → LampProcess
  | .back => p.back
  | .main => p.main
  | .uva => p.uva
  | .uvc => p.uvc

/-- The stretch of a channel (R45). -/
def Process.stretch (p : Process) : LampChannel → Nat
  | .back | .main => p.exposureStretch
  | .uva | .uvc => p.finisherStretch

/-- R60: a lamp is past its rated life when its lamp hours, of the lamp-on time DIN keeps (R59), are at or above
the rated life. -/
def lampPast (s : State) (ch : LampChannel) : Bool :=
  decide ((lampCal s ch).ratedLife ≤ s.din.lampOn.get ch / 3600)

/-- The condition of LAMP_LIFE: any of the four lamps is past its rated life (R60). -/
def anyLampPast (s : State) : Bool := lampChannels.any (lampPast s)

/-- R60: the test made after the counters load, after each segment end and after a CAL_WRITE with a lamp group. -/
def testLampLife (s : State) : State := if anyLampPast s then setFlag .lampLife s else s

end Sys2Proof.Machine
end

