-- ==== Sys2Proof/Machine/Dose.lean ====
section
/-! DEFINITION. DIN (chapter 3): runs, segments, samples, windows, regulation, lamp hours and the trace buffer. DIN's own
part of every step; what the stations do on its reports is in Exposure.lean and Finisher.lean. -/

namespace Sys2Proof.Machine

/-! ### Channels and run records (R44, R45) -/

def channelAt (s : State) (ch : LampChannel) : Channel := s.din.channels.get ch

def setChannel (ch : LampChannel) (c : Channel) (s : State) : State :=
  modDin (fun d => { d with channels := d.channels.set ch c }) s

/-- Change the run record of a segment in progress. -/
def modRun (ch : LampChannel) (f : RunRecord → RunRecord) (s : State) : State :=
  match channelAt s ch with
  | .integrating r => setChannel ch (.integrating (f r)) s
  | _ => s

/-- Change a plate's run result for a channel (R5). -/
def modResult (k : Slot) (ch : LampChannel) (f : RunResult → RunResult) (s : State) : State :=
  modPlate k (fun p => { p with results := p.results.set ch (f (p.results.get ch)) }) s

/-- Dose in mJ/cm² as reported: the accumulator divided by 1000, rounded down (R45). -/
def reportedDose (r : RunRecord) : Nat := r.accumulator / 1000

/-! ### The trace buffer (R61, R62) -/

/-- R62: a record dropped at a full buffer suspends recording and takes the mark from every segment in progress. -/
def suspendChannel : Channel → Channel
  | .integrating r => .integrating { r with recording := false }
  | c => c

def suspendRecording (s : State) : State :=
  modDin (fun d => { d with
    traceActive := false
    channels := ⟨suspendChannel d.channels.back, suspendChannel d.channels.main,
                 suspendChannel d.channels.uva, suspendChannel d.channels.uvc⟩ }) s

/-- The next record number, wrapping from 65535 to 0 (R196). -/
def nextRecordNumber (n : Nat) : Nat := (n + 1) % 65536

/-- The trace record of a window (R61), with its number (R196). -/
def traceRecord (ch : LampChannel) (r : RunRecord) (number : Nat) : TraceRecord :=
  { number := number, plateId := r.plateId, channel := ch, segment := r.segment, windowIndex := r.windowIndex,
    count := r.windowCount, mean := r.windowSum / r.windowCount, level := r.level, dose := reportedDose r }

/-- R62: at a window close a record is written, dropped, or not written. -/
def writeTrace (ch : LampChannel) (r : RunRecord) (s : State) : State :=
  if r.recording then
    if s.din.trace.length < Config.traceLimit then
      let s1 := modDin (fun d => { d with trace := d.trace ++ [traceRecord ch r d.nextNumber]
                                          nextNumber := nextRecordNumber d.nextNumber }) s
      if s1.din.trace.length = Config.traceHalf then raiseAttn .traceHalf s1 else s1
    else
      suspendRecording
        (modResult r.slot ch (fun x => { x with traceComplete := false })
          (setFlag .traceOverflow (modDin (fun d => { d with nextNumber := nextRecordNumber d.nextNumber }) s)))
  else modResult r.slot ch (fun x => { x with traceComplete := false }) s

/-! ### Regulation (R57, R58) -/

/-- The new level from the level in force, E_set and the window's mean, clamped to 10–100 (R57). -/
def regulatedLevel (level eSet mean : Nat) : Nat :=
  if mean = 0 then 100 else clampNat 10 100 ((2 * level * eSet + mean) / (2 * mean))

/-- R58: the window just closed shows a weak lamp. -/
def weakWindow (r : RunRecord) (mean : Nat) : Bool := r.level == 100 && decide (mean < r.eSet * 9 / 10)

/-- R58: LAMP_WEAK is noted once for each run. -/
def testWeak (ch : LampChannel) (r : RunRecord) (mean : Nat) (s : State) : State :=
  if weakWindow r mean && !r.weakNoted then
    setFlag .lampWeak (addNotice r.slot .lampWeak (modRun ch (fun x => { x with weakNoted := true }) s))
  else s

/-- R57: a full window end is a regulation point when the window index is 2 or above and E_set is above 0. -/
def regulate (ch : LampChannel) (r : RunRecord) (mean : Nat) (s : State) : State :=
  if 2 ≤ r.windowIndex ∧ 0 < r.eSet then
    let new := regulatedLevel r.level r.eSet mean
    let s1 := modRun ch (fun x => { x with level := new }) (testWeak ch r mean s)
    if new = r.level then s1 else lampSet ch new s1
  else s

/-! ### Windows (R56) -/

/-- R56 at a final close: the mean and the trace record only. -/
def closeFinalWindow (ch : LampChannel) (s : State) : State :=
  match channelAt s ch with
  | .integrating r => if 0 < r.windowCount then writeTrace ch r s else s
  | _ => s

/-- R56 at a full window end. -/
def closeFullWindow (ch : LampChannel) (s : State) : State :=
  match channelAt s ch with
  | .integrating r =>
    modRun ch (fun x => { x with windowIndex := satAdd 65535 x.windowIndex 1, windowCount := 0, windowSum := 0 })
      (regulate ch r (r.windowSum / r.windowCount) (writeTrace ch r s))
  | _ => s

/-! ### Lamp hours (R59) -/

/-- R59, R60: the segment's samples join the carry, each 5 samples make 1 s of lamp-on time, LAMP_LIFE is tested and a
counters write is asked. -/
def addLampTime (ch : LampChannel) (samples : Nat) (s : State) : State :=
  askCountersWrite (testLampLife (modDin (fun d => { d with
    lampOn := d.lampOn.set ch (satAdd Config.countMax (d.lampOn.get ch) ((d.carry.get ch + samples) / 5))
    carry := d.carry.set ch ((d.carry.get ch + samples) % 5) }) s))

/-- The end of a segment, common to R53, R54 and R136: lamp OFF, final window, lamp time. -/
def endSegment (ch : LampChannel) (samples : Nat) (s : State) : State :=
  addLampTime ch samples (closeFinalWindow ch (lampOff ch s))

/-! ### The end of a run (R53) and the pause of a segment (R54) -/

/-- The outcome an ending writes; a dark lamp leaves NOT_RUN (R53). -/
def RunEnding.outcome : RunEnding → RunOutcome
  | .complete => .complete
  | .underdose => .underdose
  | .lampFail => .notRun

/-- R53 but for its report to the station. -/
def endRun (ch : LampChannel) (ending : RunEnding) (s : State) : State :=
  match channelAt s ch with
  | .integrating r =>
    let s1 := endSegment ch r.segSamples s
    match channelAt s1 ch with
    | .integrating r1 =>
      setChannel ch (.ended r1 ending)
        (modResult r1.slot ch (fun x => { x with dose := reportedDose r1, samples := r1.lampSamples,
                                                 segments := r1.segment, outcome := ending.outcome }) s1)
    | _ => s1
  | _ => s

/-- R54 but for its report to the station. -/
def pauseChannel (ch : LampChannel) (s : State) : State :=
  match channelAt s ch with
  | .integrating r =>
    let s1 := modPlate r.slot (fun p => { p with interruptions := satAdd 255 p.interruptions 1 })
      (endSegment ch r.segSamples s)
    match channelAt s1 ch with
    | .integrating r1 => setChannel ch (.paused r1) s1
    | _ => s1
  | _ => s

/-! ### Samples (R48 to R52) -/

/-- R48: counts into irradiance, in 0.01 mW/cm². -/
def irradiance (c : LampCal) (raw : Nat) : Nat := min 65535 ((raw - c.offset) * c.gain / 1024)

/-- R49 steps 2 to 4 on the run record. -/
def addSample (e : Nat) (r : RunRecord) : RunRecord :=
  { r with
    accumulator := satAdd Config.countMax r.accumulator (2 * e)
    lampSamples := r.lampSamples + 1
    segSamples := r.segSamples + 1
    windowCount := r.windowCount + 1
    windowSum := r.windowSum + e }

/-- R52: the dark check of a sample, which the first 25 samples of a segment are not given. -/
def darkCheck (e : Nat) (r : RunRecord) : RunRecord :=
  if Config.windowLength < r.segSamples then
    { r with dark := if e < Config.darkLimit then r.dark + 1 else 0 }
  else r

/-- What a sample does to the run after steps 2 to 4 of R49: an ending of R50, R52 or R51 in that order, or none. The cap
is reached at or above N_cap (DEDUCED, log 19). -/
def sampleEnding (e : Nat) (r : RunRecord) : Option RunEnding :=
  if r.target ≤ r.accumulator then some .complete
  else if Config.darkCount ≤ (darkCheck e r).dark then some .lampFail
  else if r.nCap ≤ r.lampSamples then some .underdose
  else none

/-- R49 steps 1 to 4: the sample is converted, integrated, counted, and written to the run result. -/
def storeSample (ch : LampChannel) (r1 : RunRecord) (s : State) : State :=
  modResult r1.slot ch (fun x => { x with dose := reportedDose r1, samples := r1.lampSamples })
    (setChannel ch (.integrating r1) s)

/-- R49: a sample arrival on an INTEGRATING channel; the ending to report to the station, if any. A reading for a channel
that is not INTEGRATING is discarded (R48). -/
def takeSample (ch : LampChannel) (raw : Nat) (s : State) : State × Option RunEnding :=
  match channelAt s ch with
  | .integrating r =>
    let e := irradiance (lampCal s ch) raw
    let r1 := addSample e r
    match sampleEnding e r1 with
    | some .complete => (endRun ch .complete (storeSample ch r1 s), some .complete)
    | some .lampFail =>
      (endRun ch .lampFail (setFlag (.lampFail ch) (storeSample ch (darkCheck e r1) s)), some .lampFail)
    | some .underdose => (endRun ch .underdose (storeSample ch (darkCheck e r1) s), some .underdose)
    | none =>
      let s1 := storeSample ch (darkCheck e r1) s
      (if r1.windowCount = Config.windowLength then closeFullWindow ch s1 else s1, none)
  | _ => (s, none)

/-! ### Segment starts (R47) and run starts (R46) -/

/-- R47: DIN starts the segment only with the inhibit inactive and, for BACK and MAIN, the lid closed. -/
def segmentAllowed (ch : LampChannel) (s : State) : Bool := !lampRefused ch s

/-- R62: whether the segment about to start is recorded, and whether recording becomes ACTIVE first. -/
def recordingResumes (s : State) : Bool :=
  s.din.traceActive || (!(isSet .traceOverflow s) && decide (s.din.trace.length < Config.traceLimit))

/-- R47 steps 1 and 2 on the run record, and its recording mark (step 3). -/
def freshSegment (recording : Bool) (r : RunRecord) : RunRecord :=
  { r with segment := satAdd 255 r.segment 1, segSamples := 0, dark := 0, windowCount := 0, windowSum := 0,
           windowIndex := 1, recording := recording }

/-- R47: a segment start for run `r`; whether it started. On a refusal the run is PAUSED. -/
def startSegment (ch : LampChannel) (r : RunRecord) (s : State) : State × Bool :=
  if segmentAllowed ch s then
    let rec_ := recordingResumes s
    let r1 := freshSegment rec_ r
    let s1 := modResult r.slot ch (fun x => { x with segments := r1.segment }) s
    let s2 := if rec_ then modDin (fun d => { d with traceActive := true }) s1 else s1
    let s3 := if lampPast s2 ch then addNotice r.slot .lampLife s2 else s2
    let s4 := lampOn ch r1.level s3
    if lampIsOn ch s4 then (setChannel ch (.integrating r1) s4, true)
    else
      (setChannel ch (.paused { r1 with segment := r.segment })
        (modResult r.slot ch (fun x => { x with segments := r.segment }) s4), false)
  else (setChannel ch (.paused r) s, false)

/-- What DIN answers a station that asks for a run (R46). -/
inductive StartAnswer
  | busy | skipped | refused | started
deriving DecidableEq, Repr

/-- R46: the reference irradiance. -/
def referenceIrradiance (eNom level eSet : Nat) : Nat :=
  if 0 < eSet then eSet else max 1 (eNom * level / 100)

/-- R46: N_nom, the number of samples that would deliver the target (mJ/cm²) at E_ref. -/
def nominalSamples (target eRef : Nat) : Nat := ceilDiv (target * 1000) (2 * eRef)

/-- R45, R46: the run record at run start. R45 sets the recording mark at each segment start; until the first one it is
no, which nothing reads (DESIGN CHOICE, log 43). -/
def openRun (k : Slot) (p : PlateRecord) (ch : LampChannel) (eNom : Nat) : RunRecord :=
  let lp := p.working.lamp ch
  let eRef := referenceIrradiance eNom lp.level lp.eSet
  let nNom := nominalSamples lp.target eRef
  { slot := k, plateId := p.plateId, target := lp.target * 1000, eSet := lp.eSet, level := lp.level,
    eRef := eRef, nNom := nNom, nCap := nNom * p.working.stretch ch / 100, accumulator := 0, lampSamples := 0,
    segment := 0, segSamples := 0, windowIndex := 1, windowCount := 0, windowSum := 0, dark := 0,
    recording := false, weakNoted := false }

/-- R46: whether the channel takes a run start. -/
def channelFree : Channel → Bool
  | .idle | .ended _ _ => true
  | .integrating _ | .paused _ => false

/-- R46: a SKIPPED run's result. -/
def skippedResult (x : RunResult) : RunResult :=
  { x with dose := 0, samples := 0, segments := 0, outcome := .skipped }

/-- R46: a station starts a run on a channel for the plate in slot `k`. -/
def startRun (ch : LampChannel) (k : Slot) (s : State) : State × StartAnswer :=
  match plateAt s k with
  | none => (s, .busy)
  | some p =>
    if channelFree (channelAt s ch) then
      if (p.working.lamp ch).target = 0 then
        (setChannel ch .idle (modResult k ch skippedResult s), .skipped)
      else
        match startSegment ch (openRun k p ch (lampCal s ch).eNom) s with
        | (s1, true) => (s1, .started)
        | (s1, false) => (s1, .refused)
    else (s, .busy)

/-! ### Continuation (R55) and release (R44, R136) -/

/-- R55: the amount a continuation adds to N_cap. -/
def capRaise (nNom extension : Nat) : Nat := nNom * extension / 100

/-- What DIN answers a station that asks for a continuation (R55). -/
inductive ContinueAnswer
  | notTaken | refused | started
deriving DecidableEq, Repr

/-- R55: whether a run in ENDED may be continued. -/
def continuable : RunEnding → Bool
  | .complete => false
  | .underdose | .lampFail => true

/-- R55: continue the ENDED run of plate `k` on a channel. -/
def continueRun (ch : LampChannel) (k : Slot) (extension : Nat) (s : State) : State × ContinueAnswer :=
  match channelAt s ch with
  | .ended r ending =>
    if continuable ending ∧ r.slot = k then
      match startSegment ch { r with nCap := r.nCap + capRaise r.nNom extension }
          (modResult k ch (fun x => { x with outcome := .notRun }) s) with
      | (s1, true) => (s1, .started)
      | (s1, false) => (s1, .refused)
    else (s, .notTaken)
  | _ => (s, .notTaken)

/-- R44, R82: the exposure unit's release sets a channel that is ENDED to IDLE. -/
def releaseEnded (ch : LampChannel) (s : State) : State :=
  match channelAt s ch with
  | .ended _ _ => setChannel ch .idle s
  | _ => s

/-- R136: the finisher's release also discards an open run; a segment in progress is ended as at a run's end, without an
interruption and without an outcome. -/
def releaseChannel (ch : LampChannel) (s : State) : State :=
  match channelAt s ch with
  | .integrating r => setChannel ch .idle (endSegment ch r.segSamples s)
  | .idle => s
  | .paused _ | .ended _ _ => setChannel ch .idle s

end Sys2Proof.Machine
end

