-- ==== Sys2Proof/Machine/Intake.lean ====
section
/-! DEFINITION. EXU's intake and clearing (R68 to R70, R83): the trigger of the intake reader, the entry to EMPTY and to
CLEAR_WAIT, and the hand-over of an admitted plate (R79). -/

namespace Sys2Proof.Machine

/-- R69: the conditions on which the station triggers the intake reader. -/
def intakeReady (s : State) : Bool :=
  s.exu.state == .empty && !s.exu.readInProgress && s.exu.armed && inputActive .intakePresent s
    && !(inputActive .exuPresent s) && s.flt.lineState == .run && !(isSet .storeCheck s) && !(intakeFlagged s)

/-- R69: the station tests its intake conditions and triggers the reader when they hold. -/
def tryIntake (s : State) : State :=
  if intakeReady s then modExu (fun e => { e with readInProgress := true, armed := false }) s else s

/-- The station enters EMPTY and tests its intake conditions (R69, R83). -/
def exuEnterEmpty (s : State) : State := tryIntake (modExu (fun e => { e with state := .empty }) s)

/-- The station enters CLEAR_WAIT without a plate, and EMPTY at once when EXU_PRESENT is inactive (R83). -/
def exuEnterClearWait (s : State) : State :=
  let s1 := modExu (fun e => { e with state := .clearWait, plate := none, substage := none, paused := false,
                                      contPending := false }) s
  if inputActive .exuPresent s1 then s1 else exuEnterEmpty s1

/-- R71: the rollers run in LOAD when the lid is closed, the inhibit is inactive and the channel is not in FAULT. LIO
refuses the ON in the last two cases (R165). -/
def updateRollers (s : State) : State :=
  if s.exu.state = .load then
    if inputActive .exuLid s || inhibitActive s then driveOff .intakeRollers s else driveOn .intakeRollers .none s
  else s

end Sys2Proof.Machine
end

