-- ==== Sys2Proof/Machine/DryerMap.lean ====
section
/-! DEFINITION. DRY's drawer reservation (R116) and its heater channel (R122). -/

namespace Sys2Proof.Machine

/-- R116: DRY grants the lowest-numbered FREE drawer to the plate in slot `k`, or refuses. -/
def reserveDrawer (k : Slot) (s : State) : Option (DrawerNo × State) :=
  if reservationsOpen s then
    match lowestFreeDrawer s with
    | none => none
    | some d => some (d, refreshOutputs (setDrawer d (.reserved k (plateIdAt s k)) s))
  else none

/-- R122: the heater runs when INIT has ended, the inhibit is inactive, DRYER_OVERTEMP is not set and the channel is not
in FAULT; otherwise it is OFF. LIO refuses the ON of a channel in FAULT (R165). -/
def testHeater (s : State) : State :=
  if s.flt.lineState != .init && !(inhibitActive s) && !(isSet .dryerOvertemp s) then
    driveOn .heater (.value (dryerSetpoint s)) s
  else driveOff .heater s

/-- R122: a changed setpoint is carried to a heater that is ON. -/
def carrySetpoint (s : State) : State := driveSet .heater (.value (dryerSetpoint s)) s

end Sys2Proof.Machine
end

