-- ==== Sys2Proof/Machine/Elevator.lean ====
section
/-! DEFINITION. TRC's elevator (R140 to R148): phases, the arbiter, puts and takes, halts, timeouts and recovery. What the
completed picks and places do to the other blocks is in Transfers.lean. -/

namespace Sys2Proof.Machine

/-! ### Commanding a phase (R141) -/

/-- The limit of a TRAVEL in ms: 2 s for each level between current and target, and 10 s (R141). -/
def travelLimit (current target : Fin 8) : Nat :=
  Config.travelPerLevelMs * ((current.val - target.val) + (target.val - current.val)) + Config.travelMarginMs

/-- The limit of a phase begun at a level (R141). -/
def phaseLimit (current : Fin 8) : Phase → Nat
  | .travel target => travelLimit current target
  | .pick | .place => Config.pickPlaceLimitMs

/-- The level a phase is commanded with (R141). -/
def phaseLevel (current : Fin 8) : Phase → Fin 8
  | .travel target => target
  | .pick | .place => current

/-- R141: TRC commands a phase; the timer starts at 0 and the elevator channel is asked ON. LIO refuses the ON while the
elevator is halted, and the phase is then made afresh (R147). -/
def commandPhase (p : Phase) (s : State) : State :=
  driveOn .elevator (.phase p (phaseLevel s.trc.level p))
    (modTrc (fun t => { t with elevator := .inPhase p, timer := 0, limit := phaseLimit t.level p }) s)

/-- R141: a TRAVEL whose target is the current level is not commanded; the next phase `next` is taken at once. -/
def travelThen (target : Fin 8) (next : Phase) (s : State) : State :=
  if s.trc.level = target then commandPhase next s else commandPhase (.travel target) s

/-- The level of a drawer: drawers 1 to 6 stand at levels 1 to 6 (R140, R145). -/
def drawerLevel (d : DrawerNo) : Fin 8 := ⟨d.val + 1, by omega⟩

/-! ### The arbiter (R144) and the begin of a put and a take (R145, R146) -/

/-- The drawer a record's drawer part names. -/
def drawerOf (s : State) (k : Slot) : Option DrawerNo := (plateAt s k).bind (·.drawer)

/-- R145 steps 1 and 2. A put whose record names no drawer is not begun (log 30). -/
def beginPut (k : Slot) (s : State) : State :=
  match drawerOf s k with
  | none => s
  | some d =>
    travelThen 0 .pick
      (modTrc (fun t => { t with pendingPut := none, request := some (.put k d), table := .putBegun k }) s)

/-- R146 steps 1 and 2: LFN is told and sets incoming to yes (R130). -/
def beginTake (d : DrawerNo) (k : Slot) (s : State) : State :=
  travelThen (drawerLevel d) .pick
    (modLfn (fun l => { l with incoming := true }) (modTrc (fun t => { t with request := some (.take d k) }) s))

/-- The done time and slot of a DRY_DONE drawer. -/
def doneDrawer (s : State) (d : DrawerNo) : Option (Nat × Slot) :=
  match drawerAt s d with
  | .dryDone k _ t => some (t, k)
  | _ => none

/-- R144: of two DRY_DONE drawers the one with the lower done time, and the earlier-numbered of equals. -/
def betterTake (s : State) (best : Option (DrawerNo × Nat × Slot)) (d : DrawerNo) : Option (DrawerNo × Nat × Slot) :=
  match doneDrawer s d, best with
  | none, b => b
  | some x, none => some (d, x)
  | some x, some (d0, t0, k0) => if x.1 < t0 then some (d, x) else some (d0, t0, k0)

/-- The drawer and slot a take would go to. -/
def takeChoice (s : State) : Option (DrawerNo × Nat × Slot) := allDrawers.foldl (betterTake s) none

/-- R144: the conditions on which the arbiter chooses. -/
def arbiterReady (s : State) : Bool :=
  s.trc.elevator == .idle && s.trc.request.isNone && !s.trc.halted
    && (s.flt.lineState == .run || s.flt.lineState == .safeHold)

/-- R144: the conditions of a take but for the drawer. -/
def takeAllowed (s : State) : Bool :=
  s.lfn.state == .empty && !s.lfn.incoming && s.flt.lineState == .run && !(lfnFlagged s)

/-- R144: the arbiter makes its choice. -/
def arbiter (s : State) : State :=
  if arbiterReady s then
    match s.trc.pendingPut with
    | some k => beginPut k s
    | none =>
      if takeAllowed s then
        match takeChoice s with
        | some (d, _, k) => beginTake d k s
        | none => s
      else s
  else s

/-- The request is removed and the elevator enters IDLE (R142, R145, R146), where its channel is OFF (DESIGN CHOICE,
log 21), and the arbiter chooses. -/
def elevatorToIdle (s : State) : State :=
  arbiter (driveOff .elevator (modTrc (fun t => { t with elevator := .idle, request := none }) s))

/-! ### Homing (R142) and arrivals -/

/-- R142: the elevator homes at the end of INIT. -/
def beginHoming (s : State) : State :=
  let s1 := modTrc (fun t => { t with request := some .homing }) s
  if s1.trc.level = 0 then elevatorToIdle s1 else commandPhase (.travel 0) s1

/-- What follows a TRAVEL's end at `target` (R142, R145, R146). -/
def afterTravel (target : Fin 8) (s : State) : State :=
  match s.trc.request with
  | some .homing => elevatorToIdle s
  | some (.put _ _) => commandPhase (if target = 0 then .pick else .place) s
  | some (.take _ _) => commandPhase (if target = 7 then .place else .pick) s
  | none => s

/-- R141: the mechanism reports the arrival at the target level. -/
def arrivedReport (s : State) : State :=
  match s.trc.elevator with
  | .inPhase (.travel target) => afterTravel target (modTrc (fun t => { t with level := target }) s)
  | _ => s

/-! ### Puts raised (R143) -/

/-- R143: WOU tells TRC that the plate in slot `k` lies on the washout exit table. -/
def raisePut (k : Slot) (s : State) : State :=
  arbiter (modTrc (fun t => { t with pendingPut := some k, table := .waitingPut k }) s)

/-- Whether a put is in hand (R143). -/
def putInHand (s : State) : Bool :=
  match s.trc.request with
  | some (.put _ _) => true
  | _ => false

/-- R143: WASH_EXIT_PRESENT changes at TRC's washout exit table. -/
def exitSensorChange (active : Bool) (s : State) : State :=
  match s.trc.table with
  | .empty => if active && !putInHand s then modTrc (fun t => { t with table := .clearWait }) s else s
  | .clearWait => if active then s else modTrc (fun t => { t with table := .empty }) s
  | _ => s

/-! ### Halts (R147) -/

/-- The causes of halted: the inhibit, or the elevator channel in FAULT (R140). -/
def haltCause (s : State) : Bool := inhibitActive s || driveFaulted .elevator s

/-- The level the mechanism reports when TRC takes it anew (R147, R148): a free value (log 9). -/
def readLevel (s : State) : State :=
  modTrc (fun t => { t with level := Config.mechanismLevel t.levelReads, levelReads := t.levelReads + 1 }) s

/-- R147: the phase in hand is taken up afresh. -/
def phaseAfresh (s : State) : State :=
  match s.trc.elevator with
  | .inPhase (.travel target) =>
    if s.trc.level = target then afterTravel target s else commandPhase (.travel target) s
  | .inPhase p => commandPhase p s
  | .idle => arbiter s
  | .fault _ => s

/-- R147: halted becomes yes; the level is taken when a TRAVEL is stopped. -/
def haltBegins (s : State) : State :=
  let s1 := modTrc (fun t => { t with halted := true }) s
  match s1.trc.elevator with
  | .inPhase (.travel _) => readLevel s1
  | _ => s1

/-- R147: TRC takes halted anew after a change of one of its causes. -/
def updateHalted (s : State) : State :=
  if haltCause s then
    if s.trc.halted then s else haltBegins s
  else if s.trc.halted then phaseAfresh (modTrc (fun t => { t with halted := false }) s)
  else s

/-! ### Timeout and recovery (R148) -/

/-- R148: the phase timer reaches the phase's limit. The timer stands while halted. -/
def phaseTimeout (s : State) : State :=
  match s.trc.elevator with
  | .inPhase p =>
    if s.trc.halted then s
    else
      modTrc (fun t => { t with elevator := .fault p })
        (setFlag .elevatorTimeout (driveOff .elevator s))
  | _ => s

/-- R148: ELEVATOR_TIMEOUT is cleared. -/
def elevatorRecovery (s : State) : State :=
  match s.trc.elevator with
  | .fault p =>
    let s1 := modTrc (fun t => { t with elevator := .inPhase p }) s
    let s2 := match p with
      | .travel _ => readLevel s1
      | _ => s1
    if s2.trc.halted then s2 else phaseAfresh s2
  | _ => s

end Sys2Proof.Machine
end

