-- ==== Sys2Proof/Machine/Washout.lean ====
section
/-! DEFINITION. WOU (chapter 5): loading and speed, the transport, admission, the marks, stalls, the solvent temperature
and replenishment. -/

namespace Sys2Proof.Machine

/-! ### Increment and speed (R89, R90) -/

/-- R89: the removed volume in mm³, rounded down once at the end. -/
def removedVolume (p : PlateRecord) : Nat := p.width * p.length * p.relief * (100 - p.coverage) / 100000

/-- R89: the loading increment. -/
def loadingIncrement (bathVolume : Nat) (p : PlateRecord) : Nat := removedVolume p / (bathVolume * 10)

/-- R90: the effective loading. -/
def lambdaEff (s : State) : Nat := s.wou.lambda + s.wou.committed

/-- R90: the speed before it is raised to 100; at or above λ_ref it is below the limit. -/
def rawSpeed (vNom lambdaRef eff : Nat) : Nat := if eff < lambdaRef then vNom * (lambdaRef - eff) / lambdaRef else 0

/-- R90: the speed of a plate. -/
def plateSpeed (vNom lambdaRef eff : Nat) : Nat := max Config.speedMin (rawSpeed vNom lambdaRef eff)

/-- R90: the speed clamped mark. -/
def speedClamped (vNom lambdaRef eff : Nat) : Bool := decide (rawSpeed vNom lambdaRef eff < Config.speedMin)

/-! ### The transport (R91 to R93) -/

/-- One mm of transport position (log 4). -/
def mm (n : Nat) : Nat := n * 60000

/-- The marks (R92), in mm. -/
def gapMarkAt (e : TransportEntry) : Nat := e.length + Config.minGap
def endMarkAt (w : WashCal) : Nat := w.brushLength + w.rinseLength
def commitMarkAt (w : WashCal) (e : TransportEntry) : Nat := w.brushLength + e.length
def exitMarkAt (w : WashCal) (e : TransportEntry) : Nat := w.brushLength + w.rinseLength + e.length

/-- R93: the transport state from the list and the stop causes. -/
def transportStateOf (s : State) : TransportState :=
  if s.wou.list.isEmpty then .idle
  else if inhibitActive s then .stoppedByInhibit
  else if driveFaulted .transport s || driveFaulted .brushes s then .stoppedByFault
  else if s.wou.stallHold then .stalled
  else .running

/-- R93: WOU takes the transport state, turns the channels on entering and off on leaving RUNNING, and sets the speed to
0 when the list is empty. -/
def takeTransport (s : State) : State :=
  let new := transportStateOf s
  let s1 := modWou (fun w => { w with transport := new, speed := if w.list.isEmpty then 0 else w.speed }) s
  if new = .running ∧ s.wou.transport ≠ .running then
    driveOn .brushes .none (driveOn .transport (.value s1.wou.speed) s1)
  else if new ≠ .running ∧ s.wou.transport = .running then driveOff .brushes (driveOff .transport s1)
  else s1

/-! ### Admission (R94 to R98) -/

/-- Whether the tail of a list has reached its gap mark; an empty list has no tail (R95, condition 4). -/
def tailPastGap (l : List TransportEntry) : Bool :=
  match l.getLast? with
  | none => true
  | some e => decide (mm (gapMarkAt e) ≤ e.position)

/-- R95, condition 7: λ_eff + inc is at or below λ_max. -/
def loadingFits (s : State) (p : PlateRecord) : Bool :=
  decide (lambdaEff s + loadingIncrement (washCal s).bathVolume p ≤ (washCal s).lambdaMax)

/-- The speed of a plate at the present evaluation (R90). -/
def speedNow (s : State) (p : PlateRecord) : Nat := plateSpeed p.working.vNom (washCal s).lambdaRef (lambdaEff s)

/-- R95, condition 8: the list is empty or v lies within the speed band of the transport speed. -/
def inSpeedBand (s : State) (p : PlateRecord) : Bool :=
  s.wou.list.isEmpty ||
    decide ((speedNow s p - s.wou.speed) + (s.wou.speed - speedNow s p) ≤ s.wou.speed * (washCal s).speedBand / 100)

/-- R95: the replenishment states that let a plate in. -/
def replenishmentOpen : Replenishment → Bool
  | .none | .blocked => true
  | .pending | .running _ => false

/-- R95: the code of the first of conditions 1 to 8 that fails, or NONE. -/
def firstBlocker (s : State) (p : PlateRecord) : Blocker :=
  if s.flt.lineState ≠ .run then .lineNotRun
  else if s.wou.transport ≠ .idle ∧ s.wou.transport ≠ .running then .transportStopped
  else if Config.transportLimit ≤ s.wou.list.length then .transportFull
  else if !tailPastGap s.wou.list then .gap
  else if !replenishmentOpen s.wou.replenish then .replenishment
  else if admissionFlagged s then .flag
  else if !loadingFits s p then .loading
  else if !inSpeedBand s p then .speedBand
  else .none

def setBlocker (b : Blocker) (s : State) : State := modWou (fun w => { w with blocker := b }) s

/-- R79: WOU has admitted the plate; the exposure unit, EXPOSED with that plate, enters CLEAR_WAIT. -/
def exuHandOver (k : Slot) (s : State) : State :=
  if s.exu.state = .exposed ∧ s.exu.plate = some k then exuEnterClearWait s else s

/-- R97: WOU admits the plate in slot `k`, whose record is `p`, into drawer `d`. -/
def admitPlate (k : Slot) (p : PlateRecord) (d : DrawerNo) (s : State) : State :=
  let inc := loadingIncrement (washCal s).bathVolume p
  let joined := !s.wou.list.isEmpty
  let speed := if joined then s.wou.speed else speedNow s p
  let clamped := speedClamped p.working.vNom (washCal s).lambdaRef (lambdaEff s)
  let entry : TransportEntry :=
    { slot := k, plateId := p.plateId, length := p.length, increment := inc, position := 0, committed := false,
      stall := 0 }
  let s1 := refreshOutputs (modWou (fun w => { w with list := w.list ++ [entry], speed := speed,
                                                      committed := w.committed + inc }) s)
  let s2 := movePlate k .exposed .washing (fun r => { r with
    washout := some { entrySpeed := speed, joined := joined, increment := inc, stallTime := 0 }
    drawer := some d }) s1
  let s3 := if clamped then addNotice k .washSpeedClamped s2 else s2
  takeTransport (exuHandOver k (modWou (fun w => { w with offered := none, blocker := .none }) s3))

/-- R95: the plate in slot `k`, whose record is `p`, is tested against the conditions. -/
def testAdmission (k : Slot) (p : PlateRecord) (s : State) : State :=
  if firstBlocker s p = .none then
    match reserveDrawer k s with
    | none => setBlocker .noDrawer s
    | some (d, s1) => admitPlate k p d s1
  else
    let s1 := setBlocker (firstBlocker s p) s
    if loadingFits s p then s1 else setFlag .solventLimit s1

/-- R95: an admission evaluation. The offered plate is EXPOSED (R94); another record is not evaluated (log 30). -/
def evalAdmission (s : State) : State :=
  match s.wou.offered with
  | none => setBlocker .none s
  | some k =>
    match plateAt s k with
    | none => s
    | some p => if p.state = .exposed then testAdmission k p s else s

/-- R94: the exposure unit offers the plate in slot `k`. -/
def offerPlate (k : Slot) (s : State) : State := evalAdmission (modWou (fun w => { w with offered := some k }) s)

/-- R93, R96: the transport state is taken anew, and a change of it evaluates admission. -/
def transportAnew (s : State) : State :=
  let s1 := takeTransport s
  if s1.wou.transport = s.wou.transport then s1 else evalAdmission s1

/-! ### Replenishment (R107 to R111) -/

/-- R108: the run time T in whole seconds. -/
def runTime (w : WashCal) : Nat := ceilDiv (w.bathVolume * w.exchange * 60) (100 * w.pumpRate)

/-- R108: a PENDING replenishment starts when its conditions hold. -/
def startReplenish (s : State) : State :=
  if s.wou.replenish = .pending ∧ s.wou.list = [] ∧ inputActive .freshLow s = false
      ∧ driveFaulted .pump s = false ∧ (s.flt.lineState = .run ∨ s.flt.lineState = .safeHold) then
    refreshOutputs (modWou (fun w => { w with
        replenish := .running { runTime := runTime (washCal s), pumped := 0, fraction := (washCal s).exchange } })
      (driveOn .pump (.value (washCal s).pumpRate) s))
  else s

/-- R107: the replenishment becomes PENDING, or BLOCKED when FRESH_LOW is active, which reports REPLENISH_BLOCKED; a
PENDING one is tested for its start. -/
def enterPending (s : State) : State :=
  if inputActive .freshLow s then setFlag .replenishBlocked (modWou (fun w => { w with replenish := .blocked }) s)
  else startReplenish (modWou (fun w => { w with replenish := .pending }) s)

/-- R96, R108: a test of the start, and the evaluation a change of state asks for. -/
def tryReplenish (s : State) : State :=
  let s1 := startReplenish s
  if s1.wou.replenish = s.wou.replenish then s1 else evalAdmission s1

/-- R107: FRESH_LOW changes. -/
def freshLowChange (active : Bool) (s : State) : State :=
  match s.wou.replenish with
  | .pending => if active then evalAdmission (enterPending s) else s
  | .blocked => if active then s else evalAdmission (enterPending s)
  | _ => s

/-- R108: λ after a complete exchange of a fraction in percent. -/
def lambdaAfterExchange (lambda fraction : Nat) : Nat := ceilDiv (lambda * (100 - fraction)) 100

/-- R109: λ after a run of T seconds stopped at `t`. -/
def lambdaAfterStop (lambda T t fraction : Nat) : Nat := ceilDiv (lambda * (T * 100 - t * fraction)) (T * 100)

/-- R108: the run time is reached. -/
def completeReplenish (s : State) : State :=
  match s.wou.replenish with
  | .running r =>
    let s1 := modWou (fun w => { w with lambda := lambdaAfterExchange w.lambda r.fraction }) (driveOff .pump s)
    evalAdmission (refreshOutputs (modWou (fun w => { w with replenish := .none }) (askCountersWrite s1)))
  | _ => s

/-- R108: the pumped time t of a run has reached its run time T. -/
def pumpedOut (r : ReplenishRun) : Bool := decide (r.runTime * 1000 ≤ r.pumped)

/-- R109: a running replenishment is stopped by a pump fault or by the inhibit. A stop is early while t is below T; when t
has reached T the replenishment is complete (R108), and the stop finds it so. -/
def stopReplenish (pumpFault : Bool) (s : State) : State :=
  match s.wou.replenish with
  | .running r =>
    if pumpedOut r then completeReplenish s else
    let s1 := modWou (fun w => { w with lambda := lambdaAfterStop w.lambda r.runTime (r.pumped / 1000) r.fraction }) s
    let s2 := enterPending (refreshOutputs (modWou (fun w => { w with replenish := .none }) (askCountersWrite s1)))
    evalAdmission (if pumpFault then setFlag .replenishAbort s2 else s2)
  | _ => s

/-- R110: REPLENISH_NOW in NONE. -/
def replenishNow (s : State) : State :=
  match s.wou.replenish with
  | .none => evalAdmission (enterPending s)
  | _ => s

/-- R111: an accepted BATH_CHANGED. -/
def bathChanged (s : State) : State :=
  evalAdmission (askCountersWrite (modWou (fun w => { w with lambda := 0, replenish := .none }) s))

/-! ### Marks (R99 to R103) -/

/-- The transport-list entry of the plate in slot `k`. -/
def entryOf (s : State) (k : Slot) : Option TransportEntry := s.wou.list.find? (fun e => e.slot == k)

/-- Shift every entry so that an entry at `position` stands at its mark (R91: all plates move together; log 5). -/
def shiftTo (position mark : Nat) (s : State) : State :=
  modWou (fun w => { w with list := w.list.map (fun e => { e with position := e.position + (mark - position) }) }) s

/-- R92: a mark can be reached while the transport moves, or has been reached at the moment it stopped. -/
def markReached (s : State) (position mark : Nat) : Bool :=
  s.wou.transport == .running || decide (mark ≤ position)

/-- R99: a gap mark. -/
def gapMark (k : Slot) (s : State) : State :=
  match entryOf s k with
  | none => s
  | some e =>
    if markReached s e.position (mm (gapMarkAt e)) then
      let s1 := shiftTo e.position (mm (gapMarkAt e)) s
      if (s.wou.list.getLast?).map (·.slot) = some k then evalAdmission s1 else s1
    else s

/-- R101: the washout exit table is occupied. -/
def exitTableOccupied (s : State) : Bool := s.wou.exitWaiting || inputActive .washExitPresent s

/-- R101: the transport stalls. -/
def stallTransport (s : State) : State :=
  let s1 := transportAnew (modWou (fun w => { w with stallHold := true }) s)
  s.wou.list.foldl (fun t e => addNotice e.slot .transportStall t) (setFlag .transportStall s1)

/-- R101: an end mark. -/
def endMark (k : Slot) (s : State) : State :=
  match entryOf s k with
  | none => s
  | some e =>
    if markReached s e.position (mm (endMarkAt (washCal s))) then
      let s1 := shiftTo e.position (mm (endMarkAt (washCal s))) s
      if exitTableOccupied s1 then stallTransport s1 else s1
    else s

/-- R100 step 4: λ at or above λ_repl at a commit. -/
def commitReplenish (s : State) : State :=
  if (washCal s).lambdaRepl ≤ s.wou.lambda ∧ s.wou.replenish = .none then enterPending s else s

/-- R100 step 1: the committed mark of the plate's entry is set. -/
def markCommitted (k : Slot) : List TransportEntry → List TransportEntry
  | [] => []
  | e :: rest => if e.slot == k then { e with committed := true } :: rest else e :: markCommitted k rest

/-- R100 steps 1 and 2: the entry is marked and its increment moves from the committed loading into λ. -/
def commitEntry (k : Slot) (inc : Nat) (w : Washout) : Washout :=
  { w with
    list := markCommitted k w.list
    committed := w.committed - inc
    lambda := satAdd 65535 w.lambda inc }

/-- R100: a commit mark; a plate is committed once (log 31). -/
def commitMark (k : Slot) (s : State) : State :=
  match entryOf s k with
  | none => s
  | some e =>
    if e.committed = false ∧ markReached s e.position (mm (commitMarkAt (washCal s) e)) then
      let s1 := modWou (commitEntry k e.increment) (shiftTo e.position (mm (commitMarkAt (washCal s) e)) s)
      let s2 := modRss (fun r => { r with commitsSinceWrite := r.commitsSinceWrite + e.increment }) s1
      evalAdmission (commitReplenish (askCountersWrite s2))
    else s

/-- R103 step 2: the stall time of an entry goes into the plate's washout part, in whole seconds. -/
def writeStall (k : Slot) (stall : Nat) (s : State) : State :=
  modPlate k (fun r => { r with washout := r.washout.map (fun w => { w with stallTime := stall / 1000 }) }) s

/-- R103: the head reaches its exit mark. A head whose commit mark has not been taken has not reached it (log 31). -/
def exitMark (s : State) : State :=
  match s.wou.list with
  | [] => s
  | e :: _ =>
    if e.committed = true ∧ markReached s e.position (mm (exitMarkAt (washCal s) e)) then
      let s1 := shiftTo e.position (mm (exitMarkAt (washCal s) e)) s
      let s2 := refreshOutputs (modWou (fun w => { w with list := w.list.tail }) s1)
      let s3 := modWou (fun w => { w with exitWaiting := true }) (writeStall e.slot e.stall s2)
      let s4 := raisePut e.slot (movePlate e.slot .washing .washExit id s3)
      let s5 := if s4.wou.list = [] then startReplenish (takeTransport s4) else s4
      evalAdmission s5
    else s

/-! ### The end of a stall (R102) -/

/-- R102: the stall hold ends when the washout exit table is clear. -/
def testStallEnd (s : State) : State :=
  if s.wou.stallHold && !exitTableOccupied s then
    transportAnew (modWou (fun w => { w with stallHold := false }) s)
  else s

/-- R102, R103: TRC reports the plate picked. -/
def platePicked (s : State) : State := testStallEnd (modWou (fun w => { w with exitWaiting := false }) s)

/-! ### The solvent temperature (R106) -/

/-- Whether a reading lies outside the setpoint ± 3 °C. -/
def solventOutside (setpoint reading : Nat) : Bool :=
  decide (reading + Config.solventBand < setpoint) || decide (setpoint + Config.solventBand < reading)

/-- R106: a solvent temperature reading. -/
def takeSolventTemp (reading : Nat) (s : State) : State :=
  let out := solventOutside (washCal s).tempSetpoint reading
  let s1 := modWou (fun w => { w with temp := some reading, tempOutside := out }) s
  if out then setFlag .washTemp s1 else s1

end Sys2Proof.Machine
end

