-- ==== Sys2Proof/Machine/Exposure.lean ====
section
/-! DEFINITION. EXU (chapter 4) after the intake: the load, the back and main runs, holds, resumes and ejections; and the
intake tag match of PTB (R20, R21). -/

namespace Sys2Proof.Machine

/-! ### Intake presence and tags (R68 to R70, R20, R21) -/

/-- R68, R69: INTAKE_PRESENT changes. -/
def intakePresentChange (active : Bool) (s : State) : State :=
  if active then tryIntake (modExu (fun e => { e with armed := true }) s)
  else modExu (fun e => { e with armed := false }) s

/-- The slot a tag matches: a record in QUEUED under the plate id read; a no-read is 0 and
matches nothing (R20, R21). -/
def matchTag (tag : Nat) (s : State) : Option Slot :=
  if tag = 0 then none
  else
    match slotOfId s tag with
    | none => none
    | some k => if plateState s k = some .queued then some k else none

/-- R20 steps 1 to 3: the entry leaves the queue and its record becomes LOADING with its intake position. -/
def loadMatched (k : Slot) (s : State) : State :=
  leaveQueue k (movePlate k .queued .loading (fun r => { r with intakePosition := some (queuePosition s k) }) s)

/-- R21: an unmatched tag. -/
def unmatchedTag (tag : Nat) (s : State) : State :=
  setFlag .intakeUnknown (modPtb (fun t => { t with lastUnmatched := some tag }) s)

/-- R70: the intake tag arrival. A tag nobody asked for is discarded (log 20). -/
def takeIntakeTag (tag : Nat) (s : State) : State :=
  if s.exu.readInProgress then
    let s1 := modExu (fun e => { e with readInProgress := false }) s
    match matchTag tag s1 with
    | some k =>
      reportQueueEmpty (updateRollers
        (modExu (fun e => { e with state := .load, plate := some k, loadTimer := 0 }) (loadMatched k s1)))
    | none =>
      let s2 := unmatchedTag tag s1
      if inputActive .exuPresent s2 then exuEnterClearWait s2 else s2
  else s

/-! ### Work asked of DIN (R74) -/

/-- The lamp channel of a substage. -/
def Substage.channel : Substage → LampChannel
  | .back => .back
  | .main => .main

/-- R74: the conditions on which the station asks DIN for work. -/
def exuMayWork (s : State) : Bool :=
  s.exu.state == .exposing && s.exu.paused && s.flt.lineState == .run && !(inputActive .exuLid s)
    && !(exuLampFailed s)

/-- What became of a request to DIN. -/
inductive WorkAnswer
  | waits | started | skipped | notTaken
deriving DecidableEq, Repr

/-- A segment start asked for (R47). -/
def askSegment (ch : LampChannel) (r : RunRecord) (s : State) : State × WorkAnswer :=
  match startSegment ch r s with
  | (s1, true) => (s1, .started)
  | (s1, false) => (s1, .waits)

/-- A run start asked for (R46). -/
def askStart (ch : LampChannel) (k : Slot) (s : State) : State × WorkAnswer :=
  match startRun ch k s with
  | (s1, .started) => (s1, .started)
  | (s1, .skipped) => (s1, .skipped)
  | (s1, .refused) => (s1, .waits)
  | (s1, .busy) => (s1, .waits)

/-- A run start, or the segment start of a PAUSED run of the plate (R74, R132). -/
def askFresh (ch : LampChannel) (k : Slot) (s : State) : State × WorkAnswer :=
  match channelAt s ch with
  | .paused r => if r.slot = k then askSegment ch r s else askStart ch k s
  | _ => askStart ch k s

/-- R74: what the station asks of DIN for its plate on a channel, and DIN's answer; a continuation taken removes the
continuation-pending mark (R81). -/
def exuRequest (ch : LampChannel) (k : Slot) (s : State) : State × WorkAnswer :=
  if s.exu.contPending then
    match continueRun ch k s.exu.extension s with
    | (s1, .started) => (modExu (fun e => { e with contPending := false }) s1, .started)
    | (s1, .refused) => (modExu (fun e => { e with contPending := false }) s1, .waits)
    | (s1, .notTaken) => (s1, .notTaken)
  else askFresh ch k s

/-- The station enters HELD with its plate and substage kept (R73, R76, R77). -/
def exuEnterHeld (k : Slot) (reason : HoldReason) (s : State) : State :=
  modExu (fun e => { e with state := .held, paused := false, contPending := false }) (holdPlate k .exu reason s)

/-- R74, R55: the answer's effect on the station; a SKIPPED answer is the caller's (R75). -/
def exuAnswer (k : Slot) (answer : State × WorkAnswer) : State :=
  match answer with
  | (s, .started) => modExu (fun e => { e with paused := false }) s
  | (s, .waits) => s
  | (s, .skipped) => s
  | (s, .notTaken) => exuEnterHeld k s.exu.resumeReason s

/-- R74 for a substage MAIN. A main run is never SKIPPED, since R27 refuses a main target of 0 (log 29). -/
def askMain (s : State) : State :=
  if exuMayWork s then
    match s.exu.plate with
    | some k => exuAnswer k (exuRequest .main k s)
    | none => s
  else s

/-- R75: the substage becomes MAIN and the main run is started under R74. -/
def exuToMain (s : State) : State :=
  askMain (modExu (fun e => { e with substage := some .main, paused := true }) s)

/-- R74: the station tests the conditions and asks DIN for work on the substage's channel. -/
def askExposure (s : State) : State :=
  match s.exu.substage with
  | some .main => askMain s
  | some .back =>
    if exuMayWork s then
      match s.exu.plate with
      | some k =>
        match exuRequest .back k s with
        | (s1, .skipped) => exuToMain s1
        | answer => exuAnswer k answer
      | none => s
    else s
  | none => s

/-! ### Endings and pauses (R75 to R78) -/

/-- R75: the plate is exposed and is offered to WOU (R79). -/
def exuExposed (k : Slot) (s : State) : State :=
  offerPlate k
    (modExu (fun e => { e with state := .exposed, substage := none, paused := false, contPending := false })
      (movePlate k .exposing .exposed id s))

/-- The step that follows a run that ended without a hold (R75, R76). -/
def exuGoesOn (k : Slot) (st : Substage) (s : State) : State :=
  match st with
  | .back => exuToMain s
  | .main => exuExposed k s

/-- Whether the plate's working recipe holds it on underdose (R76). -/
def holdsOnUnderdose (s : State) (k : Slot) : Bool := ((plateAt s k).map (·.working.holdOnUnderdose)).getD false

/-- R75 to R77: DIN reports the ending of the run in hand. -/
def exuRunEnding (ch : LampChannel) (ending : RunEnding) (s : State) : State :=
  match s.exu.state, s.exu.substage, s.exu.plate with
  | .exposing, some st, some k =>
    if st.channel = ch then
      match ending with
      | .complete => exuGoesOn k st s
      | .underdose =>
        let s1 := addNotice k .underdose s
        if holdsOnUnderdose s1 k then exuEnterHeld k .underdose s1 else exuGoesOn k st s1
      | .lampFail => exuEnterHeld k .lampFail s
    else s
  | _, _, _ => s

/-- R78: DIN reports the pause of the segment in hand. -/
def exuPauseReport (ch : LampChannel) (s : State) : State :=
  if s.exu.state = .exposing ∧ s.exu.substage.map Substage.channel = some ch then
    modExu (fun e => { e with paused := true }) s
  else s

/-! ### The load (R71 to R73) and the table's sensor (R83, R84) -/

/-- R72: the load is complete. -/
def loadComplete (s : State) : State :=
  match s.exu.plate with
  | some k =>
    askExposure
      (modExu (fun e => { e with state := .exposing, substage := some .back, paused := true, contPending := false,
                                 loadTimer := 0 })
        (movePlate k .loading .exposing id (driveOff .intakeRollers s)))
  | none => s

/-- Whether the load timer runs: in LOAD with the rollers ON (R71). -/
def loadTimerRuns (s : State) : Bool := s.exu.state == .load && driveIsOn .intakeRollers s

/-- R73: the load timer reaches 30 s. -/
def loadTimeout (s : State) : State :=
  if loadTimerRuns s then
    match s.exu.plate with
    | some k =>
      modExu (fun e => { e with substage := none })
        (exuEnterHeld k .loadTimeout (setFlag .loadTimeout (driveOff .intakeRollers s)))
    | none => s
  else s

/-- R72, R83, R84: EXU_PRESENT changes. -/
def exuPresentChange (active : Bool) (s : State) : State :=
  match s.exu.state with
  | .load => if active then loadComplete s else s
  | .empty =>
    if active then (if s.exu.readInProgress then s else exuEnterClearWait s) else tryIntake s
  | .clearWait => if active then s else exuEnterEmpty s
  | .exposing | .exposed | .held => s

/-- R71, R74: EXU_LID changes at the exposure unit. -/
def exuLidChange (active : Bool) (s : State) : State :=
  let s1 := updateRollers s
  if active then s1 else askExposure s1

/-! ### Resume and eject (R80 to R82) -/

/-- R80: whether the station accepts a resume of its held plate. -/
def exuAcceptsResume (reason : HoldReason) (s : State) : Bool :=
  match reason with
  | .underdose => true
  | .lampFail =>
    match s.exu.substage with
    | some st => !(isSet (.lampFail st.channel) s)
    | none => false
  | .loadTimeout | .orderMismatch => false

/-- R81: the station's part of an accepted resume. -/
def exuResume (extension : Nat) (reason : HoldReason) (s : State) : State :=
  askExposure (modExu (fun e => { e with state := .exposing, paused := true, contPending := true,
                                         extension := extension, resumeReason := reason }) s)

/-- R82: the station's part of an ejection. -/
def exuEject (reason : HoldReason) (s : State) : State :=
  let s1 := releaseEnded .main (releaseEnded .back (driveOff .intakeRollers s))
  exuEnterClearWait (if reason = .loadTimeout then modExu (fun e => { e with armed := false }) s1 else s1)

end Sys2Proof.Machine
end

