-- ==== Sys2Proof/Machine/Finisher.lean ====
section
/-! DEFINITION. LFN (chapter 7): arrival and tag check, the UVA and UVC runs, holds, release to the exit table and
clearing. -/

namespace Sys2Proof.Machine

/-! ### Clearing (R138) -/

/-- The station enters EMPTY, and the arbiter may serve a take for it (R138, R144). -/
def lfnEnterEmpty (s : State) : State := arbiter (modLfn (fun l => { l with state := .empty }) s)

/-- The station enters CLEAR_WAIT, and EMPTY at once when LFN_PRESENT is inactive (R138). -/
def lfnEnterClearWait (s : State) : State :=
  let s1 := modLfn (fun l => { l with state := .clearWait }) s
  if inputActive .lfnPresent s1 then s1 else lfnEnterEmpty s1

/-- R130, R138: LFN_PRESENT changes. -/
def lfnPresentChange (active : Bool) (s : State) : State :=
  match s.lfn.state with
  | .empty => if active && !s.lfn.incoming then lfnEnterClearWait s else s
  | .clearWait => if active then s else lfnEnterEmpty s
  | _ => s

/-- A station without a plate: both statuses WAITING, the tag read removed (R130, R136, R137). -/
def lfnClear (l : Finisher) : Finisher :=
  { l with plate := none, tagRead := none, uva := ⟨.waiting, false⟩, uvc := ⟨.waiting, false⟩ }

/-- R130: TRC reports the place at level 7 complete for the plate in slot `k`. The reader is triggered; its answer is
awaited in CHECK. -/
def lfnPlaced (k : Slot) (s : State) : State :=
  modLfn (fun l => { lfnClear l with incoming := false, plate := some k, state := .check }) s

/-! ### The two channels (R132) -/

/-- A lamp channel of the finisher. -/
inductive FinisherLamp
  | uva | uvc
deriving DecidableEq, Repr

def FinisherLamp.channel : FinisherLamp → LampChannel
  | .uva => .uva
  | .uvc => .uvc

def finisherRun (c : FinisherLamp) (l : Finisher) : FinisherRun :=
  match c with
  | .uva => l.uva
  | .uvc => l.uvc

def setFinisherRun (c : FinisherLamp) (r : FinisherRun) (s : State) : State :=
  modLfn (fun l => match c with
    | .uva => { l with uva := r }
    | .uvc => { l with uvc := r }) s

/-- The finisher's lamp channel that an integration channel is, if it is one. -/
def finisherLamp : LampChannel → Option FinisherLamp
  | .uva => some .uva
  | .uvc => some .uvc
  | .back | .main => none

/-! ### Release (R137) -/

/-- R149: the exit table is free. -/
def exitTableFree (s : State) : Bool :=
  s.trc.handoff == .empty && !(inputActive .exitPresent s) && s.trc.incoming.isNone

/-- R137: the outfeed rollers run while release is MOVING, the inhibit is inactive and the channel is not in FAULT. LIO
refuses the ON in the last two cases. -/
def updateOutfeed (s : State) : State :=
  if s.lfn.state = .finished ∧ s.lfn.moving = true then
    if inhibitActive s then driveOff .outfeed s else driveOn .outfeed .none s
  else s

/-- R137: the release starts when its conditions hold. -/
def tryRelease (s : State) : State :=
  match s.lfn.plate with
  | some k =>
    if s.lfn.state = .finished ∧ s.lfn.moving = false ∧ exitTableFree s = true
        ∧ (s.flt.lineState = .run ∨ s.flt.lineState = .safeHold) ∧ driveFaulted .outfeed s = false then
      driveOn .outfeed .none
        (modTrc (fun t => { t with incoming := some k }) (modLfn (fun l => { l with moving := true }) s))
    else s
  | none => s

/-- R137: TRC reports that the plate has arrived on the exit table; the release ends. -/
def lfnReleaseEnd (s : State) : State :=
  lfnEnterClearWait (modLfn (fun l => { lfnClear l with moving := false }) (driveOff .outfeed s))

/-! ### Holds and endings (R131, R133) -/

/-- The station enters HELD and PTB holds the plate (R131, R133, R55). -/
def lfnEnterHeld (k : Slot) (reason : HoldReason) (s : State) : State :=
  modLfn (fun l => { l with state := .held }) (holdPlate k .lfn reason s)

/-- R133, R137: the plate is finished. -/
def lfnFinished (k : Slot) (s : State) : State :=
  tryRelease (modLfn (fun l => { l with state := .finished, moving := false })
    (movePlate k .finishing .finished id s))

/-- R133: the test made in RUNNING after each ending. -/
def testFinished (s : State) : State :=
  match s.lfn.plate with
  | some k =>
    if s.lfn.state = .running ∧ s.lfn.uva.status = .done ∧ s.lfn.uvc.status = .done then lfnFinished k s else s
  | none => s

/-! ### Work asked of DIN (R132) -/

/-- R132: the conditions on which the station asks DIN for work. -/
def lfnMayWork (s : State) : Bool :=
  s.lfn.state == .running && s.flt.lineState == .run && !(lfnLampFailed s)

/-- R132: the answer's effect on a channel's status. -/
def lfnAnswer (c : FinisherLamp) (k : Slot) (answer : State × WorkAnswer) : State :=
  match answer with
  | (s, .started) => setFinisherRun c ⟨.active, false⟩ s
  | (s, .waits) => s
  | (s, .skipped) => setFinisherRun c ⟨.done, false⟩ s
  | (s, .notTaken) =>
    lfnEnterHeld k s.lfn.resumeReason
      (setFinisherRun c { finisherRun c s.lfn with contPending := false } s)

/-- The status a channel keeps when DIN took the request but not the segment: PAUSED, except that a run start refused
because the channel is busy leaves WAITING (R46, R132). A continuation DIN has taken removes the continuation-pending
mark here already, though its segment has not started: R128 ends the mark at the continuation, R132 at the segment's
start (DESIGN CHOICE, log 44). -/
def lfnWaits (c : FinisherLamp) (k : Slot) (s : State) : State :=
  match channelAt s c.channel with
  | .paused r => if r.slot = k then setFinisherRun c ⟨.paused, false⟩ s else s
  | _ => s

/-- R132: work asked on one channel. -/
def askFinisherChannel (c : FinisherLamp) (s : State) : State :=
  match s.lfn.plate with
  | none => s
  | some k =>
    if lfnMayWork s then
      match finisherRun c s.lfn with
      | ⟨.waiting, _⟩ | ⟨.paused, _⟩ =>
        match askFresh c.channel k s with
        | (s1, .waits) => lfnWaits c k s1
        | answer => lfnAnswer c k answer
      | ⟨.failed, true⟩ =>
        match continueRun c.channel k s.lfn.extension s with
        | (s1, .started) => lfnAnswer c k (s1, .started)
        | (s1, .refused) => lfnWaits c k s1
        | (s1, .notTaken) => lfnAnswer c k (s1, .notTaken)
      | _ => s
    else s

/-- R132: the station asks for work on both channels; a channel SKIPPED at its start is an ending (R133). -/
def askFinisher (s : State) : State := testFinished (askFinisherChannel .uvc (askFinisherChannel .uva s))

/-- R133: DIN reports a run's ending on a channel. -/
def lfnRunEnding (ch : LampChannel) (ending : RunEnding) (s : State) : State :=
  match finisherLamp ch, s.lfn.plate with
  | some c, some k =>
    if s.lfn.state = .running ∨ s.lfn.state = .held then
      match ending with
      | .complete => testFinished (setFinisherRun c { finisherRun c s.lfn with status := .done } s)
      | .underdose =>
        testFinished (addNotice k .underdose (setFinisherRun c { finisherRun c s.lfn with status := .done } s))
      | .lampFail => lfnEnterHeld k .lampFail (setFinisherRun c { finisherRun c s.lfn with status := .failed } s)
    else s
  | _, _ => s

/-- R134: DIN reports a pause; a report for a channel that is not ACTIVE is discarded. -/
def lfnPauseReport (ch : LampChannel) (s : State) : State :=
  match finisherLamp ch with
  | some c =>
    if (finisherRun c s.lfn).status = .active then
      setFinisherRun c { finisherRun c s.lfn with status := .paused } s
    else s
  | none => s

/-! ### The tag check (R131) -/

/-- R131: a finisher tag arrival; in any state but CHECK it is discarded. -/
def takeFinisherTag (tag : Nat) (s : State) : State :=
  match s.lfn.state, s.lfn.plate with
  | .check, some k =>
    let s1 := modLfn (fun l => { l with tagRead := some tag }) s
    if tag ≠ 0 ∧ tag = plateIdAt s k then
      askFinisher (modLfn (fun l => { l with state := .running }) (movePlate k .dryDone .finishing id s1))
    else lfnEnterHeld k .orderMismatch (setFlag .orderMismatch s1)
  | _, _ => s

/-! ### Resume and eject (R135, R136) -/

/-- Whether a channel FAILED and its lamp-failure flag is set (R135). -/
def failedAndFlagged (c : FinisherLamp) (s : State) : Bool :=
  (finisherRun c s.lfn).status == .failed && isSet (.lampFail c.channel) s

/-- R135: whether the station accepts a resume of its held plate. -/
def lfnAcceptsResume (reason : HoldReason) (s : State) : Bool :=
  match reason with
  | .orderMismatch => true
  | .lampFail => !(failedAndFlagged .uva s) && !(failedAndFlagged .uvc s)
  | .underdose | .loadTimeout => false

/-- R135: a FAILED channel waits for its continuation. -/
def markContinuation (r : FinisherRun) : FinisherRun :=
  if r.status = .failed then { r with contPending := true } else r

/-- R135: the station's part of an accepted resume. -/
def lfnResume (extension : Nat) (reason : HoldReason) (s : State) : State :=
  askFinisher (modLfn (fun l => { l with state := .running, uva := markContinuation l.uva,
                                         uvc := markContinuation l.uvc, extension := extension,
                                         resumeReason := reason }) s)

/-- R136: the station's part of an ejection. -/
def lfnEject (s : State) : State :=
  lfnEnterClearWait (modLfn lfnClear (releaseChannel .uvc (releaseChannel .uva s)))

end Sys2Proof.Machine
end

