-- ==== Sys2Proof/Machine/ExitTable.lean ====
section
/-! DEFINITION. TRC's exit table and handoff (R149 to R156). -/

namespace Sys2Proof.Machine

/-! ### Clearing (R149, R155) -/

/-- R149: TRC reports to LFN that the exit table has become free, when it is. -/
def reportExitFree (s : State) : State := if exitTableFree s then tryRelease s else s

/-- R155: in DONE_WAIT_CLEAR TRC tests EXIT_PRESENT. -/
def testExitClear (s : State) : State :=
  if s.trc.handoff = .doneWaitClear ∧ inputActive .exitPresent s = false then
    reportExitFree (modTrc (fun t => { t with handoff := .empty }) s)
  else s

/-- R155: the handoff is complete. -/
def completeHandoff (s : State) : State :=
  match s.trc.plate with
  | none => s
  | some k =>
    testExitClear (modTrc (fun t => { t with plate := none })
      (closeDone k (refreshOutputs (modTrc (fun t => { t with handoff := .doneWaitClear, handoffTimer := none }) s))))

/-! ### Pushing and offering (R152, R153) -/

/-- R152: the conveyor runs in PUSHING while the inhibit is inactive and the channel is not in FAULT. LIO refuses the ON
in the last two cases. -/
def updateConveyor (s : State) : State :=
  if s.trc.handoff = .pushing then
    if inhibitActive s then driveOff .conveyor s else driveOn .conveyor .none s
  else s

/-- R152: TRC enters PUSHING. -/
def enterPushing (s : State) : State := updateConveyor (modTrc (fun t => { t with handoff := .pushing, dwell := 0 }) s)

/-- R153: TRC enters OFFERED. -/
def enterOffered (s : State) : State :=
  refreshOutputs (modTrc (fun t => { t with handoff := .offered, taken := false, handoffTimer := some 0 }) s)

/-- R152: the dwell is reached while the conveyor runs. -/
def dwellEnd (s : State) : State :=
  if s.trc.handoff = .pushing ∧ driveIsOn .conveyor s = true then
    let s1 := driveOff .conveyor s
    if s.trc.values.mode = .timed then completeHandoff s1 else enterOffered s1
  else s

/-! ### Setup (R151) -/

/-- R151: the state that follows SETUP. -/
def leaveSetup (s : State) : State :=
  if s.trc.values.mode = .timed ∨ s.trc.values.pushFirst = true then enterPushing s else enterOffered s

/-- R151: the setup delay ends; it runs while the inhibit is inactive. -/
def setupEnd (s : State) : State :=
  if s.trc.handoff = .setup ∧ inhibitActive s = false then leaveSetup s else s

/-- A setup delay of 0 ends at once, or at the release when the inhibit is active (R151; log 23). -/
def setupAtOnce (s : State) : State := if s.trc.values.setupDelay = 0 then setupEnd s else s

/-- R151: TRC enters SETUP with the working handoff values. -/
def enterSetup (s : State) : State :=
  setupAtOnce (refreshOutputs (modTrc (fun t => { t with
    handoff := .setup, values := s.rss.working.cfg.exit, setupRun := 0, dwell := 0, taken := false,
    handoffTimer := none }) s))

/-- R156: the inhibit goes active in SETUP, PUSHING or OFFERED. -/
def restartHandoff (s : State) : State :=
  match s.trc.handoff with
  | .setup | .pushing | .offered => enterSetup s
  | .empty | .doneWaitClear => s

/-! ### Arrivals (R149) and completion events (R153, R154) -/

/-- R149, R155: EXIT_PRESENT changes. -/
def exitPresentChange (active : Bool) (s : State) : State :=
  match s.trc.handoff with
  | .empty =>
    if active then
      match s.trc.incoming with
      | some k =>
        enterSetup (modTrc (fun t => { t with incoming := none, plate := some k })
          (lfnReleaseEnd (movePlate k .finished .atExit id s)))
      | none => modTrc (fun t => { t with handoff := .doneWaitClear }) s
    else reportExitFree s
  | .doneWaitClear => testExitClear s
  | .setup | .pushing | .offered => s

def setTaken (s : State) : State := modTrc (fun t => { t with taken := true }) s

/-- R153: STK_BUSY changes. -/
def stkBusyChange (active : Bool) (s : State) : State :=
  if s.trc.handoff = .offered then
    match s.trc.values.mode with
    | .takenThenIdle => if active = false ∧ s.trc.taken = true then completeHandoff s else s
    | .idleOnly =>
      if active then setTaken s else if s.trc.taken then completeHandoff s else s
    | .timed | .operator => s
  else s

/-- R153: STK_TAKEN changes. -/
def stkTakenChange (active : Bool) (s : State) : State :=
  if s.trc.handoff = .offered ∧ active = true ∧ s.trc.values.mode = .takenThenIdle then
    let s1 := setTaken s
    if inputActive .stkBusy s1 then s1 else completeHandoff s1
  else s

/-- R153: OPERATOR_TAKE changes. -/
def operatorTakeChange (active : Bool) (s : State) : State :=
  if s.trc.handoff = .offered ∧ active = true then completeHandoff s else s

/-- R154: the handoff timer reaches the handoff timeout; it is not started again. -/
def handoffExpiry (s : State) : State :=
  if s.trc.handoff = .offered ∧ s.trc.handoffTimer.isSome = true then
    setFlag .exitTimeout (modTrc (fun t => { t with handoffTimer := none }) s)
  else s

end Sys2Proof.Machine
end

