-- ==== Sys2Proof/Machine/Transfers.lean ====
section
/-! DEFINITION. What the dryer does at a reading (R118 to R123), and what a completed pick and place do to WOU, DRY, LFN
and PTB (R117, R124, R145, R146). -/

namespace Sys2Proof.Machine

/-! ### The reading (R118 to R121) -/

/-- R118: the class of a reading against the setpoint's band. -/
def classify (setpoint reading : Nat) : TempClass :=
  if reading + Config.dryerBand < setpoint then .below
  else if setpoint + Config.dryerBand < reading then .above
  else .inBand

/-- Change the dry part of a record. -/
def modDryPart (k : Slot) (f : DryPart → DryPart) (s : State) : State :=
  modPlate k (fun r => { r with dry := r.dry.map f }) s

/-- The dry part of the record in a slot. -/
def dryPartOf (s : State) (k : Slot) : Option DryPart := (plateAt s k).bind (·.dry)

/-- R119: 1 s is added to the accrued time of the plate in a DRYING drawer. -/
def accrueDrawer (s : State) (d : DrawerNo) : State :=
  match drawerAt s d with
  | .drying k _ => modDryPart k (fun p => { p with accrued := p.accrued + 1 }) s
  | _ => s

/-- R119: whether the plate in a drawer has reached its required time. -/
def driedOut (s : State) (k : Slot) : Bool :=
  match dryPartOf s k with
  | some p => decide (p.required ≤ p.accrued)
  | none => false

/-- R119: a DRYING plate whose accrued time has reached its required time; TRC is told. -/
def finishDrying (s : State) (d : DrawerNo) : State :=
  match drawerAt s d with
  | .drying k id =>
    if driedOut s k then
      arbiter (movePlate k .drying .dryDone (fun r => r) (setDrawer d (.dryDone k id s.dry.clock) s))
    else s
  | _ => s

/-- R119: an IN_BAND reading. -/
def inBandReading (s : State) : State := allDrawers.foldl finishDrying (allDrawers.foldl accrueDrawer s)

/-- R121: an ABOVE reading. -/
def aboveReading (s : State) : State := setFlag .dryerOvertemp (driveOff .heater s)

/-! ### The overdry test (R123) -/

/-- R123: whether a plate waiting since `done` at dryer clock `clock` is overdried. -/
def isOverdry (p : DryPart) (done clock : Nat) : Bool :=
  decide (3 * p.required < 2 * (p.accrued + (clock - done)))

def overdryTest (s : State) (d : DrawerNo) : State :=
  match drawerAt s d with
  | .dryDone k _ done =>
    match dryPartOf s k with
    | some p =>
      if p.overdry = false ∧ isOverdry p done s.dry.clock = true then
        setFlag .overdry (addNotice k .overdry (modDryPart k (fun q => { q with overdry := true }) s))
      else s
    | none => s
  | _ => s

/-- R118 step 4: the action of a class. -/
def actOnClass (c : TempClass) (s : State) : State :=
  match c with
  | .inBand => inBandReading s
  | .below => setFlag .dryerUndertemp s
  | .above => aboveReading s
  | .none => s

/-- R118 steps 1 to 3. -/
def storeReading (reading : Nat) (s : State) : State :=
  modDry (fun y => { y with clock := satAdd Config.countMax y.clock 1, temp := some reading,
                            tempClass := classify (dryerSetpoint s) reading }) s

/-- R118: a dryer temperature reading. -/
def takeDryerReading (reading : Nat) (s : State) : State :=
  allDrawers.foldl overdryTest (actOnClass (classify (dryerSetpoint s) reading) (storeReading reading s))

/-! ### Completed picks and places (R117, R124, R145, R146) -/

/-- R124: DRY sets the drawer UNLOADING. -/
def drawerPicked (d : DrawerNo) (s : State) : State :=
  match drawerAt s d with
  | .dryDone k id _ => setDrawer d (.unloading k id) s
  | _ => s

/-- R141, R145, R146: the mechanism reports the pick complete. -/
def pickReport (s : State) : State :=
  match s.trc.elevator, s.trc.request with
  | .inPhase .pick, some (.put _ d) =>
    travelThen (drawerLevel d) .place (platePicked (modTrc (fun t => { t with table := .empty }) s))
  | .inPhase .pick, some (.take d _) => travelThen 7 .place (drawerPicked d s)
  | _, _ => s

/-- R117: the dry part a plate receives at its place. -/
def newDryPart (r : PlateRecord) : DryPart := { accrued := 0, required := r.working.dryTime * 60, overdry := false }

/-- R117: the place of a put into a drawer. -/
def putPlaced (k : Slot) (d : DrawerNo) (s : State) : State :=
  let s1 := movePlate k .washExit .drying (fun r => { r with dry := some (newDryPart r) }) s
  match drawerAt s1 d with
  | .reserved k1 id => setDrawer d (.drying k1 id) s1
  | _ => s1

/-- R124: the drawer becomes FREE at the place at the finisher infeed, which WOU hears of (R116). -/
def drawerFreed (d : DrawerNo) (k : Slot) (s : State) : State :=
  evalAdmission (refreshOutputs (setDrawer d .free (modPlate k (fun r => { r with drawer := none }) s)))

/-- R141, R145, R146: the mechanism reports the place complete. -/
def placeReport (s : State) : State :=
  match s.trc.elevator, s.trc.request with
  | .inPhase .place, some (.put k d) => elevatorToIdle (putPlaced k d s)
  | .inPhase .place, some (.take d k) => elevatorToIdle (lfnPlaced k (drawerFreed d k s))
  | _, _ => s

end Sys2Proof.Machine
end

