-- ==== Sys2Proof/Machine/LineState.lean ====
section
/-! DEFINITION. FLT's line state (R171 to R177) and what each block does when it changes. -/

namespace Sys2Proof.Machine

/-- R177: each station tests the conditions of its own chapter that name the line state. The rules name no order among
the stations; the model takes the order of the chapters (DESIGN CHOICE, log 15). -/
def stationsHearLine (s : State) : State :=
  match s.flt.lineState with
  | .run =>
    arbiter (tryRelease (askFinisher (evalAdmission (startReplenish (askExposure (tryIntake s))))))
  | .safeHold => arbiter (tryRelease (tryReplenish s))
  | .stopped | .init => s

/-- R177: FLT sets the new state and its cause and reports the change: to LIO, to LNK, and to the stations. -/
def changeLine (new : LineState) (cause : Cause) (s : State) : State :=
  stationsHearLine (raiseAttn .lineState
    (refreshOutputs (modFlt (fun t => { t with lineState := new, cause := cause }) s)))

/-- R174, R176: LINE_HOLD and LINE_RESUME where they are accepted. -/
def lineHold (s : State) : State := if s.flt.lineState = .run then changeLine .safeHold .lineHold s else s
def lineResume (s : State) : State := if s.flt.lineState = .safeHold then changeLine .run .lineResume s else s

/-- R175: LNK reports the watchdog's expiry. -/
def linkLost (s : State) : State :=
  let s1 := setFlag .linkLoss s
  if s1.flt.lineState = .run then changeLine .safeHold .linkLoss s1 else s1

/-- R178 step 7: the line state after a reset; the last cause is LINE_RESET (log 17). -/
def resetLine (s : State) : State :=
  let new := if inhibitActive s then LineState.stopped else LineState.run
  if s.flt.lineState = new then modFlt (fun t => { t with cause := .lineReset }) s else changeLine new .lineReset s

end Sys2Proof.Machine
end

