-- ==== Sys2Proof/Machine/Inputs.lean ====
section
/-! DEFINITION. LIO's input lines (R158 to R161), the two hard interlocks (R168, R169), and the owners' part when a drive
channel leaves or enters FAULT (R166, R167). -/

namespace Sys2Proof.Machine

/-! ### Pauses (R54, R78, R134) -/

/-- R54: DIN pauses a segment in progress on a channel and reports it to its station. -/
def pauseSegment (ch : LampChannel) (s : State) : State :=
  match channelAt s ch with
  | .integrating _ => lfnPauseReport ch (exuPauseReport ch (pauseChannel ch s))
  | _ => s

/-! ### The inhibit (R169, R173) -/

/-- A drive channel that is ON is turned OFF and marked forced off. -/
def forceDrive (s : State) (c : DriveChannel) : State :=
  if driveIsOn c s then setDrive c { state := .off, forced := true } s else s

/-- A lamp channel that is ON is turned OFF and marked forced off. -/
def forceLamp (s : State) (c : LampChannel) : State :=
  if lampIsOn c s then refreshOutputs (setLamp c { level := none, forced := true } s) else s

/-- R169 step 1. -/
def forceAllOff (s : State) : State := lampChannels.foldl forceLamp (driveChannels.foldl forceDrive s)

/-- R173: FLT's part when the inhibit goes active. -/
def stopLine (s : State) : State :=
  let s1 := setFlag .inhibit s
  match s1.flt.lineState with
  | .run | .safeHold => changeLine .stopped .inhibit s1
  | .init | .stopped => s1

/-- R169 step 3 for DIN: each lamp forced off is the pause of R54. -/
def pauseForced (s : State) (c : LampChannel) : State :=
  if (s.lio.lamps.get c).forced then pauseSegment c s else s

/-- R169 step 3: the owners are told; the order among them is a DESIGN CHOICE (log 16). -/
def ownersHearInhibit (s : State) : State :=
  restartHandoff (updateHalted (stopReplenish false (transportAnew (lampChannels.foldl pauseForced s))))

/-- R169: INHIBIT goes active. -/
def inhibitOn (s : State) : State := ownersHearInhibit (stopLine (forceAllOff s))

/-- A drive channel without its forced-off mark and out of FAULT (R169). -/
def releaseDrive (s : State) (c : DriveChannel) : State :=
  setDrive c { state := if driveFaulted c s then .off else driveState c s, forced := false } s

def releaseLamp (s : State) (c : LampChannel) : State := setLamp c { s.lio.lamps.get c with forced := false } s

/-- R169, release, step 1. -/
def releaseAll (s : State) : State := lampChannels.foldl releaseLamp (driveChannels.foldl releaseDrive s)

/-- R173: FLT's part when the inhibit goes inactive. -/
def releaseLine (s : State) : State :=
  if s.flt.lineState = .stopped then changeLine .safeHold .inhibitRelease s else s

/-- What WOU does when its channels or the inhibit let it go on: transport, then the start of a pending replenishment. -/
def washoutGoesOn (s : State) : State := tryReplenish (transportAnew s)

/-- R156: a setup delay of 0 that stood under the inhibit ends at its release. -/
def handoffGoesOn (s : State) : State := if s.trc.handoff = .setup then setupAtOnce s else updateConveyor s

/-- R169, release, step 3: the owners are told (order: log 16). -/
def ownersHearRelease (s : State) : State :=
  handoffGoesOn (updateHalted (tryRelease (updateOutfeed (testHeater (washoutGoesOn (updateRollers s))))))

/-- R169: INHIBIT goes inactive. -/
def inhibitOff (s : State) : State := ownersHearRelease (releaseLine (releaseAll s))

/-! ### The lid (R168) -/

/-- R168: EXU_LID goes active: LIO turns lamp channels 1 and 2 OFF, DIN pauses, then EXU acts. -/
def lidOpened (s : State) : State :=
  exuLidChange true (pauseSegment .main (pauseSegment .back (lampOff .main (lampOff .back s))))

/-! ### Delivery of a change (R160) -/

/-- R160: the change of a function is delivered to its consumers. -/
def deliver (fn : InputFunction) (active : Bool) (s : State) : State :=
  match fn with
  | .inhibit => if active then inhibitOn s else inhibitOff s
  | .exuLid => if active then lidOpened s else exuLidChange false s
  | .exuPresent => exuPresentChange active s
  | .intakePresent => intakePresentChange active s
  | .lfnPresent => lfnPresentChange active s
  | .exitPresent => exitPresentChange active s
  | .washExitPresent => exitSensorChange active (if active then s else testStallEnd s)
  | .stkBusy => stkBusyChange active s
  | .stkTaken => stkTakenChange active s
  | .freshLow => freshLowChange active s
  | .operatorTake => operatorTakeChange active s
  | .none => s

/-! ### Raw levels and debounce (R159) -/

/-- R159: the line state changes and the change of its function is delivered. -/
def flipInput (i : Fin 12) (s : State) : State :=
  let line := inputAt s i
  deliver (inputCfg s i).function (!line.active) (setInput i { line with active := !line.active, timer := none } s)

/-- R159: a change of a line's raw level. -/
def rawChange (i : Fin 12) (energised : Bool) (s : State) : State :=
  let line := inputAt s i
  if line.raw = energised then s
  else
    let s1 := setInput i { line with raw := energised } s
    if rawSense energised (inputCfg s i).invert = line.active then
      setInput i { line with raw := energised, timer := none } s1
    else if (inputCfg s i).debounce = 0 then flipInput i s1
    else setInput i { line with raw := energised, timer := some 0 } s1

/-- R159: the debounce timer, while it runs, reaches the line's debounce. -/
def debounceEnd (i : Fin 12) (s : State) : State :=
  if (inputAt s i).timer.isSome then flipInput i s else s

/-! ### A changed input configuration (R161) -/

/-- R161: whether a write leaves a line's function and invert as they were; such a write changes no state. -/
def sameWiring (before after : InputCfg) : Bool := before.function == after.function && before.invert == after.invert

/-- R161: a carried line's timer is stopped, and its state set from its raw level and new invert; a write that leaves its
function and invert as they were in `before` changes no state (log 24). -/
def resettleInput (before s : State) (i : Fin 12) : State :=
  let line := inputAt s i
  setInput i { line with
    active := if sameWiring (inputCfg before i) (inputCfg s i) then line.active else rawSense line.raw (inputCfg s i).invert
    timer := none } s

/-- The functions other than NONE, in the order the model compares them (R35; log 16). -/
def inputFunctions : List InputFunction :=
  [.inhibit, .exuLid, .exuPresent, .intakePresent, .lfnPresent, .exitPresent, .washExitPresent, .stkBusy, .stkTaken,
   .freshLow, .operatorTake]

/-- The functions whose state in `after` differs from that in `before`, with the state after. -/
def changedFunctions (before after : State) : List (InputFunction × Bool) :=
  (inputFunctions.filter (fun fn => inputActive fn before != inputActive fn after)).map
    (fun fn => (fn, inputActive fn after))

/-- R161: LIO applies the carried input lines, whose new settings already stand in the working copy; `before` is the
state before the write. -/
def applyInputs (lines : List (Fin 12)) (before s : State) : State :=
  let s1 := lines.foldl (resettleInput before) s
  (changedFunctions before s1).foldl (fun t c => deliver c.1 c.2 t) s1

/-! ### Output lines carried or set (R163, R164) -/

/-- R163: a carried output line's hold ends and the line takes the wanted state of its new settings. -/
def resettleOutput (s : State) (i : Fin 8) : State :=
  if s.flt.lineState = .init then s
  else refreshOutput (setOutput i { outputAt s i with hold := none } s) i

/-- R163: an output line's hold, while it runs, ends. -/
def holdEnd (i : Fin 8) (s : State) : State :=
  if (outputAt s i).hold.isSome then refreshOutput (setOutput i { outputAt s i with hold := none } s) i else s

/-! ### Drive channels in and out of FAULT (R166, R167) -/

/-- R166 step 3: the owner hears that its channel has entered FAULT. -/
def ownerHearsFault (c : DriveChannel) (s : State) : State :=
  match c with
  | .transport | .brushes => transportAnew s
  | .pump => stopReplenish true s
  | .elevator => updateHalted s
  | .intakeRollers | .heater | .outfeed | .conveyor => s

/-- R166: an overcurrent trip. -/
def trip (c : DriveChannel) (s : State) : State :=
  if driveIsOn c s then
    ownerHearsFault c (setFlag (.driveFault c) (setDrive c { s.lio.drives.get c with state := .fault } s))
  else s

/-- R167: the owner hears that its channel has left FAULT. -/
def ownerHearsRelease (c : DriveChannel) (s : State) : State :=
  match c with
  | .intakeRollers => updateRollers s
  | .transport | .brushes => transportAnew s
  | .pump => tryReplenish s
  | .heater => testHeater s
  | .elevator => updateHalted s
  | .outfeed => tryRelease (updateOutfeed s)
  | .conveyor => updateConveyor s

/-- R167: the latch of a channel in FAULT is released. -/
def releaseLatch (c : DriveChannel) (s : State) : State :=
  if driveFaulted c s then ownerHearsRelease c (setDrive c { s.lio.drives.get c with state := .off } s) else s

end Sys2Proof.Machine
end

