-- ==== Sys2Proof/Machine/FaultMonitor.lean ====
section
/-! DEFINITION. FLT's detection, clearing and masking of flags (R180 to R184) and the reset of the line (R178). -/

namespace Sys2Proof.Machine

/-! ### Detection (R180) -/

/-- R98: an offered plate fails the loading check. -/
def offeredTooHeavy (s : State) : Bool :=
  match s.wou.offered.bind (plateAt s) with
  | some p => !(loadingFits s p)
  | none => false

/-- R180: whether a flag's lasting condition is present now; a condition that is an event is never present afterwards. -/
def conditionPresent (s : State) : Flag → Bool
  | .inhibit => inhibitActive s
  | .storeCheck => (currentBank s.rss).isNone
  | .countersCheck => s.rss.countersFailed
  | .lampLife => anyLampPast s
  | .driveFault c => driveFaulted c s
  | .washTemp => s.wou.tempOutside
  | .solventLimit => offeredTooHeavy s
  | .replenishBlocked => s.wou.replenish == .blocked
  | .transportStall => s.wou.stallHold
  | .dryerOvertemp => s.dry.tempClass == .above
  | .dryerUndertemp => s.dry.tempClass == .below
  | .linkLoss | .lampFail _ | .lampWeak | .loadTimeout | .replenishAbort | .elevatorTimeout | .orderMismatch
  | .intakeUnknown | .exitTimeout | .overdry | .traceOverflow | .linkTrunc | .linkOverrun | .linkBadcheck => false

/-- The set of the flags of a list. -/
def flagSetOf (l : List Flag) : FlagSet := l.foldl (fun m f => m ||| flagBit f) 0#35

/-- The set of all flags whose condition is present now. -/
def detected (s : State) : FlagSet := flagSetOf (allFlags.filter (conditionPresent s))

/-! ### Reports of flags that have ended clear (R183 step 5) -/

/-- Whether a set holds one of a list of flags. -/
def anyOf (m : FlagSet) (l : List Flag) : Bool := l.any (flagHas m)

def intakeFlags : List Flag := [.storeCheck, .lampFail .back, .lampFail .main, .loadTimeout, .driveFault .intakeRollers]
def exposureFlags : List Flag := [.lampFail .back, .lampFail .main]
def admissionFlags : List Flag :=
  [.washTemp, .replenishAbort, .solventLimit, .driveFault .transport, .driveFault .brushes]
def reservationFlags : List Flag := [.dryerOvertemp, .driveFault .heater]
def finisherFlags : List Flag := [.lampFail .uva, .lampFail .uvc, .orderMismatch, .driveFault .outfeed]

/-- R183 step 5: one block's test when one of its flags has ended clear. -/
def whenCleared (m : FlagSet) (l : List Flag) (act : State → State) (s : State) : State :=
  if anyOf m l then act s else s

/-- R116: DRY's report that reservations have reopened. -/
def reportReservations (s : State) : State := if reservationsOpen s then evalAdmission s else s

/-- R183 step 5: the blocks test anew the conditions that name the flags in `m`, in the order the rule lists them. -/
def reportCleared (m : FlagSet) (s : State) : State :=
  let s1 := whenCleared m exposureFlags askExposure (whenCleared m intakeFlags tryIntake s)
  let s2 := whenCleared m admissionFlags evalAdmission s1
  let s3 := whenCleared m reservationFlags reportReservations (whenCleared m [.dryerOvertemp] testHeater s2)
  let s4 := whenCleared m [.elevatorTimeout] elevatorRecovery (whenCleared m finisherFlags arbiter s3)
  whenCleared m [.lampFail .uva, .lampFail .uvc] askFinisher s4

/-! ### FAULT_CLEAR (R183) -/

/-- The set marks become `m`: the summary is computed anew and LIO hears of it (R181). -/
def putFlags (m : FlagSet) (s : State) : State := refreshOutputs (modFlt (fun t => { t with flags := m }) s)

/-- R183 step 1: the latches of the named set DRIVE_FAULT flags are released. -/
def releaseNamed (named : FlagSet) (s : State) : State :=
  driveChannels.foldl (fun t c =>
    if flagHas named (.driveFault c) && isSet (.driveFault c) t then releaseLatch c t else t) s

/-- R183 steps 2 to 4: the named flags are cleared, those whose conditions are present set again, and the summary
computed then, at step 4 (log 18). -/
def clearFlags (named : FlagSet) (s : State) : State :=
  putFlags ((s.flt.flags &&& ~~~named) ||| (s.flt.flags &&& named &&& detected s)) s

/-- R183: FAULT_CLEAR; the state after it and the flags set after step 3. -/
def faultClear (named : FlagSet) (s : State) : State × FlagSet :=
  let s1 := releaseNamed named s
  let s2 := clearFlags named s1
  (reportCleared (s1.flt.flags &&& named &&& ~~~s2.flt.flags) s2, s2.flt.flags)

/-! ### FAULT_MASK (R184) -/

/-- R184: the mask marks change; FAULT is reported when an unmasked set flag has been gained. -/
def faultMask (mask unmask : FlagSet) (s : State) : State :=
  let s1 := refreshOutputs (modFlt (fun t => { t with masks := (t.masks ||| mask) &&& ~~~unmask }) s)
  if s.flt.flags &&& s.flt.masks &&& unmask = 0#35 then s1 else raiseAttn .fault s1

/-! ### LINE_RESET (R178) -/

/-- R178: the states in which a record bars a reset. -/
def PlateState.barsReset : PlateState → Bool
  | .queued | .done | .scrapped => false
  | _ => true

/-- R178: whether LINE_RESET is accepted. -/
def resetAllowed (s : State) : Bool :=
  allSlots.all (fun k => match plateState s k with
    | none => true
    | some st => !st.barsReset)

/-- R178 steps 1 to 3. -/
def resetTables (s : State) : State :=
  modLnk (fun l => { l with attnPending := 0 })
    (modDin (fun d => { d with channels := perLamp .idle, trace := [], traceActive := true, nextNumber := 0 })
      (modPtb (fun _ => { plates := Vector.replicate 40 none, queue := [], lastUnmatched := none }) s))

/-- R178 step 4: FLT clears every flag. -/
def clearAllFlags (s : State) : State := putFlags 0#35 s

/-- R178 step 5: every condition still present sets its flag; an unmasked one reports FAULT (R181). -/
def detectAnew (s : State) : State :=
  let s1 := putFlags (detected s) s
  if detected s &&& ~~~s.flt.masks = 0#35 then s1 else raiseAttn .fault s1

/-- R178 steps 4 and 5, each with its change of the summary (R181). -/
def resetFlags (s : State) : State := detectAnew (clearAllFlags s)

/-- R178: an accepted LINE_RESET. -/
def lineReset (s : State) : State :=
  let s1 := resetTables s
  let s2 := resetFlags s1
  resetLine (reportCleared (s1.flt.flags &&& ~~~s2.flt.flags) s2)

end Sys2Proof.Machine
end

