-- ==== Sys2Proof/Machine/Operands.lean ====
section
/-! DEFINITION. The coding of body fields (R194, R195): numbers, enumerated values, sets, selectors, optional groups, and
the length each request's body must have. -/

namespace Sys2Proof.Machine

/-! ### Numbers (R185, R195): most significant byte first -/

def b1 (n : Nat) : List Byte := [BitVec.ofNat 8 n]
def b2 (n : Nat) : List Byte := [BitVec.ofNat 8 (n / 256), BitVec.ofNat 8 n]
def b4 (n : Nat) : List Byte :=
  [BitVec.ofNat 8 (n / 16777216), BitVec.ofNat 8 (n / 65536), BitVec.ofNat 8 (n / 256), BitVec.ofNat 8 n]

def num2 (hi lo : Byte) : Nat := hi.toNat * 256 + lo.toNat

/-- Yes or no (R195). -/
def bBool (b : Bool) : List Byte := b1 (if b then 1 else 0)

/-- A yes or no field: any other value is refused (R195). -/
def boolOf (b : Byte) : Option Bool := if b.toNat = 0 then some false else if b.toNat = 1 then some true else none

/-- A number whose range includes 0 and that may be absent: a presence byte, then its bytes, 0 when absent (R195). -/
def bOpt (enc : Nat → List Byte) (o : Option Nat) : List Byte :=
  match o with
  | none => bBool false ++ enc 0
  | some n => bBool true ++ enc n

/-- A number whose range does not include 0: 0 when absent (R195). -/
def bOrZero (enc : Nat → List Byte) (o : Option Nat) : List Byte := enc (o.getD 0)

/-- A plate id that may be absent: 65535 when absent (R195). -/
def bId (o : Option Nat) : List Byte := b2 (o.getD 65535)

/-- A slot that may be absent (R195). -/
def bSlot (o : Option Slot) : List Byte := bOrZero b1 (o.map (fun k => k.val + 1))

/-! ### Enumerated values (R195): the place in the list of the rule, from 1 -/

def placeIn {α : Type} [BEq α] (l : List α) (a : α) : Nat := l.idxOf a + 1

def atPlace {α : Type} (l : List α) (n : Nat) : Option α :=
  match n with
  | 0 => none
  | k + 1 => l[k]?

def bEnum {α : Type} [BEq α] (l : List α) (a : α) : List Byte := b1 (placeIn l a)

/-- An enumerated value that may be absent: 0 when absent (R195). -/
def bEnumOpt {α : Type} [BEq α] (l : List α) (o : Option α) : List Byte := b1 ((o.map (placeIn l)).getD 0)

def lineStates : List LineState := [.init, .run, .safeHold, .stopped]
def causes : List Cause := [.startUp, .inhibit, .inhibitRelease, .lineHold, .linkLoss, .lineResume, .lineReset]
def plateStates : List PlateState :=
  [.queued, .loading, .exposing, .exposed, .washing, .washExit, .drying, .dryDone, .finishing, .finished, .atExit,
   .done, .held, .scrapped]
def stations : List Station := [.exu, .lfn]
def holdReasons : List HoldReason := [.underdose, .lampFail, .orderMismatch, .loadTimeout]
def noticeCodes : List Notice :=
  [.underdose, .lampFail, .orderMismatch, .loadTimeout, .lampWeak, .lampLife, .washSpeedClamped, .transportStall,
   .overdry]
def runOutcomes : List RunOutcome := [.complete, .underdose, .skipped, .notRun]
def plateOutcomes : List PlateOutcome := [.clean, .warned, .scrapped]
def exuStates : List ExuState := [.empty, .load, .exposing, .exposed, .held, .clearWait]
def substages : List Substage := [.back, .main]
def transportStates : List TransportState := [.idle, .running, .stalled, .stoppedByInhibit, .stoppedByFault]
def blockers : List Blocker :=
  [.lineNotRun, .transportStopped, .transportFull, .gap, .replenishment, .flag, .loading, .speedBand, .noDrawer]
def tempClasses : List TempClass := [.none, .below, .inBand, .above]
def lfnStates : List LfnState := [.empty, .check, .running, .finished, .held, .clearWait]
def runStatuses : List RunStatus := [.waiting, .active, .paused, .done, .failed]
def handoffStates : List HandoffState := [.empty, .setup, .pushing, .offered, .doneWaitClear]
def handoffModes : List HandoffMode := [.takenThenIdle, .idleOnly, .timed, .operator]
def flagClasses : List FlagClass := [.line, .station, .warning]
def allInputFunctions : List InputFunction :=
  [.inhibit, .exuLid, .exuPresent, .intakePresent, .lfnPresent, .exitPresent, .washExitPresent, .stkBusy, .stkTaken,
   .freshLow, .operatorTake, .none]
def outputSources : List OutputSource :=
  [.user, .faultAny, .lineRun, .safeHold, .stopped, .exuLamp, .lfnLamp, .washBusy, .drawerFree, .plateReady,
   .sort 0, .sort 1, .sort 2, .sort 3, .disabled]

/-- Plate states count from FREE, which is 1 (R195). -/
def plateStateCode (st : PlateState) : Nat := placeIn plateStates st + 1

/-- The blocker NONE is sent as 0 (DESIGN CHOICE, log 26). -/
def bBlocker (b : Blocker) : List Byte := b1 (if b = .none then 0 else placeIn blockers b)

/-- NONE, PENDING, BLOCKED, RUNNING (R107). -/
def replenishmentCode : Replenishment → Nat
  | .none => 1
  | .pending => 2
  | .blocked => 3
  | .running _ => 4

/-! ### Sets (R195) -/

/-- A set of attention items; a set with the value 64 or 128 is refused. -/
def attnSetOf (b : Byte) : Option AttnSet := if b.toNat < 64 then some (BitVec.ofNat 6 b.toNat) else none

def bAttnSet (m : AttnSet) : List Byte := b1 m.toNat

/-- A set of fault flags from its 5 bytes; a fifth byte of 8 or above is refused. -/
def flagSetOfBytes (a b c d e : Byte) : Option FlagSet :=
  if e.toNat < 8 then
    some (BitVec.ofNat 35 (a.toNat + 256 * b.toNat + 65536 * c.toNat + 16777216 * d.toNat + 4294967296 * e.toNat))
  else none

def bFlagSet (m : FlagSet) : List Byte :=
  [BitVec.ofNat 8 m.toNat, BitVec.ofNat 8 (m.toNat / 256), BitVec.ofNat 8 (m.toNat / 65536),
   BitVec.ofNat 8 (m.toNat / 16777216), BitVec.ofNat 8 (m.toNat / 4294967296)]

/-! ### Statuses (R194) -/

inductive Status
  | ok | clamped | badCheck | badLength | unknownKind | badField | wrongState | notFound | duplicateId
  | tableFull | queueFull | storeFail
deriving DecidableEq, Repr

def statuses : List Status :=
  [.ok, .clamped, .badCheck, .badLength, .unknownKind, .badField, .wrongState, .notFound, .duplicateId, .tableFull,
   .queueFull, .storeFail]

/-- Statuses count from 0 (R194). -/
def Status.code (st : Status) : Byte := BitVec.ofNat 8 (statuses.idxOf st)

/-- What a block answers to a request: a status and the reply's fields. -/
structure Reply where
  status : Status
  fields : List Byte
deriving DecidableEq, Repr

/-- A reply with OK or CLAMPED carries fields; any other carries the status alone (R188). -/
def okReply (fields : List Byte) : Reply := { status := .ok, fields := fields }
def refusal (st : Status) : Reply := { status := st, fields := [] }

/-- OK without fields, or CLAMPED with the values as stored (R28, R33, R36, R125). -/
def okOrClamped (clamped : Bool) (stored : List Byte) : Reply :=
  if clamped then { status := .clamped, fields := stored } else okReply []

/-! ### Kinds (R194) -/

def kindLineStatus : Byte := 16#8
def kindLineHold : Byte := 17#8
def kindLineResume : Byte := 18#8
def kindLineReset : Byte := 19#8
def kindPlateAdd : Byte := 32#8
def kindPlateRead : Byte := 33#8
def kindPlateAmend : Byte := 34#8
def kindPlateCancel : Byte := 35#8
def kindQueueRead : Byte := 36#8
def kindQueueMove : Byte := 37#8
def kindPlateResume : Byte := 38#8
def kindPlateEject : Byte := 39#8
def kindPlateRetire : Byte := 40#8
def kindRecipeWrite : Byte := 48#8
def kindRecipeRead : Byte := 49#8
def kindRecipeDelete : Byte := 50#8
def kindCalWrite : Byte := 51#8
def kindCalRead : Byte := 52#8
def kindConfigWrite : Byte := 53#8
def kindConfigRead : Byte := 54#8
def kindStoreSave : Byte := 55#8
def kindSolventRead : Byte := 64#8
def kindReplenishNow : Byte := 65#8
def kindBathChanged : Byte := 66#8
def kindDryerSet : Byte := 67#8
def kindDryerRead : Byte := 68#8
def kindFaultRead : Byte := 80#8
def kindFaultClear : Byte := 81#8
def kindFaultMask : Byte := 82#8
def kindTraceRead : Byte := 83#8
def kindTraceClear : Byte := 84#8
def kindAttnEnable : Byte := 96#8
def kindAttnClear : Byte := 97#8
def kindOutputSet : Byte := 98#8

/-! ### Body lengths (R188, R195) -/

/-- Bit `k` of a presence byte. -/
def present (b : Byte) (k : Nat) : Bool := b.getLsbD k

/-- The bytes the values present in a presence byte stand for; a value that stands for no group adds none (DESIGN CHOICE,
log 25). -/
def presenceLength (b : Byte) (sizes : List Nat) : Nat :=
  (sizes.zipIdx.map (fun p => if present b p.2 then p.1 else 0)).sum

/-- Whether a presence byte has a value that stands for no group among `n`. -/
def presenceUnknown (b : Byte) (n : Nat) : Bool := decide (2 ^ n ≤ b.toNat)

def amendSizes : List Nat := [2, 1, 2, 2, 2, 2, 1, 1]
def calSizes : List Nat := [8, 8, 8, 8, 16, 1]

/-- PLATE_AMEND: a selector, a presence byte and the fields it names. -/
def amendFits (body : List Byte) : Bool :=
  match body with
  | _ :: _ :: _ :: p :: rest => rest.length == presenceLength p amendSizes
  | _ => false

/-- CAL_WRITE: a presence byte and the groups it names. -/
def calFits (body : List Byte) : Bool :=
  match body with
  | p :: rest => rest.length == presenceLength p calSizes
  | [] => false

/-- The length of a counted list of groups of `size` bytes at the head of `l`, or none when the count is missing. -/
def countedLength (size : Nat) (l : List Byte) : Option Nat :=
  match l with
  | [] => none
  | c :: _ => some (1 + size * c.toNat)

/-- The sum of the lengths of CONFIG_WRITE's groups after the presence byte, when the counts are there. -/
def configLength (p : Byte) (rest : List Byte) : Option Nat :=
  let fixed := (if present p 2 then 7 else 0) + (if present p 3 then 2 else 0) + (if present p 4 then 1 else 0)
  let inputs := if present p 0 then countedLength 4 rest else some 0
  match inputs with
  | none => none
  | some n =>
    match (if present p 1 then countedLength 5 (rest.drop n) else some 0) with
    | none => none
    | some m => some (n + m + fixed)

def configFits (body : List Byte) : Bool :=
  match body with
  | p :: rest => configLength p rest == some rest.length
  | [] => false

/-- OUTPUT_SET: 0 to 8 pairs. -/
def outputSetFits (body : List Byte) : Bool := body.length % 2 == 0 && decide (body.length ≤ 16)

/-- The fixed body length of a kind whose body is fixed. -/
def fixedLength (kind : Nat) : Option Nat :=
  match kind with
  | 16 | 17 | 18 | 19 => some 0
  | 32 => some 13
  | 33 | 35 | 37 | 39 | 40 => some 3
  | 36 => some 0
  | 38 => some 4
  | 48 => some 46
  | 49 | 50 => some 1
  | 52 | 54 | 55 => some 0
  | 64 | 65 | 66 | 68 => some 0
  | 67 => some 1
  | 80 | 84 => some 0
  | 81 => some 5
  | 82 => some 10
  | 83 => some 1
  | 96 | 97 => some 1
  | _ => none

/-- Whether a kind names a request (R194). -/
def isRequestKind (kind : Byte) : Bool :=
  (fixedLength kind.toNat).isSome || kind.toNat == 34 || kind.toNat == 51 || kind.toNat == 53 || kind.toNat == 98

/-- R188 check 4: whether a body's length fits its request. -/
def bodyFits (f : RxFrame) : Bool :=
  match fixedLength f.kind.toNat with
  | some n => f.body.length == n
  | none =>
    match f.kind.toNat with
    | 34 => amendFits f.body
    | 51 => calFits f.body
    | 53 => configFits f.body
    | 98 => outputSetFits f.body
    | _ => false

/-! ### Plate selectors (R12, R195) -/

/-- A plate selector. -/
inductive Selector
  | slot (n : Nat)
  | plateId (n : Nat)
deriving DecidableEq, Repr

/-- A selector's first byte is 1 for slot and 2 for plate id; a value out of range is refused BAD_FIELD (R12, R195). -/
def selectorOf (how hi lo : Byte) : Option Selector :=
  let n := num2 hi lo
  if how.toNat = 1 then (if 1 ≤ n ∧ n ≤ 40 then some (.slot n) else none)
  else if how.toNat = 2 then (if 1 ≤ n ∧ n ≤ 65534 then some (.plateId n) else none)
  else none

/-- R12: the slot a selector in range names, or NOT_FOUND. -/
def lookup (sel : Selector) (s : State) : Option Slot :=
  match sel with
  | .slot n =>
    if h : n - 1 < 40 then
      if (plateAt s ⟨n - 1, h⟩).isSome then some ⟨n - 1, h⟩ else none
    else none
  | .plateId n => slotOfId s n

end Sys2Proof.Machine
end

