-- ==== Sys2Proof/Machine/Replies.lean ====
section
/-! DEFINITION. The fields of every reply, and the ATTENTION frame's body (R195, R196). Where the manual gives no layout,
the fields follow in the order the request's rule names them (R195, "Other bodies"; DESIGN CHOICE in detail, log 26). -/

namespace Sys2Proof.Machine

/-! ### Recipes and plate records (R195) -/

def encodeLampProcess (p : LampProcess) : List Byte := b2 p.target ++ b1 p.level ++ b2 p.eSet

/-- Recipe body positions 17 to 45. -/
def encodeProcess (p : Process) : List Byte :=
  encodeLampProcess p.back ++ encodeLampProcess p.main ++ b2 p.exposureStretch ++ bBool p.holdOnUnderdose
    ++ b2 p.vNom ++ b2 p.dryTime ++ encodeLampProcess p.uva ++ encodeLampProcess p.uvc ++ b2 p.finisherStretch

/-- A name in the 16 bytes it has in the recipe body (R195). That the entries of the recipe list (R29) give it the same
width, and that the bytes past the end of a short name are all 0, is the model's (DESIGN CHOICE, log 26). -/
def encodeName (name : List Byte) : List Byte := (name ++ List.replicate 16 0#8).take 16

/-- The 46-byte recipe body of the slot at index `n`. -/
def encodeRecipe (n : Fin 24) (r : Recipe) : List Byte := b1 (n.val + 1) ++ encodeName r.name ++ encodeProcess r.process

/-- A run result in 9 bytes. -/
def encodeResult (r : RunResult) : List Byte :=
  b2 r.dose ++ b4 r.samples ++ b1 r.segments ++ bEnum runOutcomes r.outcome ++ bBool r.traceComplete

def encodeWashout : Option WashoutPart → List Byte
  | none => bBool false ++ b2 0 ++ b1 0 ++ b2 0 ++ b4 0
  | some w => bBool true ++ b2 w.entrySpeed ++ bBool w.joined ++ b2 w.increment ++ b4 w.stallTime

def encodeDry : Option DryPart → List Byte
  | none => bBool false ++ b4 0 ++ b2 0 ++ b1 0
  | some d => bBool true ++ b4 d.accrued ++ b2 d.required ++ bBool d.overdry

/-- The notices, oldest first, in 8 bytes. -/
def encodeNotices (l : List Notice) : List Byte :=
  ((l.flatMap (bEnum noticeCodes)) ++ List.replicate 8 0#8).take 8

def encodeDrawerNo (d : Option DrawerNo) : List Byte := bOrZero b1 (d.map (fun x => x.val + 1))

/-- The 114-byte plate record body (R195). -/
def encodePlate (k : Slot) (r : PlateRecord) : List Byte :=
  b1 (k.val + 1) ++ b2 r.plateId ++ b1 (plateStateCode r.state) ++ b1 r.recipeNo ++ b2 r.width ++ b2 r.length
    ++ b2 r.thickness ++ b2 r.relief ++ b1 r.coverage ++ b1 (r.sortCode.getD 255) ++ bOrZero b1 r.intakePosition
    ++ bEnumOpt stations (r.held.map (·.1)) ++ bEnumOpt holdReasons (r.held.map (·.2)) ++ b1 r.interruptions
    ++ bEnumOpt plateOutcomes r.outcome
    ++ encodeResult r.results.back ++ encodeResult r.results.main ++ encodeResult r.results.uva
    ++ encodeResult r.results.uvc
    ++ encodeWashout r.washout ++ encodeDrawerNo r.drawer ++ encodeDry r.dry
    ++ b1 r.notices.length ++ bBool r.moreNotices ++ encodeNotices r.notices ++ encodeProcess r.working

/-- The record in a slot as a reply carries it. -/
def plateFields (k : Slot) (s : State) : List Byte :=
  match plateAt s k with
  | none => []
  | some r => encodePlate k r

/-! ### Queue, recipe list (R22, R29) -/

def queueFields (s : State) : List Byte :=
  b1 s.ptb.queue.length ++ s.ptb.queue.flatMap (fun k => b1 (k.val + 1) ++ b2 (plateIdAt s k))
    ++ bId s.ptb.lastUnmatched

def recipeAt (s : State) (n : Fin 24) : Option Recipe := s.rss.working.recipes[n.val]

def allRecipeSlots : List (Fin 24) := List.finRange 24

def recipeListEntry (s : State) (n : Fin 24) : List Byte :=
  match recipeAt s n with
  | none => []
  | some r => b1 (n.val + 1) ++ encodeName r.name

def recipeListFields (s : State) : List Byte :=
  b1 (allRecipeSlots.filter (fun n => (recipeAt s n).isSome)).length ++ allRecipeSlots.flatMap (recipeListEntry s)

/-! ### Calibration and configuration (R34, R37) -/

/-- A lamp group, its lamp replaced mark reported as no (R33). -/
def encodeLampCal (c : LampCal) : List Byte := b1 c.offset ++ b2 c.gain ++ b2 c.eNom ++ b2 c.ratedLife ++ bBool false

def encodeWashCal (w : WashCal) : List Byte :=
  b2 w.brushLength ++ b2 w.rinseLength ++ b2 w.bathVolume ++ b2 w.lambdaRef ++ b2 w.lambdaRepl ++ b2 w.lambdaMax
    ++ b1 w.exchange ++ b1 w.pumpRate ++ b1 w.speedBand ++ b1 w.tempSetpoint

/-- The fixed values of R32. R195 gives a number the fewest bytes that hold its range and a fixed value has none of its
own: v_min, always 100, is sent in 2 bytes as v_max is (DESIGN CHOICE, log 26). -/
def fixedValues : List Byte :=
  b2 Config.speedMin ++ b2 Config.speedMax ++ b1 Config.minGap ++ b1 Config.solventBand ++ b1 Config.dryerBand

/-- R34: the lamp hours of a channel, from its lamp-on time in the counters area, which stands behind the one DIN keeps
(R59) while a counters write waits (log 42). -/
def lampHours (s : State) (ch : LampChannel) : Nat := s.rss.counters.lampOn.get ch / 3600

def calFields (s : State) : List Byte :=
  lampChannels.flatMap (fun ch => encodeLampCal (lampCal s ch)) ++ encodeWashCal (washCal s)
    ++ b1 (dryerSetpoint s) ++ fixedValues ++ lampChannels.flatMap (fun ch => b4 (lampHours s ch))

def encodeInput (i : Fin 12) (c : InputCfg) : List Byte :=
  b1 (i.val + 1) ++ bEnum allInputFunctions c.function ++ bBool c.invert ++ b1 c.debounce

def encodeOutput (i : Fin 8) (c : OutputCfg) : List Byte :=
  b1 (i.val + 1) ++ bEnum outputSources c.source ++ bBool c.invert ++ b2 c.minPulse

def encodeExit (e : ExitCfg) : List Byte :=
  bEnum handoffModes e.mode ++ bBool e.pushFirst ++ b2 e.setupDelay ++ b1 e.timedDwell ++ b2 e.handoffTimeout

/-- The whole line configuration record and the unsaved-edits mark (R37). The line groups are lists as in CONFIG_WRITE,
each preceded by its count, 12 and 8 (DESIGN CHOICE, log 26). -/
def configFields (s : State) : List Byte :=
  b1 12 ++ allInputs.flatMap (fun i => encodeInput i (inputCfg s i))
    ++ b1 8 ++ allOutputs.flatMap (fun i => encodeOutput i (outputCfg s i))
    ++ encodeExit s.rss.working.cfg.exit ++ b2 s.rss.working.cfg.watchdog ++ bAttnSet s.rss.working.cfg.attention
    ++ bBool s.rss.unsaved

/-! ### Washout (R112) -/

def entryFields (e : TransportEntry) : List Byte :=
  b1 (e.slot.val + 1) ++ b2 e.plateId ++ b2 (e.position / 60000) ++ bBool e.committed ++ b4 (e.stall / 1000)

/-- The replenishment state, and the run time and pumped time of a RUNNING one (R112), sent as absent in any other state
(DESIGN CHOICE, log 26). -/
def replenishFields (r : Replenishment) : List Byte :=
  b1 (replenishmentCode r) ++ (match r with
    | .running x => b2 x.runTime ++ bOpt b2 (some (x.pumped / 1000))
    | _ => b2 0 ++ bOpt b2 none)

/-- The offered plate's slot, inc, v, speed clamped mark and blocker (R112). With no plate offered each is sent in its
place as absent, the mark, a yes or no for which R195 has no absent form, as the byte 0 (DESIGN CHOICE, log 26). -/
def offerFields (s : State) : List Byte :=
  match s.wou.offered, s.wou.offered.bind (plateAt s) with
  | some k, some p =>
    bSlot (some k) ++ bOpt b2 (some (loadingIncrement (washCal s).bathVolume p)) ++ b2 (speedNow s p)
      ++ bBool (speedClamped p.working.vNom (washCal s).lambdaRef (lambdaEff s)) ++ bBlocker s.wou.blocker
  | _, _ => bSlot none ++ bOpt b2 none ++ b2 0 ++ b1 0 ++ b1 0

def solventFields (s : State) : List Byte :=
  b2 s.wou.lambda ++ b4 s.wou.committed ++ b4 (lambdaEff s)
    ++ b2 (washCal s).lambdaRepl ++ b2 (washCal s).lambdaMax ++ b2 (washCal s).lambdaRef
    ++ replenishFields s.wou.replenish
    ++ bEnum transportStates s.wou.transport ++ b2 s.wou.speed ++ bBool s.wou.stallHold
    ++ b1 s.wou.list.length ++ s.wou.list.flatMap entryFields
    ++ offerFields s ++ bOpt b1 s.wou.temp

/-! ### Dryer (R126) -/

def driveStateCode : DriveState → Nat
  | .off => 1
  | .on _ => 2
  | .fault => 3

/-- State, slot and plate id of a drawer (R126). -/
def drawerBinding : Drawer → List Byte
  | .free => b1 1 ++ bSlot none ++ bId none
  | .reserved k id => b1 2 ++ bSlot (some k) ++ bId (some id)
  | .drying k id => b1 3 ++ bSlot (some k) ++ bId (some id)
  | .dryDone k id _ => b1 4 ++ bSlot (some k) ++ bId (some id)
  | .unloading k id => b1 5 ++ bSlot (some k) ++ bId (some id)

/-- Accrued and required time of a DRYING drawer; done time, waited time and overdry mark of a DRY_DONE drawer (R126). A
field the drawer's state does not have is sent in its place as absent, the required time and the overdry mark as 0
(DESIGN CHOICE, log 26). -/
def drawerTimes (s : State) : Drawer → List Byte
  | .drying k _ =>
    match dryPartOf s k with
    | some p => bOpt b4 (some p.accrued) ++ b2 p.required ++ bOpt b4 none ++ bOpt b4 none ++ b1 0
    | none => bOpt b4 none ++ b2 0 ++ bOpt b4 none ++ bOpt b4 none ++ b1 0
  | .dryDone k _ t =>
    bOpt b4 none ++ b2 0 ++ bOpt b4 (some t) ++ bOpt b4 (some (s.dry.clock - t))
      ++ bBool (((dryPartOf s k).map (·.overdry)).getD false)
  | _ => bOpt b4 none ++ b2 0 ++ bOpt b4 none ++ bOpt b4 none ++ b1 0

def dryerFields (s : State) : List Byte :=
  b1 (dryerSetpoint s) ++ b1 (dryerSetpoint s - Config.dryerBand) ++ b1 (dryerSetpoint s + Config.dryerBand)
    ++ bOpt b1 s.dry.temp ++ bEnum tempClasses s.dry.tempClass ++ b1 (driveStateCode (driveState .heater s))
    ++ bBool (reservationsOpen s) ++ b4 s.dry.clock ++ b1 (freeDrawers s)
    ++ allDrawers.flatMap (fun d => drawerBinding (drawerAt s d) ++ drawerTimes s (drawerAt s d))

/-! ### The line (R179) and the flags (R182) -/

/-- The exposure unit's part (R86). -/
def exuFields (e : Exposure) : List Byte :=
  bEnum exuStates e.state ++ bSlot e.plate ++ bEnumOpt substages e.substage ++ bBool e.paused ++ bBool e.armed

/-- The finisher's part (R139). -/
def lfnFields (l : Finisher) : List Byte :=
  bEnum lfnStates l.state ++ bSlot l.plate ++ bBool l.incoming ++ bId l.tagRead
    ++ bEnum runStatuses l.uva.status ++ bEnum runStatuses l.uvc.status ++ b1 (if l.moving then 2 else 1)

/-- TRAVEL, PICK, PLACE (R141). -/
def phaseCode : Phase → Nat
  | .travel _ => 1
  | .pick => 2
  | .place => 3

/-- The target level of a phase, absent but for a TRAVEL. -/
def phaseTarget : Phase → Option Nat
  | .travel t => some t.val
  | _ => none

/-- IDLE, TRAVEL, PICK, PLACE, FAULT (R140). -/
def elevatorCode : ElevatorState → Nat
  | .idle => 1
  | .inPhase p => phaseCode p + 1
  | .fault _ => 5

/-- The level the present TRAVEL is bound for. -/
def elevatorTarget : ElevatorState → Option Nat
  | .inPhase p => phaseTarget p
  | .idle | .fault _ => none

def keptFields : ElevatorState → List Byte
  | .fault p => b1 (phaseCode p) ++ bOpt b1 (phaseTarget p)
  | .idle | .inPhase _ => b1 0 ++ bOpt b1 none

/-- HOMING, PUT (slot, drawer), TAKE (drawer, slot) (R140). -/
def requestFields : Option ElevatorRequest → List Byte
  | none => b1 0 ++ bSlot none ++ encodeDrawerNo none
  | some .homing => b1 1 ++ bSlot none ++ encodeDrawerNo none
  | some (.put k d) => b1 2 ++ bSlot (some k) ++ encodeDrawerNo (some d)
  | some (.take d k) => b1 3 ++ bSlot (some k) ++ encodeDrawerNo (some d)

/-- EMPTY, WAITING_PUT, PUT_BEGUN, CLEAR_WAIT (R140). -/
def tableFields : WashExitTable → List Byte
  | .empty => b1 1 ++ bSlot none
  | .waitingPut k => b1 2 ++ bSlot (some k)
  | .putBegun k => b1 3 ++ bSlot (some k)
  | .clearWait => b1 4 ++ bSlot none

/-- The exit table's plate, or the incoming slot (R157). -/
def exitPlate (t : Transfer) : Option Slot :=
  match t.plate with
  | some k => some k
  | none => t.incoming

/-- Transfer Control's part (R157). -/
def trcFields (s : State) : List Byte :=
  b1 (elevatorCode s.trc.elevator) ++ b1 s.trc.level.val ++ requestFields s.trc.request
    ++ bOpt b1 (elevatorTarget s.trc.elevator) ++ bBool s.trc.halted ++ keptFields s.trc.elevator
    ++ bSlot s.trc.pendingPut ++ tableFields s.trc.table ++ bEnum handoffStates s.trc.handoff
    ++ bSlot (exitPlate s.trc) ++ b1 ((presentedSort s).getD 255)

/-- A setpoint in two bytes; the elevator's is its phase and level. -/
def setpointFields : Setpoint → List Byte
  | .none => b2 0
  | .value n => b2 n
  | .phase p l => b1 (phaseCode p) ++ b1 l.val

def driveFields (d : Drive) : List Byte :=
  b1 (driveStateCode d.state) ++ (match d.state with
    | .on sp => setpointFields sp
    | _ => b2 0)

def lampFields (l : Lamp) : List Byte :=
  match l.level with
  | some n => b1 2 ++ b1 n
  | none => b1 1 ++ b1 0

/-- Line I/O's part (R170). The state of an input line, active or inactive, and the driven state of an output line,
energised or de-energised, are sent as yes or no, 1 or 0 (DESIGN CHOICE, log 26). -/
def lioFields (s : State) : List Byte :=
  allInputs.flatMap (fun i => bBool (inputAt s i).active ++ bEnum allInputFunctions (inputCfg s i).function)
    ++ allOutputs.flatMap (fun i => bEnum outputSources (outputCfg s i).source ++ bBool (outputAt s i).driven)
    ++ driveChannels.flatMap (fun c => driveFields (s.lio.drives.get c))
    ++ lampChannels.flatMap (fun c => lampFields (s.lio.lamps.get c))

def lineFields (s : State) : List Byte :=
  bEnum lineStates s.flt.lineState ++ bEnum causes s.flt.cause ++ bBool (faultSummary s) ++ b1 (flagCount s.flt.flags)
    ++ bBool s.rss.unsaved ++ b1 (freeSlots s) ++ b1 s.ptb.queue.length
    ++ exuFields s.exu ++ lfnFields s.lfn ++ trcFields s
    ++ bEnum transportStates s.wou.transport ++ b1 (replenishmentCode s.wou.replenish) ++ bBlocker s.wou.blocker
    ++ b1 (freeDrawers s) ++ lioFields s

def flagFields (s : State) (f : Flag) : List Byte :=
  bBool (isSet f s) ++ bBool (flagHas s.flt.masks f) ++ bEnum flagClasses (flagClass f)

def faultFields (s : State) : List Byte :=
  bEnum lineStates s.flt.lineState ++ bBool (faultSummary s) ++ allFlags.flatMap (flagFields s)

/-! ### Trace records (R196) and output lines (R164) -/

/-- A trace record in 16 bytes. -/
def encodeTrace (t : TraceRecord) : List Byte :=
  b2 t.number ++ b2 t.plateId ++ bEnum lampChannels t.channel ++ b1 t.segment ++ b2 t.windowIndex ++ b1 t.count
    ++ b2 t.mean ++ b1 t.level ++ b4 t.dose

/-- Source, user value and driven state of each output line (R164); the two states are sent as yes or no, 1 for active and
for energised (DESIGN CHOICE, log 26). -/
def outputFields (s : State) : List Byte :=
  allOutputs.flatMap (fun i =>
    bEnum outputSources (outputCfg s i).source ++ bBool (outputAt s i).user ++ bBool (outputAt s i).driven)

/-! ### The ATTENTION frame (R196) -/

/-- Pending set, enable set, line state, fault summary and queue entries. -/
def attentionBody (s : State) : List Byte :=
  bAttnSet s.lnk.attnPending ++ bAttnSet (attnEnabled s) ++ bEnum lineStates s.flt.lineState
    ++ bBool (faultSummary s) ++ b1 s.ptb.queue.length

end Sys2Proof.Machine
end

