-- ==== Sys2Proof/Machine/Link.lean ====
section
/-! DEFINITION. LNK (chapter 11): the frame check and parser, the receive buffer, the service of entries, the transmitter
and the watchdog. -/

namespace Sys2Proof.Machine

/-! ### The check (R185) -/

/-- One bit of the cyclic redundancy check with generator x¹⁶ + x¹² + x⁵ + 1, most significant bit first. -/
def crcShift (c : BitVec 16) : BitVec 16 := if c.getLsbD 15 then (c <<< 1) ^^^ 4129#16 else c <<< 1

def crcByte (c : BitVec 16) (b : Byte) : BitVec 16 :=
  crcShift (crcShift (crcShift (crcShift (crcShift (crcShift (crcShift (crcShift
    (c ^^^ ((b.setWidth 16) <<< 8)))))))))

/-- The check over length, kind, tag and body (R185). -/
def crc (l : List Byte) : BitVec 16 := l.foldl crcByte 65535#16

/-- The check of a frame whose kind, tag and body are `got`. -/
def frameCheck (got : List Byte) : BitVec 16 := crc (b2 got.length ++ got)

/-- A whole frame as it goes over the line, in either direction: sync, length, kind, tag, body, check (R185). -/
def lineBytes (kind tag : Byte) (body : List Byte) : List Byte :=
  [Config.syncByte] ++ b2 (body.length + 2) ++ (kind :: tag :: body) ++ b2 (frameCheck (kind :: tag :: body)).toNat

/-- The whole frame of a request (R185). -/
def frameBytes (f : RxFrame) : List Byte := lineBytes f.kind f.tag f.body

/-! ### The receive buffer (R187) -/

/-- R187: when INIT has ended and no request is in service, the head entry is taken out of the buffer. -/
def takeNext (s : State) : State :=
  if s.flt.lineState = .init then s
  else
    match s.lnk.inService, s.lnk.rx with
    | none, e :: rest => modLnk (fun l => { l with inService := some e, rx := rest }) s
    | _, _ => s

/-- R187: an entry is offered to the receive buffer. -/
def offerEntry (e : RxEntry) (s : State) : State :=
  if s.lnk.rx.length < Config.rxLimit then takeNext (modLnk (fun l => { l with rx := l.rx ++ [e] }) s)
  else setFlag .linkOverrun s

/-! ### The watchdog (R190) -/

/-- R190: the timer starts from 0 with the period of the working line configuration; a period of 0 leaves it stopped. -/
def startWatchdog (s : State) : State :=
  modLnk (fun l => { l with
    watchdog := if s.rss.working.cfg.watchdog = 0 then none
                else some { elapsed := 0, period := s.rss.working.cfg.watchdog } }) s

/-- R190: the arrival of a valid frame, during INIT as well, restarts the timer; one that arrives before the hand-over of
the link watchdog group is kept in mind until then. -/
def restartWatchdog (s : State) : State :=
  if s.lnk.handed then startWatchdog s else modLnk (fun l => { l with heard := true }) s

/-- R41, R190: the link watchdog group is handed to LNK; a valid frame that has arrived before starts the timer now. -/
def handOverWatchdog (s : State) : State :=
  let s1 := modLnk (fun l => { l with handed := true, heard := false }) s
  if s.lnk.heard then startWatchdog s1 else s1

/-- R190: the timer, while it runs, reaches the period. -/
def watchdogEnd (s : State) : State :=
  match s.lnk.watchdog with
  | some _ => modLnk (fun l => { l with watchdog := none }) (linkLost s)
  | none => s

/-! ### The parser (R186) -/

/-- The frame whose kind, tag and body are `got`. -/
def frameOf (got : List Byte) : Option RxFrame :=
  match got with
  | kind :: tag :: body => some { kind := kind, tag := tag, body := body }
  | _ => none

def setParser (p : Parser) (s : State) : State := modLnk (fun l => { l with parser := p, gap := 0 }) s

/-- R186: a complete frame is checked and offered. -/
def completeFrame (got : List Byte) (hi lo : Byte) (s : State) : State :=
  if (frameCheck got).toNat = num2 hi lo then
    match frameOf got with
    | some f => offerEntry (.frame f) (restartWatchdog s)
    | none => s
  else offerEntry .badCheck (setFlag .linkBadcheck s)

/-- R186: one received byte. -/
def receiveByte (b : Byte) (s : State) : State :=
  match s.lnk.parser with
  | .hunt => if b = Config.syncByte then setParser (.length none) s else s
  | .length none => setParser (.length (some b)) s
  | .length (some hi) =>
    if 2 ≤ num2 hi b ∧ num2 hi b ≤ 300 then setParser (.body (num2 hi b) []) s
    else offerEntry .badLength (setParser .hunt s)
  | .body n got =>
    if n ≤ got.length + 1 then setParser (.check (got ++ [b]) none) s else setParser (.body n (got ++ [b])) s
  | .check got none => setParser (.check got (some b)) s
  | .check got (some hi) => completeFrame got hi b (setParser .hunt s)

/-- R186: 50 ms pass without a byte inside a frame. -/
def gapTimeout (s : State) : State :=
  match s.lnk.parser with
  | .hunt => s
  | _ => setFlag .linkTrunc (setParser .hunt s)

/-! ### Service (R187, R188) -/

/-- Whether an entry may be served now: INIT has ended, no save is in service, and no other entry is (log 7). -/
def entryReady (e : RxEntry) (s : State) : Bool :=
  s.flt.lineState != .init && s.rss.save.isNone && (s.lnk.inService == none || s.lnk.inService == some e)

/-- An entry that cannot be served now waits in the receive buffer, where it is offered unless it is there (log 7). -/
def holdEntry (e : RxEntry) (s : State) : State :=
  if s.lnk.inService = some e ∨ e ∈ s.lnk.rx then s else offerEntry e s

/-- R187, R188: the reply joins the transmit queue, and the request in service is finished. -/
def finishEntry (kind tag : Byte) (r : Reply) (s : State) : State :=
  takeNext (modLnk (fun l => { l with
    tx := l.tx ++ [{ kind := kind, tag := tag, body := r.status.code :: r.fields }], inService := none }) s)

/-- Serve an entry by `act`, or let it wait. -/
def serveEntry (e : RxEntry) (act : State → State) (s : State) : State :=
  if entryReady e s then act (modLnk (fun l => { l with inService := some e }) s) else holdEntry e s

/-- R188 checks 4 and 5: a request's frame is served; `act` is the owning block's part. -/
def serveRequest (f : RxFrame) (act : State → State × Reply) (s : State) : State :=
  serveEntry (.frame f) (fun t =>
    if bodyFits f then finishEntry f.kind f.tag (act t).2 (act t).1
    else finishEntry f.kind f.tag (refusal .badLength) t) s

/-! ### Transmission (R189) -/

/-- R189: the oldest reply is sent, if there is one. -/
def sendReply (s : State) : State :=
  match s.lnk.tx with
  | [] => modLnk (fun l => { l with sending := none }) s
  | f :: rest => modLnk (fun l => { l with sending := some (lineBytes f.kind f.tag f.body), tx := rest }) s

/-- R189: the transmitter chooses the next frame. -/
def chooseFrame (s : State) : State :=
  if s.lnk.attnMark then
    let s1 := modLnk (fun l => { l with attnMark := false }) s
    if s1.lnk.attnPending &&& attnEnabled s1 = 0#6 then sendReply s1
    else modLnk (fun l => { l with sending := some (lineBytes Config.attentionKind 0#8 (attentionBody s1)) }) s1
  else sendReply s

/-! ### What a command's meaning answers -/

/-- A command is an event of the controller; without power it has no effect (log 2). -/
def event (act : State → State) (s : State) : Host.Outcome State Fault Refusal :=
  .next (if s.powered then act s else s)

/-- An event whose operand must be one the machine can receive (log 33). -/
def eventIf (wellFormed : Bool) (act : State → State) (s : State) : Host.Outcome State Fault Refusal :=
  if wellFormed then event act s else .refused .illFormed

/-- R185: a request frame's length is at most 300, so its body holds at most 298 bytes. -/
def bodyInFrame (body : List Byte) : Bool := decide (body.length ≤ 298)

/-- A request command: the frame with this kind, tag and body is served. -/
def request (kind tag : Byte) (body : List Byte) (act : State → State × Reply) (s : State) :
    Host.Outcome State Fault Refusal :=
  eventIf (bodyInFrame body) (serveRequest { kind := kind, tag := tag, body := body } act) s

/-- A request that changes nothing and returns fields. -/
def readReply (fields : State → List Byte) (s : State) : State × Reply := (s, okReply (fields s))

end Sys2Proof.Machine
end

