-- ==== Sys2Proof/Machine/SettingsRequests.lean ====
section
/-! DEFINITION. The settings requests (R28 to R39): recipes, calibration, line configuration and the save, and the meaning
of each. -/

namespace Sys2Proof.Machine

/-- The byte at a position of a body. -/
def at1 (body : List Byte) (i : Nat) : Nat := (body.getD i 0#8).toNat

/-- The two-byte number at a position of a body. -/
def at2 (body : List Byte) (i : Nat) : Nat := num2 (body.getD i 0#8) (body.getD (i + 1) 0#8)

/-! ### Recipes (R27 to R30) -/

/-- A name field: the characters before the first byte of 0; each must be printable (R27, R195). -/
def nameOf (field : List Byte) : Option (List Byte) :=
  let name := field.takeWhile (fun b => b.toNat != 0)
  if name.all (fun b => decide (32 ≤ b.toNat) && decide (b.toNat ≤ 126)) then some name else none

/-- Target, level and E_set at a position of the recipe body, as sent. -/
def lampProcessAt (body : List Byte) (i : Nat) : LampProcess :=
  { target := at2 body i, level := at1 body (i + 2), eSet := at2 body (i + 3) }

/-- The process fields of the recipe body, as sent; hold on underdose apart. -/
def processAt (body : List Byte) (hold : Bool) : Process :=
  { back := lampProcessAt body 17, main := lampProcessAt body 22, exposureStretch := at2 body 27,
    holdOnUnderdose := hold, vNom := at2 body 30, dryTime := at2 body 32, uva := lampProcessAt body 34,
    uvc := lampProcessAt body 39, finisherStretch := at2 body 44 }

/-- R27: the target fields, which are refused out of range. -/
def targetsInRange (p : Process) : Bool :=
  decide (p.back.target ≤ 60000) && decide (1 ≤ p.main.target) && decide (p.main.target ≤ 60000)
    && decide (p.uva.target ≤ 60000) && decide (p.uvc.target ≤ 60000)

def clampLampProcess (p : LampProcess) : LampProcess := { p with level := clampNat 10 100 p.level }

/-- R27: the fields marked clamped. -/
def clampProcess (p : Process) : Process :=
  { p with
    back := clampLampProcess p.back
    main := clampLampProcess p.main
    exposureStretch := clampNat 100 300 p.exposureStretch
    vNom := clampNat 100 2000 p.vNom
    dryTime := clampNat 10 300 p.dryTime
    uva := clampLampProcess p.uva
    uvc := clampLampProcess p.uvc
    finisherStretch := clampNat 100 300 p.finisherStretch }

/-- The index of a recipe number in 1 to 24. -/
def recipeIndex (n : Nat) : Option (Fin 24) :=
  if h : 1 ≤ n ∧ n ≤ 24 then some ⟨n - 1, by omega⟩ else none

def setRecipe (i : Fin 24) (r : Option Recipe) (s : State) : State :=
  markUnsaved (modRss (fun x => { x with working := { x.working with
    recipes := x.working.recipes.set i.val r i.isLt } }) s)

/-- R28: RECIPE_WRITE. -/
def actRecipeWrite (body : List Byte) (s : State) : State × Reply :=
  match recipeIndex (at1 body 0), nameOf ((body.drop 1).take 16), boolOf (body.getD 29 0#8) with
  | some i, some name, some hold =>
    let sent := processAt body hold
    if targetsInRange sent then
      let r : Recipe := { name := name, process := clampProcess sent }
      (setRecipe i (some r) s, okOrClamped (clampProcess sent != sent) (encodeRecipe i r))
    else (s, refusal .badField)
  | _, _, _ => (s, refusal .badField)

/-- R29: RECIPE_READ. -/
def actRecipeRead (body : List Byte) (s : State) : State × Reply :=
  if at1 body 0 = 0 then (s, okReply (recipeListFields s))
  else
    match recipeIndex (at1 body 0) with
    | none => (s, refusal .badField)
    | some i =>
      match recipeAt s i with
      | none => (s, refusal .notFound)
      | some r => (s, okReply (encodeRecipe i r))

/-- R30: RECIPE_DELETE. -/
def actRecipeDelete (body : List Byte) (s : State) : State × Reply :=
  match recipeIndex (at1 body 0) with
  | none => (s, refusal .badField)
  | some i => if (recipeAt s i).isNone then (s, refusal .notFound) else (setRecipe i none s, okReply [])

/-! ### Calibration (R31 to R33) -/

/-- The groups a CAL_WRITE carries; a lamp group with its lamp replaced mark. -/
structure CalGroups where
  lamps : PerLamp (Option (LampCal × Byte))
  wash : Option WashCal
  dryer : Option Nat
deriving DecidableEq, Repr

/-- A lamp group and its lamp replaced mark, as sent (R31, R195). -/
def lampGroupAt (l : List Byte) : LampCal × Byte :=
  ({ offset := at1 l 0, gain := at2 l 1, eNom := at2 l 3, ratedLife := at2 l 5 }, l.getD 7 0#8)

/-- The washout group, as sent (R32, R195). -/
def washGroupAt (l : List Byte) : WashCal :=
  { brushLength := at2 l 0, rinseLength := at2 l 2, bathVolume := at2 l 4, lambdaRef := at2 l 6,
    lambdaRepl := at2 l 8, lambdaMax := at2 l 10, exchange := at1 l 12, pumpRate := at1 l 13,
    speedBand := at1 l 14, tempSetpoint := at1 l 15 }

/-- A group of `size` bytes at the head of `l`, when it is present; and the bytes after it. -/
def takeGroup {α : Type} (here : Bool) (size : Nat) (read : List Byte → α) (l : List Byte) : Option α × List Byte :=
  if here then (some (read l), l.drop size) else (none, l)

/-- The groups that follow CAL_WRITE's presence byte. -/
def parseCal (p : Byte) (l0 : List Byte) : CalGroups :=
  let (back, l1) := takeGroup (present p 0) 8 lampGroupAt l0
  let (main, l2) := takeGroup (present p 1) 8 lampGroupAt l1
  let (uva, l3) := takeGroup (present p 2) 8 lampGroupAt l2
  let (uvc, l4) := takeGroup (present p 3) 8 lampGroupAt l3
  let (wash, l5) := takeGroup (present p 4) 16 washGroupAt l4
  let (dryer, _) := takeGroup (present p 5) 1 (fun l => at1 l 0) l5
  { lamps := ⟨back, main, uva, uvc⟩, wash := wash, dryer := dryer }

/-- R31: the fields of a lamp group marked refused, and its replaced mark. -/
def lampGroupOk (g : LampCal × Byte) : Bool :=
  decide (1 ≤ g.1.gain) && decide (1 ≤ g.1.eNom) && (boolOf g.2).isSome

/-- R32: the fields of the washout group marked refused, and its ordering check. -/
def washGroupOk (w : WashCal) : Bool :=
  decide (600 ≤ w.brushLength) && decide (w.brushLength ≤ 2000) && decide (100 ≤ w.rinseLength)
    && decide (w.rinseLength ≤ 800) && decide (40 ≤ w.bathVolume) && decide (w.bathVolume ≤ 400)
    && decide (5000 ≤ w.lambdaRef) && decide (w.lambdaRef ≤ 30000) && decide (1 ≤ w.lambdaRepl)
    && decide (w.lambdaRepl < w.lambdaMax) && decide (w.lambdaMax < w.lambdaRef)

def clampLampCal (c : LampCal) : LampCal := { c with ratedLife := clampNat 100 20000 c.ratedLife }

def clampWashCal (w : WashCal) : WashCal :=
  { w with exchange := clampNat 5 50 w.exchange, pumpRate := clampNat 5 60 w.pumpRate,
           speedBand := clampNat 0 20 w.speedBand, tempSetpoint := clampNat 20 40 w.tempSetpoint }

/-- R33, check 1. -/
def calInRange (p : Byte) (g : CalGroups) : Bool :=
  p != 0#8 && !presenceUnknown p 6 && lampChannels.all (fun ch => (g.lamps.get ch).all lampGroupOk)
    && g.wash.all washGroupOk

/-- R33, check 2: a changed brush zone or rinse length while the transport list holds a plate. -/
def washLengthsBarred (g : CalGroups) (s : State) : Bool :=
  match g.wash with
  | none => false
  | some w =>
    !s.wou.list.isEmpty
      && (w.brushLength != (washCal s).brushLength || w.rinseLength != (washCal s).rinseLength)

/-- The lamp replaced mark of a carried lamp group is yes. -/
def replaced (g : Option (LampCal × Byte)) : Bool :=
  match g with
  | none => false
  | some x => boolOf x.2 == some true

/-- R33, check 3: a replaced mark while that lamp channel is ON. -/
def replacedBarred (g : CalGroups) (s : State) : Bool :=
  lampChannels.any (fun ch => replaced (g.lamps.get ch) && lampIsOn ch s)

/-- A carried lamp group, clamped, in place of the working one. -/
def storeLampCal (g : Option (LampCal × Byte)) (c : LampCal) : LampCal :=
  match g with
  | none => c
  | some x => clampLampCal x.1

/-- R33: each carried group, clamped, is stored in the working copy. -/
def storeCal (g : CalGroups) (c : Calibration) : Calibration :=
  { lamps := ⟨storeLampCal g.lamps.back c.lamps.back, storeLampCal g.lamps.main c.lamps.main,
              storeLampCal g.lamps.uva c.lamps.uva, storeLampCal g.lamps.uvc c.lamps.uvc⟩
    wash := (g.wash.map clampWashCal).getD c.wash
    dryerSetpoint := (g.dryer.map (clampNat 40 70)).getD c.dryerSetpoint }

/-- R33, R59: a replaced lamp's lamp-on time and carry become 0, and a counters write is asked. -/
def replaceLamp (g : CalGroups) (s : State) (ch : LampChannel) : State :=
  if replaced (g.lamps.get ch) then
    askCountersWrite (modDin (fun d => { d with lampOn := d.lampOn.set ch 0, carry := d.carry.set ch 0 }) s)
  else s

/-- Whether a CAL_WRITE carries a lamp group. -/
def carriesLamp (g : CalGroups) : Bool := lampChannels.any (fun ch => (g.lamps.get ch).isSome)

/-- R33: each stored group is handed to the block that uses it. -/
def handCal (g : CalGroups) (s : State) : State :=
  let s1 := if carriesLamp g then testLampLife s else s
  let s2 := if g.wash.isSome then evalAdmission s1 else s1
  if g.dryer.isSome then carrySetpoint s2 else s2

/-- R33: an accepted CAL_WRITE. -/
def applyCal (g : CalGroups) (s : State) : State :=
  let s1 := modRss (fun r => { r with working := { r.working with cal := storeCal g r.working.cal } }) s
  handCal g (markUnsaved (lampChannels.foldl (replaceLamp g) s1))

/-- Whether a lamp group has a value that is clamped. -/
def lampClamped (g : Option (LampCal × Byte)) : Bool :=
  match g with
  | none => false
  | some x => clampLampCal x.1 != x.1

/-- Whether any carried value is clamped. -/
def calClamped (g : CalGroups) : Bool :=
  lampChannels.any (fun ch => lampClamped (g.lamps.get ch))
    || (match g.wash with
        | none => false
        | some w => clampWashCal w != w)
    || (match g.dryer with
        | none => false
        | some t => clampNat 40 70 t != t)

/-- The stored groups that were carried, behind the presence byte (DESIGN CHOICE, log 27). -/
def calGroupFields (p : Byte) (g : CalGroups) (s : State) : List Byte :=
  [p] ++ lampChannels.flatMap (fun ch => if (g.lamps.get ch).isSome then encodeLampCal (lampCal s ch) else [])
    ++ (if g.wash.isSome then encodeWashCal (washCal s) else [])
    ++ (if g.dryer.isSome then b1 (dryerSetpoint s) else [])

/-- R33: CAL_WRITE on its groups. -/
def actCalGroups (p : Byte) (g : CalGroups) (s : State) : State × Reply :=
  if calInRange p g then
    if washLengthsBarred g s || replacedBarred g s then (s, refusal .wrongState)
    else (applyCal g s, okOrClamped (calClamped g) (calGroupFields p g (applyCal g s)))
  else (s, refusal .badField)

/-- R33: CAL_WRITE. -/
def actCalWrite (body : List Byte) (s : State) : State × Reply :=
  match body with
  | p :: rest => actCalGroups p (parseCal p rest) s
  | [] => (s, refusal .badLength)

/-! ### Line configuration (R35, R36) -/

/-- A line group as sent: its line number and its fields, read where they can be. -/
structure InputGroup where
  line : Nat
  function : Option InputFunction
  invert : Option Bool
  debounce : Nat
deriving DecidableEq, Repr

structure OutputGroup where
  line : Nat
  source : Option OutputSource
  invert : Option Bool
  minPulse : Nat
deriving DecidableEq, Repr

structure ExitGroup where
  mode : Option HandoffMode
  pushFirst : Option Bool
  setupDelay : Nat
  timedDwell : Nat
  handoffTimeout : Nat
deriving DecidableEq, Repr

/-- The groups a CONFIG_WRITE carries. -/
structure ConfigGroups where
  inputs : Option (List InputGroup)
  outputs : Option (List OutputGroup)
  exit : Option ExitGroup
  watchdog : Option Nat
  attention : Option Byte
deriving DecidableEq, Repr

def inputGroupAt (l : List Byte) : InputGroup :=
  { line := at1 l 0, function := atPlace allInputFunctions (at1 l 1), invert := boolOf (l.getD 2 0#8),
    debounce := at1 l 3 }

def outputGroupAt (l : List Byte) : OutputGroup :=
  { line := at1 l 0, source := atPlace outputSources (at1 l 1), invert := boolOf (l.getD 2 0#8),
    minPulse := at2 l 3 }

def exitGroupAt (l : List Byte) : ExitGroup :=
  { mode := atPlace handoffModes (at1 l 0), pushFirst := boolOf (l.getD 1 0#8), setupDelay := at2 l 2,
    timedDwell := at1 l 4, handoffTimeout := at2 l 5 }

/-- `n` groups of `size` bytes. -/
def readGroups {α : Type} (size : Nat) (read : List Byte → α) : Nat → List Byte → List α
  | 0, _ => []
  | n + 1, l => read l :: readGroups size read n (l.drop size)

/-- A counted list of groups at the head of `l`, when it is present; and the bytes after it. -/
def takeCounted {α : Type} (here : Bool) (size : Nat) (read : List Byte → α) (l : List Byte) :
    Option (List α) × List Byte :=
  if here then (some (readGroups size read (at1 l 0) (l.drop 1)), l.drop (1 + size * at1 l 0)) else (none, l)

/-- The groups that follow CONFIG_WRITE's presence byte. -/
def parseConfig (p : Byte) (l0 : List Byte) : ConfigGroups :=
  let (inputs, l1) := takeCounted (present p 0) 4 inputGroupAt l0
  let (outputs, l2) := takeCounted (present p 1) 5 outputGroupAt l1
  let (exit, l3) := takeGroup (present p 2) 7 exitGroupAt l2
  let (watchdog, l4) := takeGroup (present p 3) 2 (fun l => at2 l 0) l3
  let (attention, _) := takeGroup (present p 4) 1 (fun l => l.getD 0 0#8) l4
  { inputs := inputs, outputs := outputs, exit := exit, watchdog := watchdog, attention := attention }

/-- R36, check 1, on the carried lines: a count of 1 to `n`, no line outside the range, none named twice. -/
def linesOk (n : Nat) (lines : List Nat) : Bool :=
  decide (1 ≤ lines.length) && decide (lines.length ≤ n) && lines.all (fun x => decide (1 ≤ x) && decide (x ≤ n))
    && decide lines.Nodup

/-- R36, check 1. -/
def configInRange (p : Byte) (g : ConfigGroups) : Bool :=
  p != 0#8 && !presenceUnknown p 5
    && g.inputs.all (fun l => linesOk 12 (l.map (·.line)) && l.all (fun x => x.function.isSome && x.invert.isSome))
    && g.outputs.all (fun l => linesOk 8 (l.map (·.line)) && l.all (fun x => x.source.isSome && x.invert.isSome))
    && g.exit.all (fun x => x.mode.isSome && x.pushFirst.isSome)
    && g.attention.all (fun b => (attnSetOf b).isSome)

/-- The settings of a carried input group. -/
def inputCfgOf (x : InputGroup) : InputCfg :=
  { function := x.function.getD .none, invert := x.invert.getD false, debounce := x.debounce }

/-- The settings of a carried output group, clamped. -/
def outputCfgOf (x : OutputGroup) : OutputCfg :=
  { source := x.source.getD .disabled, invert := x.invert.getD false, minPulse := clampNat 0 2000 x.minPulse }

def exitCfgOf (x : ExitGroup) : ExitCfg :=
  { mode := x.mode.getD .operator, pushFirst := x.pushFirst.getD false,
    setupDelay := clampNat 0 5000 x.setupDelay, timedDwell := clampNat 2 60 x.timedDwell,
    handoffTimeout := clampNat 10 600 x.handoffTimeout }

/-- R35: a watchdog period of 0 is off; 1 to 9 is stored as 10 and above 600 as 600. -/
def clampWatchdog (n : Nat) : Nat := if n = 0 then 0 else clampNat 10 600 n

/-- The line index of a line number, counting from 1. -/
def lineIndex (n lines : Nat) (h : 0 < lines) : Fin lines := ⟨(n - 1) % lines, Nat.mod_lt _ h⟩

def storeInput (cfg : LineConfig) (x : InputGroup) : LineConfig :=
  let i : Fin 12 := lineIndex x.line 12 (by decide)
  { cfg with inputs := cfg.inputs.set i.val (inputCfgOf x) i.isLt }

def storeOutput (cfg : LineConfig) (x : OutputGroup) : LineConfig :=
  let i : Fin 8 := lineIndex x.line 8 (by decide)
  { cfg with outputs := cfg.outputs.set i.val (outputCfgOf x) i.isLt }

/-- R36: the record as it stands after the write. -/
def storeConfig (g : ConfigGroups) (cfg : LineConfig) : LineConfig :=
  let c1 := (g.inputs.getD []).foldl storeInput cfg
  let c2 := (g.outputs.getD []).foldl storeOutput c1
  { c2 with
    exit := (g.exit.map exitCfgOf).getD cfg.exit
    watchdog := (g.watchdog.map clampWatchdog).getD cfg.watchdog
    attention := (g.attention.bind attnSetOf).getD cfg.attention }

/-- The number of input lines that carry a function. -/
def linesWith (cfg : LineConfig) (fn : InputFunction) : Nat :=
  (allInputs.filter (fun i => cfg.inputs[i.val].function == fn)).length

/-- R35: line 1 carries INHIBIT with debounce 10 ms, and each function other than NONE has one line at most. -/
def configConsistent (cfg : LineConfig) : Bool :=
  cfg.inputs[0].function == .inhibit && cfg.inputs[0].debounce == 10
    && inputFunctions.all (fun fn => decide (linesWith cfg fn ≤ 1))

/-- The input and output lines a CONFIG_WRITE carries. -/
def carriedInputs (g : ConfigGroups) : List (Fin 12) :=
  (g.inputs.getD []).map (fun x => lineIndex x.line 12 (by decide))

def carriedOutputs (g : ConfigGroups) : List (Fin 8) :=
  (g.outputs.getD []).map (fun x => lineIndex x.line 8 (by decide))

/-- R36: the watchdog group handed to LNK; a period of 0 stops the timer at once. -/
def handWatchdog (g : ConfigGroups) (s : State) : State :=
  if g.watchdog = some 0 then modLnk (fun l => { l with watchdog := none }) s else s

/-- R193, R36: with the new enable set stored, an item newly enabled and pending sets the ATTENTION mark. -/
def announceEnabled (old new : AttnSet) (s : State) : State :=
  if new &&& ~~~old &&& s.lnk.attnPending = 0#6 then s else modLnk (fun l => { l with attnMark := true }) s

/-- R36: the groups are handed to LIO, TRC and LNK; TRC takes the exit group at its next entry to SETUP. LIO settles the
carried output lines first, so that a change of one by the write starts its hold, and what the carried input lines
deliver acts on them as any other change of a source does (R163, log 16). -/
def handConfig (g : ConfigGroups) (before s : State) : State :=
  let s1 := (carriedOutputs g).foldl resettleOutput s
  let s2 := applyInputs (carriedInputs g) before s1
  announceEnabled (attnEnabled before) (attnEnabled s) (handWatchdog g s2)

/-- R36: an accepted CONFIG_WRITE. -/
def applyConfig (g : ConfigGroups) (s : State) : State :=
  handConfig g s (markUnsaved (modRss (fun r =>
    { r with working := { r.working with cfg := storeConfig g r.working.cfg } }) s))

/-- Whether any carried value is clamped. -/
def configClamped (g : ConfigGroups) : Bool :=
  (g.outputs.getD []).any (fun x => clampNat 0 2000 x.minPulse != x.minPulse)
    || (match g.exit with
        | none => false
        | some x => clampNat 0 5000 x.setupDelay != x.setupDelay || clampNat 2 60 x.timedDwell != x.timedDwell
            || clampNat 10 600 x.handoffTimeout != x.handoffTimeout)
    || (match g.watchdog with
        | none => false
        | some n => clampWatchdog n != n)

/-- The stored groups that were carried, behind the presence byte (DESIGN CHOICE, log 27). -/
def configGroupFields (p : Byte) (g : ConfigGroups) (s : State) : List Byte :=
  [p] ++ (match g.inputs with
      | none => []
      | some l => b1 l.length ++ (carriedInputs g).flatMap (fun i => encodeInput i (inputCfg s i)))
    ++ (match g.outputs with
      | none => []
      | some l => b1 l.length ++ (carriedOutputs g).flatMap (fun i => encodeOutput i (outputCfg s i)))
    ++ (if g.exit.isSome then encodeExit s.rss.working.cfg.exit else [])
    ++ (if g.watchdog.isSome then b2 s.rss.working.cfg.watchdog else [])
    ++ (if g.attention.isSome then bAttnSet s.rss.working.cfg.attention else [])

/-- R36: CONFIG_WRITE on its groups. -/
def actConfigGroups (p : Byte) (g : ConfigGroups) (s : State) : State × Reply :=
  if configInRange p g && configConsistent (storeConfig g s.rss.working.cfg) then
    (applyConfig g s, okOrClamped (configClamped g) (configGroupFields p g (applyConfig g s)))
  else (s, refusal .badField)

/-- R36: CONFIG_WRITE. -/
def actConfigWrite (body : List Byte) (s : State) : State × Reply :=
  match body with
  | p :: rest => actConfigGroups p (parseConfig p rest) s
  | [] => (s, refusal .badLength)

/-! ### The save (R39) -/

/-- R39 steps 1 and 2: the bank that is not current receives the working copy; its check value does not agree until it
has been read back (log 11). The request stays in service until the save ends (R187). -/
def beginSave (tag : Byte) (s : State) : State :=
  modRss (fun r => { setBank (saveTarget r)
      { settings := r.working, saveNumber := nextSaveNumber r, valid := false } r with
    save := some { bank := saveTarget r, tag := tag } }) s

/-- R39: STORE_CHECK is cleared, when it is set, by a save that succeeds; the exposure unit tests its intake (R69). -/
def clearStoreCheck (s : State) : State := if isSet .storeCheck s then tryIntake (clearFlag .storeCheck s) else s

/-- R39: the bank verifies, and the unsaved-edits mark becomes no. -/
def saveVerified (s : State) : State := clearStoreCheck (modRss (fun r => { r with unsaved := false }) s)

/-- R39: the save's read-back ends; an end that no save awaits has no effect. -/
def endSave (verified : Bool) (s : State) : State :=
  match s.rss.save with
  | none => s
  | some sv =>
    let s1 := modRss (fun r => { setBank sv.bank { bank sv.bank r with valid := verified } r with save := none }) s
    let s2 := startWaitingCounters (if verified then saveVerified s1 else s1)
    finishEntry kindStoreSave sv.tag (if verified then okReply [] else refusal .storeFail) s2

/-- R39: STORE_SAVE; its reply is sent when the save ends. -/
def serveSave (f : RxFrame) (s : State) : State :=
  serveEntry (.frame f) (fun t =>
    if bodyFits f then beginSave f.tag t else finishEntry f.kind f.tag (refusal .badLength) t) s

/-! ### The commands -/

/-- RECIPE_WRITE (R28). -/
def execRecipeWrite (tag : Byte) (body : List Byte) (s : State) : Host.Outcome State Fault Refusal :=
  request kindRecipeWrite tag body (actRecipeWrite body) s

/-- RECIPE_READ (R29). -/
def execRecipeRead (tag : Byte) (body : List Byte) (s : State) : Host.Outcome State Fault Refusal :=
  request kindRecipeRead tag body (actRecipeRead body) s

/-- RECIPE_DELETE (R30). -/
def execRecipeDelete (tag : Byte) (body : List Byte) (s : State) : Host.Outcome State Fault Refusal :=
  request kindRecipeDelete tag body (actRecipeDelete body) s

/-- CAL_WRITE (R33). -/
def execCalWrite (tag : Byte) (body : List Byte) (s : State) : Host.Outcome State Fault Refusal :=
  request kindCalWrite tag body (actCalWrite body) s

/-- CAL_READ (R34). -/
def execCalRead (tag : Byte) (body : List Byte) (s : State) : Host.Outcome State Fault Refusal :=
  request kindCalRead tag body (readReply calFields) s

/-- CONFIG_WRITE (R36). -/
def execConfigWrite (tag : Byte) (body : List Byte) (s : State) : Host.Outcome State Fault Refusal :=
  request kindConfigWrite tag body (actConfigWrite body) s

/-- CONFIG_READ (R37). -/
def execConfigRead (tag : Byte) (body : List Byte) (s : State) : Host.Outcome State Fault Refusal :=
  request kindConfigRead tag body (readReply configFields) s

/-- STORE_SAVE (R39). -/
def execStoreSave (tag : Byte) (body : List Byte) (s : State) : Host.Outcome State Fault Refusal :=
  eventIf (bodyInFrame body) (serveSave { kind := kindStoreSave, tag := tag, body := body }) s

/-- STORE_SAVE_END (R39). -/
def execStoreSaveEnd (verified : Bool) (s : State) : Host.Outcome State Fault Refusal := event (endSave verified) s

end Sys2Proof.Machine
end

