-- ==== Sys2Proof/Machine/UnitRequests.lean ====
section
/-! DEFINITION. The solvent and dryer requests (R110 to R112, R125, R126) and the attention and output requests (R164, R192,
R193), and the meaning of each. -/

namespace Sys2Proof.Machine

/-- R110: REPLENISH_NOW. -/
def actReplenishNow (s : State) : State × Reply :=
  match s.wou.replenish with
  | .running _ => (s, refusal .wrongState)
  | .none | .pending | .blocked => (replenishNow s, okReply [])

/-- R111: BATH_CHANGED. -/
def actBathChanged (s : State) : State × Reply :=
  match s.wou.list, s.wou.replenish with
  | _ :: _, _ => (s, refusal .wrongState)
  | [], .running _ => (s, refusal .wrongState)
  | [], _ => (bathChanged s, okReply [])

/-- R125 step 2: the setpoint stored in the dryer group. -/
def storeSetpoint (t : Nat) (s : State) : State :=
  modRss (fun r => { r with working := { r.working with cal := { r.working.cal with dryerSetpoint := t } } }) s

/-- R125: DRYER_SET. -/
def actDryerSet (body : List Byte) (s : State) : State × Reply :=
  match body with
  | [t] =>
    (carrySetpoint (markUnsaved (storeSetpoint (clampNat 40 70 t.toNat) s)),
     okOrClamped (clampNat 40 70 t.toNat != t.toNat) (b1 (clampNat 40 70 t.toNat)))
  | _ => (s, refusal .badLength)

/-- R193: the enable set is replaced. -/
def enableAttention (m : AttnSet) (s : State) : State :=
  announceEnabled (attnEnabled s) m
    (markUnsaved (modRss (fun r => { r with working := { r.working with
      cfg := { r.working.cfg with attention := m } } }) s))

/-- R193: ATTN_ENABLE. -/
def actAttnEnable (body : List Byte) (s : State) : State × Reply :=
  match body with
  | [b] =>
    match attnSetOf b with
    | some m => (enableAttention m s, okReply (bAttnSet m))
    | none => (s, refusal .badField)
  | _ => (s, refusal .badLength)

/-- R192: the named items are removed; any enabled item still pending is announced again. -/
def clearAttention (m : AttnSet) (s : State) : State :=
  modLnk (fun l => { l with
    attnPending := l.attnPending &&& ~~~m
    attnMark := l.attnMark || (l.attnPending &&& ~~~m &&& attnEnabled s) != 0#6 }) s

/-- R192: ATTN_CLEAR. -/
def actAttnClear (body : List Byte) (s : State) : State × Reply :=
  match body with
  | [b] =>
    match attnSetOf b with
    | some m => (clearAttention m s, okReply (bAttnSet (clearAttention m s).lnk.attnPending))
    | none => (s, refusal .badField)
  | _ => (s, refusal .badLength)

/-- The pairs of an OUTPUT_SET body (R195). -/
def pairsOf : List Byte → List (Nat × Byte)
  | line :: value :: rest => (line.toNat, value) :: pairsOf rest
  | _ => []

/-- R164: each line in 1 to 8, none twice, each value active or inactive. -/
def pairsOk (l : List (Nat × Byte)) : Bool :=
  l.all (fun p => decide (1 ≤ p.1) && decide (p.1 ≤ 8) && (boolOf p.2).isSome) && decide (l.map (·.1)).Nodup

/-- The output line a pair names. -/
def pairLine (p : Nat × Byte) : Fin 8 := lineIndex p.1 8 (by decide)

/-- R164: a value carried is stored. -/
def storeUser (s : State) (p : Nat × Byte) : State :=
  setOutput (pairLine p) { outputAt s (pairLine p) with user := boolOf p.2 == some true } s

/-- R164: a carried line whose source is USER takes the change under R163. -/
def applyUser (s : State) (p : Nat × Byte) : State :=
  if (outputCfg s (pairLine p)).source = .user then refreshOutput s (pairLine p) else s

/-- R164: the values are stored, then applied. -/
def setUsers (l : List (Nat × Byte)) (s : State) : State := l.foldl applyUser (l.foldl storeUser s)

/-- R164: OUTPUT_SET. -/
def actOutputSet (body : List Byte) (s : State) : State × Reply :=
  if pairsOk (pairsOf body) then (setUsers (pairsOf body) s, okReply (outputFields (setUsers (pairsOf body) s)))
  else (s, refusal .badField)

/-! ### The commands -/

/-- SOLVENT_READ (R112). -/
def execSolventRead (tag : Byte) (body : List Byte) (s : State) : Host.Outcome State Fault Refusal :=
  request kindSolventRead tag body (readReply solventFields) s

/-- REPLENISH_NOW (R110). -/
def execReplenishNow (tag : Byte) (body : List Byte) (s : State) : Host.Outcome State Fault Refusal :=
  request kindReplenishNow tag body actReplenishNow s

/-- BATH_CHANGED (R111). -/
def execBathChanged (tag : Byte) (body : List Byte) (s : State) : Host.Outcome State Fault Refusal :=
  request kindBathChanged tag body actBathChanged s

/-- DRYER_SET (R125). -/
def execDryerSet (tag : Byte) (body : List Byte) (s : State) : Host.Outcome State Fault Refusal :=
  request kindDryerSet tag body (actDryerSet body) s

/-- DRYER_READ (R126). -/
def execDryerRead (tag : Byte) (body : List Byte) (s : State) : Host.Outcome State Fault Refusal :=
  request kindDryerRead tag body (readReply dryerFields) s

/-- ATTN_ENABLE (R193). -/
def execAttnEnable (tag : Byte) (body : List Byte) (s : State) : Host.Outcome State Fault Refusal :=
  request kindAttnEnable tag body (actAttnEnable body) s

/-- ATTN_CLEAR (R192). -/
def execAttnClear (tag : Byte) (body : List Byte) (s : State) : Host.Outcome State Fault Refusal :=
  request kindAttnClear tag body (actAttnClear body) s

/-- OUTPUT_SET (R164). -/
def execOutputSet (tag : Byte) (body : List Byte) (s : State) : Host.Outcome State Fault Refusal :=
  request kindOutputSet tag body (actOutputSet body) s

end Sys2Proof.Machine
end

