-- ==== Sys2Proof/Machine/StartUp.lean ====
section
/-! DEFINITION. Power: what a power loss leaves (R39, R40), power-on and the start-up load (R41, R42), and the end of INIT
(R172 and the end-of-INIT readings of the stations). -/

namespace Sys2Proof.Machine

/-! ### Power loss -/

/-- The counters area after a power loss: the loading of every commit is in it (R40; log 12). -/
def keptCounters (r : Store) : CountersArea :=
  { r.counters with lambda := satAdd 65535 r.counters.lambda r.commitsSinceWrite }

/-- R39, R40: power is lost; the non-volatile store is what remains. The waiting commands are the outside's, and the
counter of the free values goes on (log 2, log 9). -/
def losePower (s : State) : State :=
  { State.blank with
    pending := s.pending
    rss := { State.blankStore with bankA := s.rss.bankA, bankB := s.rss.bankB, counters := keptCounters s.rss }
    trc := { State.blank.trc with levelReads := s.trc.levelReads } }

/-! ### Power-on -/

/-- R41: the working copy is loaded from the current bank, or from the defaults with STORE_CHECK set. -/
def loadSettings (s : State) : State :=
  match currentBank s.rss with
  | some n => modRss (fun r => { r with working := (bank n r).settings, unsaved := false }) s
  | none => setFlag .storeCheck (modRss (fun r => { r with working := defaultSettings, unsaved := true }) s)

/-- R158: every input line is read once, without debounce and without any change event. -/
def readInput (levels : BitVec 12) (s : State) (i : Fin 12) : State :=
  setInput i { raw := levels.getLsbD i.val, active := rawSense (levels.getLsbD i.val) (inputCfg s i).invert,
               timer := none } s

/-- R42: the counters are loaded from an area that agrees. -/
def giveCounters (s : State) : State :=
  modDin (fun d => { d with lampOn := s.rss.counters.lampOn })
    (modWou (fun w => { w with lambda := s.rss.counters.lambda }) s)

/-- R42: a counters area that does not agree sets COUNTERS_CHECK; λ is λ_max, every lamp-on time 0, and a counters write
is asked. -/
def replaceCounters (s : State) : State :=
  askCountersWrite
    (modDin (fun d => { d with lampOn := perLamp 0 })
      (modWou (fun w => { w with lambda := (washCal s).lambdaMax })
        (setFlag .countersCheck (modRss (fun r => { r with countersFailed := true }) s))))

/-- R42: the counters load. -/
def loadCounters (s : State) : State := if s.rss.counters.valid then giveCounters s else replaceCounters s

/-- R41, R42: power-on, up to the moment the loads are done, the groups handed over within the settings load; INIT ends at
START_UP_LOAD_FINISHED (log 13). -/
def powerUp (levels : BitVec 12) (s : State) : State :=
  let s1 := handOverWatchdog (loadSettings { losePower s with powered := true })
  testLampLife (loadCounters (allInputs.foldl (readInput levels) s1))

/-! ### The end of INIT -/

/-- R172: FLT ends INIT. -/
def endInitLine (s : State) : State :=
  if inhibitActive s then changeLine .stopped .startUp (setFlag .inhibit s) else changeLine .run .startUp s

/-- The stations start no work during INIT, so what an edge of INTAKE_PRESENT armed before its end does not count: the
end-of-INIT reading decides (R66, R158). -/
def discardArming (s : State) : State := modExu (fun e => { e with armed := false }) s

/-- R66, R68: the exposure unit's readings. -/
def endInitExu (s : State) : State :=
  let s1 := modExu (fun e => { e with armed := inputActive .intakePresent s }) s
  if inputActive .exuPresent s then modExu (fun e => { e with state := .clearWait }) s1 else exuEnterEmpty s1

/-- R128: the finisher's reading. -/
def endInitLfn (s : State) : State :=
  modLfn (fun l => { l with state := if inputActive .lfnPresent s then .clearWait else .empty }) s

/-- R140, R149: Transfer Control's readings: halted, the level reported, the washout exit table, the handoff. -/
def endInitTrc (level : Fin 8) (s : State) : State :=
  modTrc (fun t => { t with
    halted := haltCause s
    level := level
    table := if inputActive .washExitPresent s then .clearWait else .empty
    handoff := if inputActive .exitPresent s then .doneWaitClear else .empty }) s

/-- R172: the start-up load is finished. The stations take their readings after the line state has been decided; then the
elevator homes (R142), the heater is tested (R122), and requests are served (R187). Order: log 32. -/
def finishStartUp (level : Fin 8) (s : State) : State :=
  if s.flt.lineState = .init then
    takeNext (beginHoming (endInitTrc level (endInitLfn (testHeater (endInitExu (endInitLine
      (discardArming s)))))))
  else s

/-! ### The commands -/

/-- POWER_ON (R41): power returns, or is interrupted and returns (log 2). -/
def execPowerOn (levels : BitVec 12) (s : State) : Host.Outcome State Fault Refusal := .next (powerUp levels s)

/-- POWER_LOSS (R39). -/
def execPowerLoss (s : State) : Host.Outcome State Fault Refusal := event losePower s

/-- START_UP_LOAD_FINISHED (R172). -/
def execStartUpLoadFinished (level : Fin 8) (s : State) : Host.Outcome State Fault Refusal :=
  event (finishStartUp level) s

/-- COUNTERS_WRITE_END (R40); an end that no write awaits has no effect. -/
def execCountersWriteEnd (verified : Bool) (s : State) : Host.Outcome State Fault Refusal :=
  event (endCountersWrite verified) s

end Sys2Proof.Machine
end

