-- ==== Sys2Proof/Machine/Events.lean ====
section
/-! DEFINITION. The meaning of each event command that is not a request: line inputs and drivers, exposure and dose,
washout, dryer, elevator, finisher, exit table and link. -/

namespace Sys2Proof.Machine

/-! ### Line inputs, outputs and drivers -/

/-- RAW_INPUT_CHANGE (R159). -/
def execRawInputChange (line : Fin 12) (energised : Bool) (s : State) : Host.Outcome State Fault Refusal :=
  event (rawChange line energised) s

/-- DEBOUNCE_EXPIRY (R159). -/
def execDebounceExpiry (line : Fin 12) (s : State) : Host.Outcome State Fault Refusal := event (debounceEnd line) s

/-- OUTPUT_HOLD_END (R163). -/
def execOutputHoldEnd (line : Fin 8) (s : State) : Host.Outcome State Fault Refusal := event (holdEnd line) s

/-- OVERCURRENT_TRIP (R166). -/
def execOvercurrentTrip (channel : DriveChannel) (s : State) : Host.Outcome State Fault Refusal :=
  event (trip channel) s

/-! ### Exposure and dose -/

/-- A tag reading: 0 for a no-read, or a plate id of 1 to 65534 (R70, R131). -/
def tagWellFormed (tag : Nat) : Bool := decide (tag ≤ 65534)

/-- INTAKE_TAG_ARRIVAL (R70). -/
def execIntakeTagArrival (tag : Nat) (s : State) : Host.Outcome State Fault Refusal :=
  eventIf (tagWellFormed tag) (takeIntakeTag tag) s

/-- LOAD_TIMER_EXPIRY (R73). -/
def execLoadTimerExpiry (s : State) : Host.Outcome State Fault Refusal := event loadTimeout s

/-- R49: a sample; the station that runs the channel hears of a run's ending (R75, R133). -/
def sample (ch : LampChannel) (raw : Nat) (s : State) : State :=
  match takeSample ch raw s with
  | (s1, none) => s1
  | (s1, some ending) =>
    match ch with
    | .back | .main => exuRunEnding ch ending s1
    | .uva | .uvc => lfnRunEnding ch ending s1

/-- SAMPLE_ARRIVAL (R49). -/
def execSampleArrival (channel : LampChannel) (raw : BitVec 12) (s : State) : Host.Outcome State Fault Refusal :=
  event (sample channel raw.toNat) s

/-! ### Washout -/

/-- GAP_MARK (R99). -/
def execGapMark (slot : Slot) (s : State) : Host.Outcome State Fault Refusal := event (gapMark slot) s

/-- END_MARK (R101). -/
def execEndMark (slot : Slot) (s : State) : Host.Outcome State Fault Refusal := event (endMark slot) s

/-- COMMIT_MARK (R100). -/
def execCommitMark (slot : Slot) (s : State) : Host.Outcome State Fault Refusal := event (commitMark slot) s

/-- EXIT_MARK (R103). -/
def execExitMark (s : State) : Host.Outcome State Fault Refusal := event exitMark s

/-- Whether a sensor's reading is taken: readings begin at the end of INIT (R106, R118; log 37). -/
def readingsTaken (s : State) : Bool := s.flt.lineState != .init

/-- SOLVENT_TEMP_READING (R106). -/
def execSolventTempReading (reading : Byte) (s : State) : Host.Outcome State Fault Refusal :=
  event (fun t => if readingsTaken t then takeSolventTemp reading.toNat t else t) s

/-- Whether the pumped time runs: RUNNING with the pump ON (R108). -/
def pumpedTimeRuns (s : State) : Bool := driveIsOn .pump s

/-- REPLENISH_COMPLETE (R108). -/
def execReplenishComplete (s : State) : Host.Outcome State Fault Refusal :=
  event (fun t => if pumpedTimeRuns t then completeReplenish t else t) s

/-! ### Dryer and elevator -/

/-- DRYER_READING (R118). -/
def execDryerReading (reading : Byte) (s : State) : Host.Outcome State Fault Refusal :=
  event (fun t => if readingsTaken t then takeDryerReading reading.toNat t else t) s

/-- ELEVATOR_ARRIVED (R141); a report of another phase is discarded (log 22). -/
def execElevatorArrived (s : State) : Host.Outcome State Fault Refusal := event arrivedReport s

/-- ELEVATOR_PICK_COMPLETE (R145, R146). -/
def execElevatorPickComplete (s : State) : Host.Outcome State Fault Refusal := event pickReport s

/-- ELEVATOR_PLACE_COMPLETE (R145, R146). -/
def execElevatorPlaceComplete (s : State) : Host.Outcome State Fault Refusal := event placeReport s

/-- ELEVATOR_PHASE_TIMEOUT (R148). -/
def execElevatorPhaseTimeout (s : State) : Host.Outcome State Fault Refusal := event phaseTimeout s

/-! ### Finisher and exit table -/

/-- FINISHER_TAG_ARRIVAL (R131). -/
def execFinisherTagArrival (tag : Nat) (s : State) : Host.Outcome State Fault Refusal :=
  eventIf (tagWellFormed tag) (takeFinisherTag tag) s

/-- SETUP_DELAY_END (R151). -/
def execSetupDelayEnd (s : State) : Host.Outcome State Fault Refusal := event setupEnd s

/-- PUSH_DWELL_END (R152). -/
def execPushDwellEnd (s : State) : Host.Outcome State Fault Refusal := event dwellEnd s

/-- HANDOFF_TIMEOUT (R154). -/
def execHandoffTimeout (s : State) : Host.Outcome State Fault Refusal := event handoffExpiry s

/-! ### Link -/

/-- FRAME_COMPLETE (R186): the byte that is a frame's second check byte, taken by the parser's state (log 38). -/
def execFrameComplete (byte : Byte) (s : State) : Host.Outcome State Fault Refusal := event (receiveByte byte) s

/-- BAD_LENGTH_ENTRY (R186): the byte that ends a length outside 2 to 300, taken by the parser's state (log 38). -/
def execBadLengthEntry (byte : Byte) (s : State) : Host.Outcome State Fault Refusal := event (receiveByte byte) s

/-- BYTE_RECEIVED (R186): any other byte, taken by the parser's state (log 38). -/
def execByteReceived (byte : Byte) (s : State) : Host.Outcome State Fault Refusal := event (receiveByte byte) s

/-- BYTE_GAP_TIMEOUT (R186). -/
def execByteGapTimeout (s : State) : Host.Outcome State Fault Refusal := event gapTimeout s

/-- BAD_CHECK (R188 check 1). -/
def execBadCheck (s : State) : Host.Outcome State Fault Refusal :=
  event (serveEntry .badCheck (finishEntry 0#8 0#8 (refusal .badCheck))) s

/-- R188 check 4: a valid frame whose body length does not fit its request. -/
def unfitFrame (f : RxFrame) : Bool := bodyInFrame f.body && isRequestKind f.kind && !bodyFits f

/-- BAD_LENGTH (R188 checks 2 and 4). -/
def execBadLength (frame : Option RxFrame) (s : State) : Host.Outcome State Fault Refusal :=
  match frame with
  | none => event (serveEntry .badLength (finishEntry 0#8 0#8 (refusal .badLength))) s
  | some f => eventIf (unfitFrame f) (serveEntry (.frame f) (finishEntry f.kind f.tag (refusal .badLength))) s

/-- R188 check 3: a valid frame whose kind names no request. -/
def unknownFrame (f : RxFrame) : Bool := bodyInFrame f.body && !isRequestKind f.kind

/-- UNKNOWN_KIND (R188 check 3). -/
def execUnknownKind (frame : RxFrame) (s : State) : Host.Outcome State Fault Refusal :=
  eventIf (unknownFrame frame)
    (serveEntry (.frame frame) (finishEntry frame.kind frame.tag (refusal .unknownKind))) s

/-- TX_FRAME_DONE (R189). -/
def execTxFrameDone (s : State) : Host.Outcome State Fault Refusal := event chooseFrame s

/-- WATCHDOG_EXPIRY (R190). -/
def execWatchdogExpiry (s : State) : Host.Outcome State Fault Refusal := event watchdogEnd s

end Sys2Proof.Machine
end

