-- ==== Sys2Proof/Machine/Clock.lean ====
section
/-! DEFINITION. What the controller does when no command waits (DESIGN CHOICE, log 4): it serves the entry in service, lets
an idle transmitter choose, or lets 1 ms pass, and queues the rows of the table whose time has come. -/

namespace Sys2Proof.Machine

/-! ### Service of the entry taken out of the receive buffer (R187, R188) -/

/-- The row of the table that serves a valid frame (R188 checks 3 to 5, R194). -/
def frameCommand (f : RxFrame) : Instr :=
  if !isRequestKind f.kind then .unknownKind f
  else if !bodyFits f then .badLength (some f)
  else
    match f.kind.toNat with
    | 16 => .lineStatus f.tag f.body
    | 17 => .lineHold f.tag f.body
    | 18 => .lineResume f.tag f.body
    | 19 => .lineReset f.tag f.body
    | 32 => .plateAdd f.tag f.body
    | 33 => .plateRead f.tag f.body
    | 34 => .plateAmend f.tag f.body
    | 35 => .plateCancel f.tag f.body
    | 36 => .queueRead f.tag f.body
    | 37 => .queueMove f.tag f.body
    | 38 => .plateResume f.tag f.body
    | 39 => .plateEject f.tag f.body
    | 40 => .plateRetire f.tag f.body
    | 48 => .recipeWrite f.tag f.body
    | 49 => .recipeRead f.tag f.body
    | 50 => .recipeDelete f.tag f.body
    | 51 => .calWrite f.tag f.body
    | 52 => .calRead f.tag f.body
    | 53 => .configWrite f.tag f.body
    | 54 => .configRead f.tag f.body
    | 55 => .storeSave f.tag f.body
    | 64 => .solventRead f.tag f.body
    | 65 => .replenishNow f.tag f.body
    | 66 => .bathChanged f.tag f.body
    | 67 => .dryerSet f.tag f.body
    | 68 => .dryerRead f.tag f.body
    | 80 => .faultRead f.tag f.body
    | 81 => .faultClear f.tag f.body
    | 82 => .faultMask f.tag f.body
    | 83 => .traceRead f.tag f.body
    | 84 => .traceClear f.tag f.body
    | 96 => .attnEnable f.tag f.body
    | 97 => .attnClear f.tag f.body
    | 98 => .outputSet f.tag f.body
    | _ => .unknownKind f

/-- The row that serves an entry. -/
def entryCommand : RxEntry → Instr
  | .frame f => frameCommand f
  | .badCheck => .badCheck
  | .badLength => .badLength none

/-- The service that is due: the entry in service, once INIT has ended and no save is in progress. -/
def dueService (s : State) : Option Instr :=
  match s.lnk.inService with
  | some e => if entryReady e s then some (entryCommand e) else none
  | none => none

/-- R189: the transmitter is idle with work waiting. -/
def transmitterWaits (s : State) : Bool := s.lnk.sending.isNone && (s.lnk.attnMark || !s.lnk.tx.isEmpty)

/-! ### The transport's movement (R91, R92) -/

/-- The marks of an entry. -/
def marksOf (w : WashCal) (e : TransportEntry) : List Nat :=
  [mm (gapMarkAt e), mm (endMarkAt w), mm (commitMarkAt w e), mm (exitMarkAt w e)]

/-- How far an entry may move before a mark ahead of it. -/
def roomOf (w : WashCal) (limit : Nat) (e : TransportEntry) : Nat :=
  (marksOf w e).foldl (fun n m => if e.position < m then min n (m - e.position) else n) limit

/-- How far the transport moves in 1 ms, not past the next mark of any plate. -/
def transportShift (s : State) : Nat :=
  if s.wou.transport = .running then s.wou.list.foldl (roomOf (washCal s)) s.wou.speed else 0

/-- The marks an entry reaches by a shift. -/
def marksReached (w : WashCal) (shift : Nat) (e : TransportEntry) : List Instr :=
  let hit (m : Nat) : Bool := decide (e.position < m) && e.position + shift == m
  (if hit (mm (gapMarkAt e)) then [.gapMark e.slot] else [])
    ++ (if hit (mm (endMarkAt w)) then [.endMark e.slot] else [])
    ++ (if hit (mm (commitMarkAt w e)) then [.commitMark e.slot] else [])
    ++ (if hit (mm (exitMarkAt w e)) then [.exitMark] else [])

def dueMarks (s : State) : List Instr := s.wou.list.flatMap (marksReached (washCal s) (transportShift s))

/-- R91, R101: positions rise while the transport moves; stall times rise while the stall hold is yes. -/
def moveTransport (s : State) : State :=
  modWou (fun w => { w with list := w.list.map (fun e => { e with
    position := e.position + transportShift s
    stall := if w.stallHold then e.stall + 1 else e.stall }) }) s

/-- R101: each plate's washout part shows its stall time in whole seconds. -/
def showStall (s : State) : State :=
  if s.wou.stallHold then s.wou.list.foldl (fun t e => writeStall e.slot e.stall t) s else s

/-! ### Timers -/

def tickInput (l : InputLine) : InputLine := { l with timer := l.timer.map (· + 1) }
def tickOutput (o : OutputLine) : OutputLine := { o with hold := o.hold.map (· + 1) }

def tickLines (s : State) : State :=
  allOutputs.foldl (fun t i => setOutput i (tickOutput (outputAt t i)) t)
    (allInputs.foldl (fun t i => setInput i (tickInput (inputAt t i)) t) s)

/-- Whether the phase timer runs (R141). -/
def phaseTimerRuns (s : State) : Bool :=
  !s.trc.halted && (match s.trc.elevator with
    | .inPhase _ => true
    | _ => false)

/-- Whether the setup delay runs (R151). -/
def setupRuns (s : State) : Bool := s.trc.handoff == .setup && !inhibitActive s

/-- Whether the dwell runs (R152). -/
def dwellRuns (s : State) : Bool := s.trc.handoff == .pushing && driveIsOn .conveyor s

def bump (runs : Bool) (n : Nat) : Nat := if runs then n + 1 else n

def tickReplenish (runs : Bool) : Replenishment → Replenishment
  | .running r => .running { r with pumped := bump runs r.pumped }
  | r => r

def gapWatched : Parser → Bool
  | .hunt => false
  | _ => true

/-- 1 ms passes for every timer that runs. -/
def passMs (s : State) : State :=
  modLnk (fun l => { l with
      gap := bump (gapWatched l.parser) l.gap
      watchdog := l.watchdog.map (fun w => { w with elapsed := w.elapsed + 1 }) })
    (modTrc (fun t => { t with
        timer := bump (phaseTimerRuns s) t.timer
        setupRun := bump (setupRuns s) t.setupRun
        dwell := bump (dwellRuns s) t.dwell
        handoffTimer := t.handoffTimer.map (· + 1) })
      (modWou (fun w => { w with replenish := tickReplenish (pumpedTimeRuns s) w.replenish })
        (modExu (fun e => { e with loadTimer := bump (loadTimerRuns s) e.loadTimer })
          (tickLines (showStall (moveTransport s))))))

/-! ### What is due -/

/-- A row when its time has come. -/
def dueIf (b : Bool) (c : Instr) : List Instr := if b then [c] else []

def reached (o : Option Nat) (limit : Nat) : Bool :=
  match o with
  | some n => decide (limit ≤ n)
  | none => false

/-- The run time of a RUNNING replenishment has been pumped (R108). -/
def replenishDue (s : State) : Bool :=
  pumpedTimeRuns s && (match s.wou.replenish with
    | .running r => pumpedOut r
    | _ => false)

def watchdogDue (s : State) : Bool :=
  match s.lnk.watchdog with
  | some w => decide (w.period * 1000 ≤ w.elapsed)
  | none => false

/-- The rows whose time has come, in the order of the table; `marks` are the marks just reached. -/
def dueRows (marks : List Instr) (s : State) : List Instr :=
  (allInputs.flatMap (fun i => dueIf (reached (inputAt s i).timer (inputCfg s i).debounce) (.debounceExpiry i)))
    ++ (allOutputs.flatMap (fun i => dueIf (reached (outputAt s i).hold (outputCfg s i).minPulse) (.outputHoldEnd i)))
    ++ dueIf (loadTimerRuns s && decide (Config.loadLimitMs ≤ s.exu.loadTimer)) .loadTimerExpiry
    ++ marks
    ++ dueIf (replenishDue s) .replenishComplete
    ++ dueIf (phaseTimerRuns s && decide (s.trc.limit ≤ s.trc.timer)) .elevatorPhaseTimeout
    ++ dueIf (setupRuns s && decide (s.trc.values.setupDelay ≤ s.trc.setupRun)) .setupDelayEnd
    ++ dueIf (dwellRuns s && decide (s.trc.values.timedDwell * 1000 ≤ s.trc.dwell)) .pushDwellEnd
    ++ dueIf (reached s.trc.handoffTimer (s.trc.values.handoffTimeout * 1000)) .handoffTimeout
    ++ dueIf (gapWatched s.lnk.parser && decide (Config.byteGapMs ≤ s.lnk.gap)) .byteGapTimeout
    ++ dueIf (watchdogDue s) .watchdogExpiry

/-- 1 ms passes, and the rows that fall due are queued. -/
def tick (s : State) : State :=
  let s1 := passMs s
  { s1 with pending := s1.pending ++ dueRows (dueMarks s) s1 }

/-- What the controller does when no command waits. -/
def idle (s : State) : State :=
  if s.powered then
    match dueService s with
    | some c => { s with pending := [c] }
    | none => if transmitterWaits s then { s with pending := [.txFrameDone] } else tick s
  else s

end Sys2Proof.Machine
end

