-- ==== Sys2Proof/Machine/LineRequests.lean ====
section
/-! DEFINITION. The line requests (R174 to R179) and the fault and trace requests (R63, R64, R182 to R184), as the owning
blocks act on them, and the meaning of each command of the two groups. -/

namespace Sys2Proof.Machine

/-! ### What the blocks answer -/

/-- R174: LINE_HOLD. -/
def actLineHold (s : State) : State × Reply := (lineHold s, okReply [])

/-- R176: LINE_RESUME. -/
def actLineResume (s : State) : State × Reply :=
  if s.flt.lineState = .stopped then (s, refusal .wrongState) else (lineResume s, okReply [])

/-- R178: LINE_RESET. -/
def actLineReset (s : State) : State × Reply :=
  if resetAllowed s then (lineReset s, okReply []) else (s, refusal .wrongState)

/-- R183: the body is a set of flags; STORE_CHECK may not be named. -/
def actFaultClear (body : List Byte) (s : State) : State × Reply :=
  match body with
  | [a, b, c, d, e] =>
    match flagSetOfBytes a b c d e with
    | some named =>
      if flagHas named .storeCheck then (s, refusal .badField)
      else ((faultClear named s).1, okReply (bFlagSet (faultClear named s).2))
    | none => (s, refusal .badField)
  | _ => (s, refusal .badLength)

/-- R184: INHIBIT and STORE_CHECK may not be masked, and no flag may be in both sets. -/
def maskRefused (mask unmask : FlagSet) : Bool :=
  flagHas mask .inhibit || flagHas mask .storeCheck || (mask &&& unmask) != 0#35

/-- R184: the body is the set to mask and the set to unmask. -/
def actFaultMask (body : List Byte) (s : State) : State × Reply :=
  match body with
  | [a, b, c, d, e, f, g, h, i, j] =>
    match flagSetOfBytes a b c d e, flagSetOfBytes f g h i j with
    | some mask, some unmask =>
      if maskRefused mask unmask then (s, refusal .badField)
      else (faultMask mask unmask s, okReply (bFlagSet (faultMask mask unmask s).flt.masks))
    | _, _ => (s, refusal .badField)
  | _ => (s, refusal .badLength)

/-- R63: the oldest records are removed from the trace buffer and returned. -/
def actTraceRead (body : List Byte) (s : State) : State × Reply :=
  match body with
  | [c] =>
    if 1 ≤ c.toNat ∧ c.toNat ≤ 32 then
      (modDin (fun d => { d with trace := d.trace.drop c.toNat }) s,
       okReply (b1 (s.din.trace.take c.toNat).length ++ (s.din.trace.take c.toNat).flatMap encodeTrace
         ++ b2 (s.din.trace.drop c.toNat).length))
    else (s, refusal .badField)
  | _ => (s, refusal .badLength)

/-- R64: the trace buffer is emptied. -/
def actTraceClear (s : State) : State × Reply :=
  (modDin (fun d => { d with trace := [] }) s, okReply (b2 s.din.trace.length))

/-! ### The commands -/

/-- LINE_STATUS (R179). -/
def execLineStatus (tag : Byte) (body : List Byte) (s : State) : Host.Outcome State Fault Refusal :=
  request kindLineStatus tag body (readReply lineFields) s

/-- LINE_HOLD (R174). -/
def execLineHold (tag : Byte) (body : List Byte) (s : State) : Host.Outcome State Fault Refusal :=
  request kindLineHold tag body actLineHold s

/-- LINE_RESUME (R176). -/
def execLineResume (tag : Byte) (body : List Byte) (s : State) : Host.Outcome State Fault Refusal :=
  request kindLineResume tag body actLineResume s

/-- LINE_RESET (R178). -/
def execLineReset (tag : Byte) (body : List Byte) (s : State) : Host.Outcome State Fault Refusal :=
  request kindLineReset tag body actLineReset s

/-- FAULT_READ (R182). -/
def execFaultRead (tag : Byte) (body : List Byte) (s : State) : Host.Outcome State Fault Refusal :=
  request kindFaultRead tag body (readReply faultFields) s

/-- FAULT_CLEAR (R183). -/
def execFaultClear (tag : Byte) (body : List Byte) (s : State) : Host.Outcome State Fault Refusal :=
  request kindFaultClear tag body (actFaultClear body) s

/-- FAULT_MASK (R184). -/
def execFaultMask (tag : Byte) (body : List Byte) (s : State) : Host.Outcome State Fault Refusal :=
  request kindFaultMask tag body (actFaultMask body) s

/-- TRACE_READ (R63). -/
def execTraceRead (tag : Byte) (body : List Byte) (s : State) : Host.Outcome State Fault Refusal :=
  request kindTraceRead tag body (actTraceRead body) s

/-- TRACE_CLEAR (R64). -/
def execTraceClear (tag : Byte) (body : List Byte) (s : State) : Host.Outcome State Fault Refusal :=
  request kindTraceClear tag body actTraceClear s

end Sys2Proof.Machine
end

