-- ==== Sys2Proof/Machine/PlateRequests.lean ====
section
/-! DEFINITION. The plate requests (R12 to R19, R22 to R25) and the meaning of each. -/

namespace Sys2Proof.Machine

/-! ### Ranges (R3, R14) -/

def idInRange (n : Nat) : Bool := decide (1 ≤ n) && decide (n ≤ 65534)
def recipeNoInRange (n : Nat) : Bool := decide (1 ≤ n) && decide (n ≤ 24)
def widthInRange (n : Nat) : Bool := decide (200 ≤ n) && decide (n ≤ 1320)
def lengthInRange (n : Nat) : Bool := decide (200 ≤ n) && decide (n ≤ 2032)
def thicknessInRange (n : Nat) : Bool := decide (760 ≤ n) && decide (n ≤ 6350)
def reliefInRange (n : Nat) : Bool := decide (200 ≤ n) && decide (n ≤ 4000)

/-- A sort code of 255 is absent; above 15 it is refused (R14, R195). -/
def sortInRange (n : Nat) : Bool := decide (n ≤ 15) || n == 255

def sortOf (n : Nat) : Option Nat := if n = 255 then none else some n

/-- The recipe in the slot a recipe number names. -/
def recipeNumbered (s : State) (n : Nat) : Option Recipe :=
  if h : n - 1 < 24 then recipeAt s ⟨n - 1, h⟩ else none

/-! ### PLATE_ADD (R13, R14) -/

/-- The fields of a PLATE_ADD body, in the order R13 names them. -/
structure PlateOrder where
  plateId : Nat
  recipeNo : Nat
  width : Nat
  length : Nat
  thickness : Nat
  relief : Nat
  coverage : Nat
  sort : Nat
deriving DecidableEq, Repr

def parseOrder (body : List Byte) : Option PlateOrder :=
  match body with
  | [i1, i0, r, w1, w0, l1, l0, t1, t0, f1, f0, c, x] =>
    some { plateId := num2 i1 i0, recipeNo := r.toNat, width := num2 w1 w0, length := num2 l1 l0,
           thickness := num2 t1 t0, relief := num2 f1 f0, coverage := c.toNat, sort := x.toNat }
  | _ => none

/-- The PLATE_ADD body of an order. -/
def encodeOrder (o : PlateOrder) : List Byte :=
  b2 o.plateId ++ b1 o.recipeNo ++ b2 o.width ++ b2 o.length ++ b2 o.thickness ++ b2 o.relief ++ b1 o.coverage
    ++ b1 o.sort

/-- R14, order 1. -/
def orderInRange (o : PlateOrder) : Bool :=
  idInRange o.plateId && recipeNoInRange o.recipeNo && widthInRange o.width && lengthInRange o.length
    && thicknessInRange o.thickness && reliefInRange o.relief && decide (o.relief < o.thickness)
    && sortInRange o.sort

/-- The run result of a channel at creation (R5). -/
def newResult : RunResult := { dose := 0, samples := 0, segments := 0, outcome := .notRun, traceComplete := true }

/-- The record PLATE_ADD creates (R3 to R7, R13). -/
def newPlate (o : PlateOrder) (p : Process) : PlateRecord :=
  { plateId := o.plateId, state := .queued, recipeNo := o.recipeNo, working := p, width := o.width,
    length := o.length, thickness := o.thickness, relief := o.relief, coverage := min o.coverage 100,
    sortCode := sortOf o.sort, results := perLamp newResult, interruptions := 0, notices := [],
    moreNotices := false, intakePosition := none, held := none, washout := none, drawer := none, dry := none,
    outcome := none }

/-- R13: the record takes slot `k` and joins the tail of the queue. -/
def addPlate (k : Slot) (r : PlateRecord) (s : State) : State :=
  modPtb (fun t => { t with queue := t.queue ++ [k] }) (setPlate k (some r) s)

/-- R13, R14 on the fields of the order. -/
def actOrder (o : PlateOrder) (s : State) : State × Reply :=
  if orderInRange o then
    match recipeNumbered s o.recipeNo with
    | none => (s, refusal .notFound)
    | some recipe =>
      if (slotOfId s o.plateId).isSome then (s, refusal .duplicateId)
      else if Config.queueLimit ≤ s.ptb.queue.length then (s, refusal .queueFull)
      else
        match lowestFree s with
        | none => (s, refusal .tableFull)
        | some k =>
          let r := newPlate o recipe.process
          (addPlate k r s,
           if 100 < o.coverage then { status := .clamped, fields := encodePlate k r } else okReply (b1 (k.val + 1)))
  else (s, refusal .badField)

def actPlateAdd (body : List Byte) (s : State) : State × Reply :=
  match parseOrder body with
  | some o => actOrder o s
  | none => (s, refusal .badLength)

/-! ### Requests that name a plate (R12) -/

/-- R12: the selector's range, then the record it names. -/
def withPlate (sel : Option Selector) (act : Slot → PlateRecord → State → State × Reply) (s : State) :
    State × Reply :=
  match sel with
  | none => (s, refusal .badField)
  | some x =>
    match lookup x s with
    | none => (s, refusal .notFound)
    | some k =>
      match plateAt s k with
      | none => (s, refusal .notFound)
      | some r => act k r s

/-- A request whose body is a plate selector alone. -/
def onPlate (body : List Byte) (act : Slot → PlateRecord → State → State × Reply) (s : State) : State × Reply :=
  match body with
  | [how, hi, lo] => withPlate (selectorOf how hi lo) act s
  | _ => (s, refusal .badLength)

/-- R15: PLATE_READ. -/
def readPlate (k : Slot) (r : PlateRecord) (s : State) : State × Reply := (s, okReply (encodePlate k r))

/-- R18: PLATE_CANCEL. -/
def cancelPlate (k : Slot) (r : PlateRecord) (s : State) : State × Reply :=
  if r.state = .queued then (reportQueueEmpty (setPlate k none (leaveQueue k s)), okReply [])
  else (s, refusal .wrongState)

/-- R19: PLATE_RETIRE; the reply is composed before the slot becomes FREE. -/
def retirePlate (k : Slot) (r : PlateRecord) (s : State) : State × Reply :=
  if r.state = .done ∨ r.state = .scrapped then (setPlate k none s, okReply (encodePlate k r))
  else (s, refusal .wrongState)

/-- R23: an entry of the queue moves to its head. -/
def toHead (k : Slot) (queue : List Slot) : List Slot := if k ∈ queue then k :: queue.filter (· ≠ k) else queue

/-- R23: QUEUE_MOVE. -/
def movePlateToHead (k : Slot) (r : PlateRecord) (s : State) : State × Reply :=
  if r.state = .queued then (modPtb (fun t => { t with queue := toHead k t.queue }) s, okReply [])
  else (s, refusal .wrongState)

/-- R25: PLATE_EJECT: the station first, then the record. -/
def ejectPlate (k : Slot) (r : PlateRecord) (s : State) : State × Reply :=
  match r.state, r.held with
  | .held, some (.exu, reason) => (closeScrapped k (exuEject reason s), okReply [])
  | .held, some (.lfn, _) => (closeScrapped k (lfnEject s), okReply [])
  | _, _ => (s, refusal .wrongState)

/-- R24: PTB removes the held fields and sets the state. -/
def unhold (k : Slot) (dst : PlateState) (s : State) : State :=
  movePlate k .held dst (fun r => { r with held := none }) s

/-- R24: PLATE_RESUME, passed to the station named in held at. -/
def resumePlate (extension : Nat) (k : Slot) (r : PlateRecord) (s : State) : State × Reply :=
  match r.state, r.held with
  | .held, some (.exu, reason) =>
    if exuAcceptsResume reason s then (exuResume extension reason (unhold k .exposing s), okReply [])
    else (s, refusal .wrongState)
  | .held, some (.lfn, reason) =>
    if lfnAcceptsResume reason s then (lfnResume extension reason (unhold k .finishing s), okReply [])
    else (s, refusal .wrongState)
  | _, _ => (s, refusal .wrongState)

/-- R24: the extension's range and the selector's. -/
def actPlateResume (body : List Byte) (s : State) : State × Reply :=
  match body with
  | [how, hi, lo, x] =>
    if 10 ≤ x.toNat ∧ x.toNat ≤ 200 then withPlate (selectorOf how hi lo) (resumePlate x.toNat) s
    else (s, refusal .badField)
  | _ => (s, refusal .badLength)

/-! ### PLATE_AMEND (R16, R17) -/

/-- The fields a PLATE_AMEND carries. -/
structure Amendment where
  plateId : Option Nat
  recipeNo : Option Nat
  width : Option Nat
  length : Option Nat
  thickness : Option Nat
  relief : Option Nat
  coverage : Option Nat
  sort : Option Nat
deriving DecidableEq, Repr

/-- The number a list of bytes spells. -/
def numOf (l : List Byte) : Nat := l.foldl (fun n b => n * 256 + b.toNat) 0

/-- A field of `size` bytes at the head of `l`, when it is present; and the bytes after it. -/
def takeField (here : Bool) (size : Nat) (l : List Byte) : Option Nat × List Byte :=
  if here then (some (numOf (l.take size)), l.drop size) else (none, l)

/-- The fields that follow PLATE_AMEND's presence byte `p` (R195). -/
def parseAmendment (p : Byte) (l0 : List Byte) : Amendment :=
  let (id, l1) := takeField (present p 0) 2 l0
  let (recipe, l2) := takeField (present p 1) 1 l1
  let (width, l3) := takeField (present p 2) 2 l2
  let (len, l4) := takeField (present p 3) 2 l3
  let (thick, l5) := takeField (present p 4) 2 l4
  let (relief, l6) := takeField (present p 5) 2 l5
  let (cov, l7) := takeField (present p 6) 1 l6
  let (sort, _) := takeField (present p 7) 1 l7
  { plateId := id, recipeNo := recipe, width := width, length := len, thickness := thick, relief := relief,
    coverage := cov, sort := sort }

/-- Whether a carried field is in its range; one not carried is. -/
def carriedOk (ok : Nat → Bool) (o : Option Nat) : Bool := o.all ok

/-- R17, case 1. -/
def amendmentInRange (a : Amendment) : Bool :=
  carriedOk idInRange a.plateId && carriedOk recipeNoInRange a.recipeNo && carriedOk widthInRange a.width
    && carriedOk lengthInRange a.length && carriedOk thicknessInRange a.thickness && carriedOk reliefInRange a.relief
    && carriedOk sortInRange a.sort

/-- R16: the carried fields are stored; a carried recipe number brings a fresh copy of the recipe. -/
def amendRecord (a : Amendment) (fresh : Option Recipe) (r : PlateRecord) : PlateRecord :=
  { r with
    plateId := a.plateId.getD r.plateId
    recipeNo := a.recipeNo.getD r.recipeNo
    working := if a.recipeNo.isSome then (fresh.map (·.process)).getD r.working else r.working
    width := a.width.getD r.width
    length := a.length.getD r.length
    thickness := a.thickness.getD r.thickness
    relief := a.relief.getD r.relief
    coverage := (a.coverage.map (fun c => min c 100)).getD r.coverage
    sortCode := match a.sort with
      | none => r.sortCode
      | some x => sortOf x }

/-- R17, case 6: a carried plate id is in the index under another slot. -/
def idTaken (a : Amendment) (k : Slot) (s : State) : Bool :=
  match a.plateId with
  | none => false
  | some id =>
    match slotOfId s id with
    | none => false
    | some k1 => k1 != k

/-- R17, case 5: a carried recipe number names an empty recipe slot. -/
def recipeMissing (a : Amendment) (s : State) : Bool :=
  match a.recipeNo with
  | none => false
  | some n => (recipeNumbered s n).isNone

/-- R16, R17 cases 3 to 6. -/
def amendPlate (a : Amendment) (k : Slot) (r : PlateRecord) (s : State) : State × Reply :=
  let new := amendRecord a (a.recipeNo.bind (recipeNumbered s)) r
  if r.state ≠ .queued then (s, refusal .wrongState)
  else if new.thickness ≤ new.relief then (s, refusal .badField)
  else if recipeMissing a s then (s, refusal .notFound)
  else if idTaken a k s then (s, refusal .duplicateId)
  else (setPlate k (some new) s, okOrClamped (decide (100 < a.coverage.getD 0)) (encodePlate k new))

def actPlateAmend (body : List Byte) (s : State) : State × Reply :=
  match body with
  | how :: hi :: lo :: p :: rest =>
    if amendmentInRange (parseAmendment p rest) then
      withPlate (selectorOf how hi lo) (amendPlate (parseAmendment p rest)) s
    else (s, refusal .badField)
  | _ => (s, refusal .badLength)

/-! ### The commands -/

/-- PLATE_ADD (R13). -/
def execPlateAdd (tag : Byte) (body : List Byte) (s : State) : Host.Outcome State Fault Refusal :=
  request kindPlateAdd tag body (actPlateAdd body) s

/-- PLATE_READ (R15). -/
def execPlateRead (tag : Byte) (body : List Byte) (s : State) : Host.Outcome State Fault Refusal :=
  request kindPlateRead tag body (onPlate body readPlate) s

/-- PLATE_AMEND (R16). -/
def execPlateAmend (tag : Byte) (body : List Byte) (s : State) : Host.Outcome State Fault Refusal :=
  request kindPlateAmend tag body (actPlateAmend body) s

/-- PLATE_CANCEL (R18). -/
def execPlateCancel (tag : Byte) (body : List Byte) (s : State) : Host.Outcome State Fault Refusal :=
  request kindPlateCancel tag body (onPlate body cancelPlate) s

/-- QUEUE_READ (R22). -/
def execQueueRead (tag : Byte) (body : List Byte) (s : State) : Host.Outcome State Fault Refusal :=
  request kindQueueRead tag body (readReply queueFields) s

/-- QUEUE_MOVE (R23). -/
def execQueueMove (tag : Byte) (body : List Byte) (s : State) : Host.Outcome State Fault Refusal :=
  request kindQueueMove tag body (onPlate body movePlateToHead) s

/-- PLATE_RESUME (R24). -/
def execPlateResume (tag : Byte) (body : List Byte) (s : State) : Host.Outcome State Fault Refusal :=
  request kindPlateResume tag body (actPlateResume body) s

/-- PLATE_EJECT (R25). -/
def execPlateEject (tag : Byte) (body : List Byte) (s : State) : Host.Outcome State Fault Refusal :=
  request kindPlateEject tag body (onPlate body ejectPlate) s

/-- PLATE_RETIRE (R19). -/
def execPlateRetire (tag : Byte) (body : List Byte) (s : State) : Host.Outcome State Fault Refusal :=
  request kindPlateRetire tag body (onPlate body retirePlate) s

end Sys2Proof.Machine
end

