-- ==== Sys2Proof/Machine/Dispatch.lean ====
section
/-! DEFINITION. One arm for each command: its meaning. -/

namespace Sys2Proof.Machine

def exec (i : Instr) (s : State) : Host.Outcome State Fault Refusal :=
  match i with
  | .powerOn levels => Sys2Proof.Machine.execPowerOn levels s
  | .startUpLoadFinished level => Sys2Proof.Machine.execStartUpLoadFinished level s
  | .countersWriteEnd verified => Sys2Proof.Machine.execCountersWriteEnd verified s
  | .rawInputChange line energised => Sys2Proof.Machine.execRawInputChange line energised s
  | .debounceExpiry line => Sys2Proof.Machine.execDebounceExpiry line s
  | .outputHoldEnd line => Sys2Proof.Machine.execOutputHoldEnd line s
  | .overcurrentTrip channel => Sys2Proof.Machine.execOvercurrentTrip channel s
  | .intakeTagArrival tag => Sys2Proof.Machine.execIntakeTagArrival tag s
  | .loadTimerExpiry => Sys2Proof.Machine.execLoadTimerExpiry s
  | .sampleArrival channel raw => Sys2Proof.Machine.execSampleArrival channel raw s
  | .gapMark slot => Sys2Proof.Machine.execGapMark slot s
  | .endMark slot => Sys2Proof.Machine.execEndMark slot s
  | .commitMark slot => Sys2Proof.Machine.execCommitMark slot s
  | .exitMark => Sys2Proof.Machine.execExitMark s
  | .solventTempReading reading => Sys2Proof.Machine.execSolventTempReading reading s
  | .replenishComplete => Sys2Proof.Machine.execReplenishComplete s
  | .dryerReading reading => Sys2Proof.Machine.execDryerReading reading s
  | .elevatorArrived => Sys2Proof.Machine.execElevatorArrived s
  | .elevatorPickComplete => Sys2Proof.Machine.execElevatorPickComplete s
  | .elevatorPlaceComplete => Sys2Proof.Machine.execElevatorPlaceComplete s
  | .elevatorPhaseTimeout => Sys2Proof.Machine.execElevatorPhaseTimeout s
  | .finisherTagArrival tag => Sys2Proof.Machine.execFinisherTagArrival tag s
  | .setupDelayEnd => Sys2Proof.Machine.execSetupDelayEnd s
  | .pushDwellEnd => Sys2Proof.Machine.execPushDwellEnd s
  | .handoffTimeout => Sys2Proof.Machine.execHandoffTimeout s
  | .frameComplete byte => Sys2Proof.Machine.execFrameComplete byte s
  | .badLengthEntry byte => Sys2Proof.Machine.execBadLengthEntry byte s
  | .byteGapTimeout => Sys2Proof.Machine.execByteGapTimeout s
  | .badCheck => Sys2Proof.Machine.execBadCheck s
  | .badLength frame => Sys2Proof.Machine.execBadLength frame s
  | .unknownKind frame => Sys2Proof.Machine.execUnknownKind frame s
  | .txFrameDone => Sys2Proof.Machine.execTxFrameDone s
  | .watchdogExpiry => Sys2Proof.Machine.execWatchdogExpiry s
  | .lineStatus tag body => Sys2Proof.Machine.execLineStatus tag body s
  | .lineHold tag body => Sys2Proof.Machine.execLineHold tag body s
  | .lineResume tag body => Sys2Proof.Machine.execLineResume tag body s
  | .lineReset tag body => Sys2Proof.Machine.execLineReset tag body s
  | .plateAdd tag body => Sys2Proof.Machine.execPlateAdd tag body s
  | .plateRead tag body => Sys2Proof.Machine.execPlateRead tag body s
  | .plateAmend tag body => Sys2Proof.Machine.execPlateAmend tag body s
  | .plateCancel tag body => Sys2Proof.Machine.execPlateCancel tag body s
  | .queueRead tag body => Sys2Proof.Machine.execQueueRead tag body s
  | .queueMove tag body => Sys2Proof.Machine.execQueueMove tag body s
  | .plateResume tag body => Sys2Proof.Machine.execPlateResume tag body s
  | .plateEject tag body => Sys2Proof.Machine.execPlateEject tag body s
  | .plateRetire tag body => Sys2Proof.Machine.execPlateRetire tag body s
  | .recipeWrite tag body => Sys2Proof.Machine.execRecipeWrite tag body s
  | .recipeRead tag body => Sys2Proof.Machine.execRecipeRead tag body s
  | .recipeDelete tag body => Sys2Proof.Machine.execRecipeDelete tag body s
  | .calWrite tag body => Sys2Proof.Machine.execCalWrite tag body s
  | .calRead tag body => Sys2Proof.Machine.execCalRead tag body s
  | .configWrite tag body => Sys2Proof.Machine.execConfigWrite tag body s
  | .configRead tag body => Sys2Proof.Machine.execConfigRead tag body s
  | .storeSave tag body => Sys2Proof.Machine.execStoreSave tag body s
  | .storeSaveEnd verified => Sys2Proof.Machine.execStoreSaveEnd verified s
  | .solventRead tag body => Sys2Proof.Machine.execSolventRead tag body s
  | .replenishNow tag body => Sys2Proof.Machine.execReplenishNow tag body s
  | .bathChanged tag body => Sys2Proof.Machine.execBathChanged tag body s
  | .dryerSet tag body => Sys2Proof.Machine.execDryerSet tag body s
  | .dryerRead tag body => Sys2Proof.Machine.execDryerRead tag body s
  | .faultRead tag body => Sys2Proof.Machine.execFaultRead tag body s
  | .faultClear tag body => Sys2Proof.Machine.execFaultClear tag body s
  | .faultMask tag body => Sys2Proof.Machine.execFaultMask tag body s
  | .traceRead tag body => Sys2Proof.Machine.execTraceRead tag body s
  | .traceClear tag body => Sys2Proof.Machine.execTraceClear tag body s
  | .attnEnable tag body => Sys2Proof.Machine.execAttnEnable tag body s
  | .attnClear tag body => Sys2Proof.Machine.execAttnClear tag body s
  | .outputSet tag body => Sys2Proof.Machine.execOutputSet tag body s
  | .byteReceived byte => Sys2Proof.Machine.execByteReceived byte s
  | .powerLoss => Sys2Proof.Machine.execPowerLoss s

end Sys2Proof.Machine
end

