-- ==== Sys2Proof/Safety.lean ====
section
/-! DEFINITION. The words the statements are made of: which entry a command serves and when it can be served, the state a
reply leaves, and the laws of the manual that every step keeps. -/

namespace Sys2Proof.Machine

/-! ### Requests and replies (R187, R188, R194) -/

/-- The frame a request row carries, its kind as the table of R194 gives it; none for a row that is no request. -/
def requestFrame : Instr → Option RxFrame
  | .lineStatus tag body => some ⟨16#8, tag, body⟩
  | .lineHold tag body => some ⟨17#8, tag, body⟩
  | .lineResume tag body => some ⟨18#8, tag, body⟩
  | .lineReset tag body => some ⟨19#8, tag, body⟩
  | .plateAdd tag body => some ⟨32#8, tag, body⟩
  | .plateRead tag body => some ⟨33#8, tag, body⟩
  | .plateAmend tag body => some ⟨34#8, tag, body⟩
  | .plateCancel tag body => some ⟨35#8, tag, body⟩
  | .queueRead tag body => some ⟨36#8, tag, body⟩
  | .queueMove tag body => some ⟨37#8, tag, body⟩
  | .plateResume tag body => some ⟨38#8, tag, body⟩
  | .plateEject tag body => some ⟨39#8, tag, body⟩
  | .plateRetire tag body => some ⟨40#8, tag, body⟩
  | .recipeWrite tag body => some ⟨48#8, tag, body⟩
  | .recipeRead tag body => some ⟨49#8, tag, body⟩
  | .recipeDelete tag body => some ⟨50#8, tag, body⟩
  | .calWrite tag body => some ⟨51#8, tag, body⟩
  | .calRead tag body => some ⟨52#8, tag, body⟩
  | .configWrite tag body => some ⟨53#8, tag, body⟩
  | .configRead tag body => some ⟨54#8, tag, body⟩
  | .storeSave tag body => some ⟨55#8, tag, body⟩
  | .solventRead tag body => some ⟨64#8, tag, body⟩
  | .replenishNow tag body => some ⟨65#8, tag, body⟩
  | .bathChanged tag body => some ⟨66#8, tag, body⟩
  | .dryerSet tag body => some ⟨67#8, tag, body⟩
  | .dryerRead tag body => some ⟨68#8, tag, body⟩
  | .faultRead tag body => some ⟨80#8, tag, body⟩
  | .faultClear tag body => some ⟨81#8, tag, body⟩
  | .faultMask tag body => some ⟨82#8, tag, body⟩
  | .traceRead tag body => some ⟨83#8, tag, body⟩
  | .traceClear tag body => some ⟨84#8, tag, body⟩
  | .attnEnable tag body => some ⟨96#8, tag, body⟩
  | .attnClear tag body => some ⟨97#8, tag, body⟩
  | .outputSet tag body => some ⟨98#8, tag, body⟩
  | .powerOn _ | .startUpLoadFinished _ | .countersWriteEnd _ | .rawInputChange _ _ | .debounceExpiry _
  | .outputHoldEnd _ | .overcurrentTrip _ | .intakeTagArrival _ | .loadTimerExpiry | .sampleArrival _ _ | .gapMark _
  | .endMark _ | .commitMark _ | .exitMark | .solventTempReading _ | .replenishComplete | .dryerReading _
  | .elevatorArrived | .elevatorPickComplete | .elevatorPlaceComplete | .elevatorPhaseTimeout
  | .finisherTagArrival _ | .setupDelayEnd | .pushDwellEnd | .handoffTimeout | .frameComplete _ | .badLengthEntry _
  | .byteGapTimeout | .badCheck | .badLength _ | .unknownKind _ | .txFrameDone | .watchdogExpiry | .storeSaveEnd _
  | .byteReceived _ | .powerLoss => none

/-- An entry can be served: the controller has power, INIT has ended, no save is in progress, and no other entry is in
service (R187; log 7). -/
def Servable (e : RxEntry) (s : State) : Prop :=
  s.powered = true ∧ s.flt.lineState ≠ .init ∧ s.rss.save = none
    ∧ (s.lnk.inService = none ∨ s.lnk.inService = some e)

/-- The link once a reply with kind `kind`, tag `tag` and answer `r` has joined the transmit queue and the next waiting
entry has been taken into service (R187, R188). -/
def repliedLink (kind tag : Byte) (r : Reply) (l : Link) : Link :=
  { l with tx := l.tx ++ [{ kind := kind, tag := tag, body := r.status.code :: r.fields }]
           inService := l.rx.head?
           rx := l.rx.tail }

/-- The state `t` a command's own effect leaves, with its reply sent on its way. -/
def replied (kind tag : Byte) (r : Reply) (t : State) : State := { t with lnk := repliedLink kind tag r t.lnk }

/-- Nothing but the link's queues and the entry in service changes: the effect of a request that only answers. -/
def Answers (c : Instr) (f : RxFrame) (r : Reply) (s : State) : Prop := exec c s = .next (replied f.kind f.tag r s)

/-- The slot a plate selector of three bytes names (R12). -/
def selected (how hi lo : Byte) (s : State) : Option Slot := (selectorOf how hi lo).bind (fun x => lookup x s)

/-- The kinds that name a request (R194). -/
def namesRequest (kind : Byte) : Prop :=
  (16 ≤ kind.toNat ∧ kind.toNat ≤ 19) ∨ (32 ≤ kind.toNat ∧ kind.toNat ≤ 40) ∨ (48 ≤ kind.toNat ∧ kind.toNat ≤ 55)
    ∨ (64 ≤ kind.toNat ∧ kind.toNat ≤ 68) ∨ (80 ≤ kind.toNat ∧ kind.toNat ≤ 84) ∨ (96 ≤ kind.toNat ∧ kind.toNat ≤ 98)

/-- The link once entry `e` has joined a receive buffer with room for it; with INIT ended and nothing in service the head
entry is taken into service (R187). -/
def joinedLink (e : RxEntry) (initEnded : Bool) (l : Link) : Link :=
  if initEnded = true ∧ l.inService = none then { l with inService := (l.rx ++ [e]).head?, rx := (l.rx ++ [e]).tail }
  else { l with rx := l.rx ++ [e] }

/-- The link once a valid frame has arrived, `period` being the working period: once the link watchdog group has been handed
over, the timer starts anew, unless the period is 0, which leaves it stopped; before that the arrival is kept in mind until
the hand-over (R190). -/
def heardLink (period : Nat) (l : Link) : Link :=
  if l.handed then { l with watchdog := if period = 0 then none else some { elapsed := 0, period := period } }
  else { l with heard := true }

/-- The link whose parser has gone to a state, the gap since the last byte counted anew (R186). -/
def parsedLink (p : Parser) (l : Link) : Link := { l with parser := p, gap := 0 }

/-- The commands one after the other, as long as each answers a next state. -/
def execAll : List Instr → State → Host.Outcome State Fault Refusal
  | [], s => .next s
  | c :: rest, s =>
    match exec c s with
    | .next t => execAll rest t
    | stop => stop

/-- The commands that carry a frame over the line: one byte each, the last of them completing the frame (R186). -/
def frameCommands (f : RxFrame) : List Instr :=
  (frameBytes f).dropLast.map Instr.byteReceived ++ [.frameComplete ((frameBytes f).getLastD 0#8)]

/-- The body of a PLATE_AMEND after its selector: the presence byte and the fields carried, in their order (R195). -/
def amendBody (a : Amendment) : List Byte :=
  let bit (o : Option Nat) (v : Nat) : Nat := if o.isSome then v else 0
  let field (size : Nat → List Byte) (o : Option Nat) : List Byte := (o.map size).getD []
  b1 (bit a.plateId 1 + bit a.recipeNo 2 + bit a.width 4 + bit a.length 8 + bit a.thickness 16 + bit a.relief 32
      + bit a.coverage 64 + bit a.sort 128)
    ++ field b2 a.plateId ++ field b1 a.recipeNo ++ field b2 a.width ++ field b2 a.length ++ field b2 a.thickness
    ++ field b2 a.relief ++ field b1 a.coverage ++ field b1 a.sort

/-- No take may begin (R144): the line is not RUN, the finisher is not EMPTY or expects a plate, one of its station flags is
set, or no drawer is DRY_DONE. -/
def NoTake (s : State) : Prop :=
  s.flt.lineState ≠ .run ∨ s.lfn.state ≠ .empty ∨ s.lfn.incoming = true ∨ isSet (.lampFail .uva) s = true
    ∨ isSet (.lampFail .uvc) s = true ∨ isSet .orderMismatch s = true ∨ isSet (.driveFault .outfeed) s = true
    ∨ ∀ d k id done, drawerAt s d ≠ .dryDone k id done

/-! ### Changes of an input function (R159, R160) and completed handoffs (R155) -/

/-- The debounce of line `i`, the one line that carries function `fn` (R35), ends with the function going to `active`
(R159). -/
structure Changes (i : Fin 12) (fn : InputFunction) (active : Bool) (s : State) : Prop where
  powered : s.powered = true
  carries : (inputCfg s i).function = fn
  alone : ∀ j, j ≠ i → (inputCfg s j).function ≠ fn
  before : (inputAt s i).active = !active
  timed : (inputAt s i).timer ≠ none

/-- The state with line `i` changed and its timer stopped, before the change is delivered (R159). -/
def flipped (i : Fin 12) (s : State) : State :=
  { s with lio := { s.lio with
      inputs := s.lio.inputs.set i.val ⟨(inputAt s i).raw, !(inputAt s i).active, none⟩ i.isLt } }

/-- R155, R10: from `s` to `t` the handoff of the plate in slot `k`, whose record was `p`, has completed: the record is DONE
with outcome CLEAN, or WARNED when it has a notice, PLATE_CLOSED is pending, the table has no plate, and the handoff waits
while EXIT_PRESENT is active. -/
structure HandedOver (k : Slot) (p : PlateRecord) (s t : State) : Prop where
  plates : t.ptb.plates = s.ptb.plates.set k.val (some { p with
    state := .done
    outcome := some (if p.notices = [] ∧ p.moreNotices = false then .clean else .warned) }) k.isLt
  queue : t.ptb.queue = s.ptb.queue
  closed : attnHas t.lnk.attnPending .plateClosed = true
  table : t.trc.plate = none ∧ t.trc.handoffTimer = none
    ∧ t.trc.handoff = (if inputActive .exitPresent s then .doneWaitClear else .empty)
  rest : t.rss = s.rss ∧ t.din = s.din ∧ t.exu = s.exu ∧ t.wou = s.wou ∧ t.dry = s.dry ∧ t.flt = s.flt
    ∧ t.lio.lamps = s.lio.lamps

/-! ### Laws of the manual -/

/-- R169: while the inhibit is active no drive channel is ON and no lamp channel is ON. R168: while the lid is open the
exposure lamps are off. -/
structure Interlocked (s : State) : Prop where
  drives : inhibitActive s = true → ∀ c : DriveChannel, driveIsOn c s = false
  lamps : inhibitActive s = true → ∀ c : LampChannel, lampLevel c s = none
  lid : inputActive .exuLid s = true → lampLevel .back s = none ∧ lampLevel .main s = none

/-- The sum of the increments of the transport-list plates that have not been committed (R100). -/
def uncommitted (l : List TransportEntry) : Nat := ((l.filter (fun e => !e.committed)).map (·.increment)).sum

/-- R91, R100: the transport list holds at most 3 plates, and the committed loading is the sum of the increments not yet
committed. -/
structure LoadingKept (s : State) : Prop where
  atMostThree : s.wou.list.length ≤ 3
  account : s.wou.committed = uncommitted s.wou.list

/-- R6, R61, R187: no buffer holds more than the manual gives it. -/
structure BuffersBounded (s : State) : Prop where
  trace : s.din.trace.length ≤ 512
  receive : s.lnk.rx.length ≤ 2
  notices : ∀ k r, plateAt s k = some r → r.notices.length ≤ 8 ∧ r.notices.Nodup

/-- R2: no two records carry the same plate id. R11: the intake queue names each QUEUED record once and no other, and holds
at most 16. -/
structure TableLawful (s : State) : Prop where
  idsDiffer : ∀ j k p q, plateAt s j = some p → plateAt s k = some q → p.plateId = q.plateId → j = k
  queueOnce : s.ptb.queue.Nodup
  queueIsQueued : ∀ k, k ∈ s.ptb.queue ↔ plateState s k = some .queued
  queueShort : s.ptb.queue.length ≤ 16

/-- R35: the checks on input lines, which the working record and both banks pass; R173: once INIT has ended, the line is
STOPPED while, and only while, the inhibit is active. -/
structure LineLawful (s : State) : Prop where
  working : configConsistent s.rss.working.cfg = true
  bankA : configConsistent s.rss.bankA.settings.cfg = true
  bankB : configConsistent s.rss.bankB.settings.cfg = true
  stopped : s.flt.lineState ≠ .init → (s.flt.lineState = .stopped ↔ inhibitActive s = true)

end Sys2Proof.Machine
end

