-- ==== Sys2Proof/WellFormed.lean ====
section
/-! DEFINITION. The operands a command can carry: what a wire, a reader or a frame of the link can bring (log 33). -/

namespace Sys2Proof

open Sys2Proof.Machine

/-- A command the controller can receive: a tag is 0 or a plate id (R70, R131), a request's body fits a frame (R185), and
a BAD_LENGTH or UNKNOWN_KIND row carries a frame that its check of R188 finds so. -/
def Instr.wellFormed : Instr → Bool
  | .intakeTagArrival tag => tagWellFormed tag
  | .finisherTagArrival tag => tagWellFormed tag
  | .badLength none => true
  | .badLength (some f) => unfitFrame f
  | .unknownKind f => unknownFrame f
  | .lineStatus _ body | .lineHold _ body | .lineResume _ body | .lineReset _ body => bodyInFrame body
  | .plateAdd _ body | .plateRead _ body | .plateAmend _ body | .plateCancel _ body | .queueRead _ body
  | .queueMove _ body | .plateResume _ body | .plateEject _ body | .plateRetire _ body => bodyInFrame body
  | .recipeWrite _ body | .recipeRead _ body | .recipeDelete _ body | .calWrite _ body | .calRead _ body
  | .configWrite _ body | .configRead _ body | .storeSave _ body => bodyInFrame body
  | .solventRead _ body | .replenishNow _ body | .bathChanged _ body | .dryerSet _ body | .dryerRead _ body =>
    bodyInFrame body
  | .faultRead _ body | .faultClear _ body | .faultMask _ body | .traceRead _ body | .traceClear _ body =>
    bodyInFrame body
  | .attnEnable _ body | .attnClear _ body | .outputSet _ body => bodyInFrame body
  | .powerOn _ | .startUpLoadFinished _ | .countersWriteEnd _ | .rawInputChange _ _ | .debounceExpiry _
  | .outputHoldEnd _ | .overcurrentTrip _ | .loadTimerExpiry | .sampleArrival _ _ | .gapMark _ | .endMark _
  | .commitMark _ | .exitMark | .solventTempReading _ | .replenishComplete | .dryerReading _ | .elevatorArrived
  | .elevatorPickComplete | .elevatorPlaceComplete | .elevatorPhaseTimeout | .setupDelayEnd | .pushDwellEnd
  | .handoffTimeout | .frameComplete _ | .badLengthEntry _ | .byteGapTimeout | .badCheck | .txFrameDone
  | .watchdogExpiry | .storeSaveEnd _ | .byteReceived _ | .powerLoss => true

end Sys2Proof
end

