-- ==== Sys2Proof/Certificates/Slice0/Obligations.lean ====
section
/-! DEFINITION. The statements for the provers. Each says what commands or the controller do, from the rules of the manual;
statements with hypotheses have a witness in Sys2Proof/Tests/Slice0.lean. -/

open Sys2Proof Sys2Proof.Machine

/-! ### The queue of commands, reset, and the operands -/

/-- A step takes the command at the front of the queue and executes it with the queue's rest (log 3). -/
def Obligations.StepRunsTheFrontCommand : Prop :=
  ∀ (c : Instr) (rest : List Instr) (s : State),
    step { s with pending := c :: rest } = exec c { s with pending := rest }

/-- Every command leaves the queue of waiting commands as it is (the model's own queue, log 3). A command whose operand
the controller can receive is always taken; any other is refused by name (log 33). Without power a command other than
POWER_ON has no effect (log 2). -/
def Obligations.CommandsAreTaken : Prop :=
  (∀ (c : Instr) (s t : State), exec c s = .next t → t.pending = s.pending)
  ∧ (∀ (c : Instr) (s : State),
       (c.wellFormed = true → ∃ t, exec c s = .next t)
       ∧ (c.wellFormed = false → exec c s = .refused .illFormed)
       ∧ (c.wellFormed = true → s.powered = false → (∀ levels, c ≠ .powerOn levels) → exec c s = .next s))

/-- The state right after the first power-on, with a store in which nothing has been saved (log 1): what R41, R42 load
then, and the values R1, R11, R21, R44, R61, R62, R91, R114, R163 to R165, R168, R171, R180, R184, R186, R187, R189 to
R191 give power-on. The laws of the manual that Safety.lean names hold in the state right after the first power-on. -/
def Obligations.ResetValuesAndLaws : Prop :=
  ((State.reset.pending = [] ∧ State.reset.powered = true)
   ∧ (State.reset.flt.lineState = .init ∧ State.reset.flt.masks = 0#35
       ∧ ∀ f, isSet f State.reset = true ↔ f = .storeCheck ∨ f = .countersCheck)
   ∧ ((∀ k, plateAt State.reset k = none) ∧ State.reset.ptb.queue = [] ∧ State.reset.ptb.lastUnmatched = none)
   ∧ (State.reset.rss.working = defaultSettings ∧ State.reset.rss.unsaved = true)
   ∧ (State.reset.wou.lambda = 6000 ∧ State.reset.wou.list = [] ∧ State.reset.wou.replenish = .none)
   ∧ ((∀ c, State.reset.din.lampOn.get c = 0) ∧ (∀ c, channelAt State.reset c = .idle) ∧ State.reset.din.trace = []
       ∧ State.reset.din.traceActive = true)
   ∧ ((∀ d, drawerAt State.reset d = .free) ∧ State.reset.dry.clock = 0 ∧ State.reset.dry.temp = none)
   ∧ ((∀ c, driveState c State.reset = .off) ∧ (∀ c, lampLevel c State.reset = none)
       ∧ (∀ i, (outputAt State.reset i).driven = false ∧ (outputAt State.reset i).user = false))
   ∧ (State.reset.lnk.parser = .hunt ∧ State.reset.lnk.rx = [] ∧ State.reset.lnk.tx = [] ∧ State.reset.lnk.watchdog = none))
  ∧ (Interlocked State.reset ∧ LoadingKept State.reset ∧ BuffersBounded State.reset ∧ TableLawful State.reset
       ∧ LineLawful State.reset)

/-! ### Requests, entries and replies (R185 to R193) -/

/-- A request that cannot be served yet (INIT has not ended, or another request is in service) waits at the tail of the
receive buffer when there is room (R187); with the buffer full it is discarded and LINK_OVERRUN is set. That the row of a
request taken when it cannot be served is offered to the receive buffer, and that it does not restart the watchdog as the
arrival of its frame does (R190), is the model's choice (DEDUCED, log 7). -/
def Obligations.RequestsWaitTheirTurn : Prop :=
  ∀ (c : Instr) (f : RxFrame) (s : State), requestFrame c = some f → f.body.length ≤ 298 → s.powered = true →
    (s.flt.lineState = .init ∨ ∃ e, s.lnk.inService = some e ∧ e ≠ .frame f) →
    s.lnk.inService ≠ some (.frame f) → .frame f ∉ s.lnk.rx →
    (s.lnk.rx.length < 2 → exec c s = .next { s with lnk := { s.lnk with rx := s.lnk.rx ++ [.frame f] } })
    ∧ (2 ≤ s.lnk.rx.length → ∃ t, exec c s = .next t ∧ isSet .linkOverrun t = true ∧ t.lnk.rx = s.lnk.rx
        ∧ t.lnk.tx = s.lnk.tx ∧ t.lnk.inService = s.lnk.inService ∧ t.ptb = s.ptb ∧ t.rss = s.rss ∧ t.din = s.din
        ∧ t.exu = s.exu ∧ t.wou = s.wou ∧ t.dry = s.dry ∧ t.lfn = s.lfn ∧ t.trc = s.trc ∧ t.flt.lineState = s.flt.lineState)

/-- R188, checks 1 to 4, on the entries themselves, with the statuses 2, 3 and 4 of R194: a BAD_CHECK and a BAD_LENGTH
entry are answered with kind 0 and tag 0, an unknown kind and a body that does not fit with the kind and tag received.
R188, check 4: a request whose body does not fit is answered BAD_LENGTH and changes nothing. The body length of each
request with a fixed body (R195): the kinds of R194 and the bytes each body has. On an empty queue an entry in service that
may be served is served by its own row of the table: a valid frame by the request its kind names, the others by their
checks (R187, R188; that the service takes a step of its own is the model's choice, log 4). -/
def Obligations.EntriesAreAnswered : Prop :=
  (∀ s : State,
     (Servable .badCheck s → exec .badCheck s =
       .next { s with lnk := { s.lnk with tx := s.lnk.tx ++ [⟨0#8, 0#8, [2#8]⟩], inService := s.lnk.rx.head?,
                                          rx := s.lnk.rx.tail } })
     ∧ (Servable .badLength s → exec (.badLength none) s =
       .next { s with lnk := { s.lnk with tx := s.lnk.tx ++ [⟨0#8, 0#8, [3#8]⟩], inService := s.lnk.rx.head?,
                                          rx := s.lnk.rx.tail } })
     ∧ (∀ f : RxFrame, f.body.length ≤ 298 → namesRequest f.kind → bodyFits f = false → Servable (.frame f) s →
         exec (.badLength (some f)) s =
           .next { s with lnk := { s.lnk with tx := s.lnk.tx ++ [⟨f.kind, f.tag, [3#8]⟩], inService := s.lnk.rx.head?,
                                              rx := s.lnk.rx.tail } })
     ∧ (∀ f : RxFrame, f.body.length ≤ 298 → ¬ namesRequest f.kind → Servable (.frame f) s →
         exec (.unknownKind f) s =
           .next { s with lnk := { s.lnk with tx := s.lnk.tx ++ [⟨f.kind, f.tag, [4#8]⟩], inService := s.lnk.rx.head?,
                                              rx := s.lnk.rx.tail } }))
  ∧ (∀ (c : Instr) (f : RxFrame) (s : State), requestFrame c = some f → f.body.length ≤ 298 → bodyFits f = false →
       Servable (.frame f) s → Answers c f ⟨.badLength, []⟩ s)
  ∧ (∀ p ∈ [(16, 0), (17, 0), (18, 0), (19, 0), (32, 13), (33, 3), (35, 3), (36, 0), (37, 3), (38, 4), (39, 3), (40, 3),
         (48, 46), (49, 1), (50, 1), (52, 0), (54, 0), (55, 0), (64, 0), (65, 0), (66, 0), (67, 1), (68, 0), (80, 0),
         (81, 5), (82, 10), (83, 1), (84, 0), (96, 1), (97, 1)],
       ∀ (tag : Byte) (body : List Byte),
         bodyFits ⟨BitVec.ofNat 8 p.1, tag, body⟩ = true ↔ body.length = p.2)
  ∧ (∀ s : State, s.powered = true → s.flt.lineState ≠ .init → s.rss.save = none → s.pending = [] →
       (∀ (c : Instr) (f : RxFrame), requestFrame c = some f → bodyFits f = true → s.lnk.inService = some (.frame f) →
         step s = .next { s with pending := [c] })
       ∧ (∀ f : RxFrame, s.lnk.inService = some (.frame f) →
         (namesRequest f.kind → bodyFits f = false → step s = .next { s with pending := [.badLength (some f)] })
         ∧ (¬ namesRequest f.kind → step s = .next { s with pending := [.unknownKind f] }))
       ∧ (s.lnk.inService = some .badCheck → step s = .next { s with pending := [.badCheck] })
       ∧ (s.lnk.inService = some .badLength → step s = .next { s with pending := [.badLength none] }))

/-- R185, R186: a frame sent byte by byte to a parser in HUNT arrives whole: it joins the receive buffer with its kind,
tag and body, the parser is back in HUNT, and the watchdog has restarted, during INIT as well; before the hand-over of the
link watchdog group, where no run's frame arrives (log 13), the arrival is kept in mind for it (R190). -/
def Obligations.FramesArriveWhole : Prop :=
  ∀ (f : RxFrame) (s : State), s.powered = true → s.lnk.parser = .hunt → f.body.length ≤ 298 → s.lnk.rx.length < 2 →
    execAll (frameCommands f) s =
      .next { s with lnk := parsedLink .hunt (joinedLink (.frame f) (s.flt.lineState != .init)
        (heardLink s.rss.working.cfg.watchdog s.lnk)) }

/-- R186: what the parser does with each byte short of a frame's end: HUNT, LENGTH, BODY and the first byte of CHECK.
R186, R187, R190: the last byte of a frame, and the byte that shows a length outside 2 to 300. A frame whose check does
not agree sets LINK_BADCHECK and becomes a BAD_CHECK entry; a valid frame restarts the watchdog, during INIT as well, even
when the buffer is full and it is discarded with LINK_OVERRUN; before the hand-over of the link watchdog group, where no
run's frame arrives (log 13), it leaves the watchdog and is kept in mind for it. -/
def Obligations.BytesAreParsed : Prop :=
  (∀ (b : Byte) (s : State), s.powered = true →
     (s.lnk.parser = .hunt → b = 213#8 →
       exec (.byteReceived b) s = .next { s with lnk := parsedLink (.length none) s.lnk })
     ∧ (s.lnk.parser = .hunt → b ≠ 213#8 → exec (.byteReceived b) s = .next s)
     ∧ (s.lnk.parser = .length none →
       exec (.byteReceived b) s = .next { s with lnk := parsedLink (.length (some b)) s.lnk })
     ∧ (∀ hi, s.lnk.parser = .length (some hi) → 2 ≤ hi.toNat * 256 + b.toNat → hi.toNat * 256 + b.toNat ≤ 300 →
       exec (.byteReceived b) s = .next { s with lnk := parsedLink (.body (hi.toNat * 256 + b.toNat) []) s.lnk })
     ∧ (∀ n got, s.lnk.parser = .body n got → got.length + 1 < n →
       exec (.byteReceived b) s = .next { s with lnk := parsedLink (.body n (got ++ [b])) s.lnk })
     ∧ (∀ n got, s.lnk.parser = .body n got → n ≤ got.length + 1 →
       exec (.byteReceived b) s = .next { s with lnk := parsedLink (.check (got ++ [b]) none) s.lnk })
     ∧ (∀ got, s.lnk.parser = .check got none →
       exec (.byteReceived b) s = .next { s with lnk := parsedLink (.check got (some b)) s.lnk }))
  ∧ (∀ (b hi kind tag : Byte) (body : List Byte) (s : State), s.powered = true →
       (s.lnk.parser = .check (kind :: tag :: body) (some hi) →
         (crc (b2 (body.length + 2) ++ kind :: tag :: body)).toNat ≠ hi.toNat * 256 + b.toNat →
         s.lnk.rx.length < 2 → s.lnk.inService ≠ none →
         ∃ t, exec (.frameComplete b) s = .next t ∧ isSet .linkBadcheck t = true ∧ t.lnk.parser = .hunt
           ∧ t.lnk.rx = s.lnk.rx ++ [.badCheck] ∧ t.lnk.watchdog = s.lnk.watchdog ∧ t.lnk.tx = s.lnk.tx
           ∧ t.ptb = s.ptb ∧ t.rss = s.rss ∧ t.din = s.din ∧ t.exu = s.exu ∧ t.wou = s.wou ∧ t.dry = s.dry ∧ t.lfn = s.lfn
           ∧ t.trc = s.trc ∧ t.lio.drives = s.lio.drives ∧ t.lio.lamps = s.lio.lamps)
       ∧ (s.lnk.parser = .check (kind :: tag :: body) (some hi) →
         (crc (b2 (body.length + 2) ++ kind :: tag :: body)).toNat = hi.toNat * 256 + b.toNat →
         2 ≤ s.lnk.rx.length → s.rss.working.cfg.watchdog ≠ 0 →
         ∃ t, exec (.frameComplete b) s = .next t ∧ isSet .linkOverrun t = true ∧ t.lnk.rx = s.lnk.rx
           ∧ (s.lnk.handed = true →
               t.lnk.watchdog = some { elapsed := 0, period := s.rss.working.cfg.watchdog } ∧ t.lnk.heard = s.lnk.heard)
           ∧ (s.lnk.handed = false → t.lnk.watchdog = s.lnk.watchdog ∧ t.lnk.heard = true) ∧ t.lnk.parser = .hunt
           ∧ t.lnk.tx = s.lnk.tx ∧ t.ptb = s.ptb ∧ t.rss = s.rss)
       ∧ (s.lnk.parser = .check (kind :: tag :: body) (some hi) →
         (crc (b2 (body.length + 2) ++ kind :: tag :: body)).toNat = hi.toNat * 256 + b.toNat → s.lnk.rx.length < 2 →
         exec (.frameComplete b) s =
           .next { s with lnk := parsedLink .hunt (joinedLink (.frame ⟨kind, tag, body⟩) (s.flt.lineState != .init)
             (heardLink s.rss.working.cfg.watchdog s.lnk)) })
       ∧ (s.lnk.parser = .length (some hi) → hi.toNat * 256 + b.toNat < 2 ∨ 300 < hi.toNat * 256 + b.toNat →
         s.lnk.rx.length < 2 →
         exec (.badLengthEntry b) s = .next { s with lnk := { joinedLink .badLength (s.flt.lineState != .init) s.lnk with
           parser := .hunt, gap := 0 } }))

/-- R186: 50 ms without a byte inside a frame discards it and sets LINK_TRUNC; in HUNT nothing happens. R175, R190: the
watchdog's expiry stops the timer, sets LINK_LOSS and takes RUN to SAFE_HOLD, no other line state. -/
def Obligations.SilenceOnTheLink : Prop :=
  ∀ s : State, s.powered = true →
    (s.lnk.parser = .hunt → exec .byteGapTimeout s = .next s)
    ∧ (s.lnk.parser ≠ .hunt → ∃ t, exec .byteGapTimeout s = .next t ∧ t.lnk.parser = .hunt
        ∧ t.flt.flags = s.flt.flags ||| flagBit .linkTrunc ∧ t.lnk.rx = s.lnk.rx ∧ t.lnk.tx = s.lnk.tx
        ∧ t.lnk.watchdog = s.lnk.watchdog ∧ t.flt.lineState = s.flt.lineState ∧ t.ptb = s.ptb ∧ t.rss = s.rss
        ∧ t.din = s.din ∧ t.exu = s.exu ∧ t.wou = s.wou ∧ t.dry = s.dry ∧ t.lfn = s.lfn ∧ t.trc = s.trc)
    ∧ (s.lnk.watchdog = none → exec .watchdogExpiry s = .next s)
    ∧ (s.lnk.watchdog ≠ none → s.flt.lineState = .run → ∃ t, exec .watchdogExpiry s = .next t ∧ t.lnk.watchdog = none
        ∧ isSet .linkLoss t = true ∧ t.flt.lineState = .safeHold ∧ t.flt.cause = .linkLoss ∧ t.ptb.queue = s.ptb.queue
        ∧ t.rss.working = s.rss.working ∧ t.din = s.din ∧ t.lio.lamps = s.lio.lamps ∧ t.lnk.rx = s.lnk.rx
        ∧ t.lnk.tx = s.lnk.tx)
    ∧ (s.lnk.watchdog ≠ none → s.flt.lineState ≠ .run → ∃ t, exec .watchdogExpiry s = .next t ∧ t.lnk.watchdog = none
        ∧ t.flt.flags = s.flt.flags ||| flagBit .linkLoss ∧ t.flt.lineState = s.flt.lineState
        ∧ t.flt.cause = s.flt.cause ∧ t.ptb = s.ptb ∧ t.rss = s.rss ∧ t.din = s.din ∧ t.exu = s.exu ∧ t.wou = s.wou
        ∧ t.dry = s.dry ∧ t.lfn = s.lfn ∧ t.trc = s.trc)

/-- R189: the transmitter's choice: with the mark yes and an enabled item pending, an ATTENTION frame with kind 112,
tag 0 and the body of R196; with the mark yes and none pending, or no, the oldest reply; with no reply, nothing. R185: the
bytes a frame has on the line: sync, length, kind, tag, body and check. An idle transmitter with a reply or the mark
waiting chooses when no command and no entry waits (that the choice takes a step of its own is the model's, log 4). -/
def Obligations.TransmitterChooses : Prop :=
  (∀ s : State, s.powered = true →
     (s.lnk.attnMark = true → s.lnk.attnPending &&& s.rss.working.cfg.attention ≠ 0#6 →
       exec .txFrameDone s = .next { s with lnk := { s.lnk with
         attnMark := false
         sending := some (lineBytes 112#8 0#8
           [BitVec.ofNat 8 s.lnk.attnPending.toNat, BitVec.ofNat 8 s.rss.working.cfg.attention.toNat,
            (match s.flt.lineState with
             | .init => 1#8
             | .run => 2#8
             | .safeHold => 3#8
             | .stopped => 4#8),
            (if s.flt.flags &&& ~~~s.flt.masks = 0#35 then 0#8 else 1#8), BitVec.ofNat 8 s.ptb.queue.length]) } })
     ∧ ((s.lnk.attnMark = true → s.lnk.attnPending &&& s.rss.working.cfg.attention = 0#6) →
       (∀ f rest, s.lnk.tx = f :: rest → exec .txFrameDone s = .next { s with lnk := { s.lnk with
         attnMark := false, sending := some (lineBytes f.kind f.tag f.body), tx := rest } })
       ∧ (s.lnk.tx = [] → exec .txFrameDone s = .next { s with lnk := { s.lnk with attnMark := false, sending := none } }))
     ∧ (s.pending = [] → s.lnk.inService = none → s.lnk.sending = none → s.lnk.attnMark = true ∨ s.lnk.tx ≠ [] →
       step s = .next { s with pending := [.txFrameDone] }))
  ∧ (∀ (kind tag : Byte) (body : List Byte),
       let covered := BitVec.ofNat 8 ((body.length + 2) / 256) :: BitVec.ofNat 8 (body.length + 2) :: kind :: tag :: body
       lineBytes kind tag body
         = 213#8 :: covered ++ [BitVec.ofNat 8 ((crc covered).toNat / 256), BitVec.ofNat 8 (crc covered).toNat])

/-- R191: a report of an attention item: an item already pending is left; another becomes pending, and an enabled one
sets the ATTENTION mark. R180, R181: a report of a flag's condition sets that flag and no other; FAULT is reported when
the flag was clear and is not masked; a report of a flag already set has no further effect. R6: what appending a notice
to a record does: a code in the list is not added again, a new one goes to the end of a list of fewer than 8, and a
full list gets the more-notices mark. -/
def Obligations.ReportsAreTakenOnce : Prop :=
  (∀ (a : AttnItem) (s : State),
     (attnHas s.lnk.attnPending a = true → raiseAttn a s = s)
     ∧ (attnHas s.lnk.attnPending a = false → raiseAttn a s = { s with lnk := { s.lnk with
         attnPending := s.lnk.attnPending ||| attnBit a
         attnMark := s.lnk.attnMark || attnHas s.rss.working.cfg.attention a } }))
  ∧ (∀ (f : Flag) (s : State),
       (isSet f s = true → setFlag f s = s)
       ∧ (∀ g, isSet g (setFlag f s) = true ↔ g = f ∨ isSet g s = true)
       ∧ (isSet f s = false →
           (attnHas (setFlag f s).lnk.attnPending .fault = true
             ↔ attnHas s.lnk.attnPending .fault = true ∨ flagHas s.flt.masks f = false))
       ∧ (setFlag f s).flt.masks = s.flt.masks ∧ (setFlag f s).flt.lineState = s.flt.lineState
       ∧ (setFlag f s).ptb = s.ptb ∧ (setFlag f s).wou = s.wou ∧ (setFlag f s).lio.drives = s.lio.drives
       ∧ (setFlag f s).lio.lamps = s.lio.lamps)
  ∧ (∀ (n : Notice) (r : PlateRecord),
       (n ∈ r.notices → appendNotice n r = r)
       ∧ (n ∉ r.notices → r.notices.length < 8 → appendNotice n r = { r with notices := r.notices ++ [n] })
       ∧ (n ∉ r.notices → 8 ≤ r.notices.length → appendNotice n r = { r with moreNotices := true }))

/-- R192: ATTN_CLEAR removes the named items from the pending set, answers OK with the set that is left, and sets the
ATTENTION mark when an enabled item is still pending. R193: ATTN_ENABLE replaces the enable set in the working copy,
sets the unsaved-edits mark, answers OK with the new set, and sets the ATTENTION mark when an item newly enabled is
pending. Either refuses a set with the value 64 or 128 BAD_FIELD. -/
def Obligations.AttentionRequests : Prop :=
  (∀ (tag b : Byte) (s : State), Servable (.frame ⟨97#8, tag, [b]⟩) s →
     (64 ≤ b.toNat → Answers (.attnClear tag [b]) ⟨97#8, tag, [b]⟩ ⟨.badField, []⟩ s)
     ∧ (b.toNat < 64 → exec (.attnClear tag [b]) s =
       .next (replied 97#8 tag ⟨.ok, [BitVec.ofNat 8 (s.lnk.attnPending &&& ~~~(b.setWidth 6)).toNat]⟩
         { s with lnk := { s.lnk with
           attnPending := s.lnk.attnPending &&& ~~~(b.setWidth 6)
           attnMark := s.lnk.attnMark
             || (s.lnk.attnPending &&& ~~~(b.setWidth 6) &&& s.rss.working.cfg.attention != 0#6) } })))
  ∧ (∀ (tag b : Byte) (s : State), Servable (.frame ⟨96#8, tag, [b]⟩) s →
       (64 ≤ b.toNat → Answers (.attnEnable tag [b]) ⟨96#8, tag, [b]⟩ ⟨.badField, []⟩ s)
       ∧ (b.toNat < 64 → exec (.attnEnable tag [b]) s =
         .next (replied 96#8 tag ⟨.ok, [b]⟩
           { s with
             rss := { s.rss with
               working := { s.rss.working with cfg := { s.rss.working.cfg with attention := b.setWidth 6 } }
               unsaved := true }
             lnk := { s.lnk with
               attnMark := s.lnk.attnMark
                 || (b.setWidth 6 &&& ~~~s.rss.working.cfg.attention &&& s.lnk.attnPending != 0#6) } })))

/-! ### Power, the start-up load and the store (R38 to R42, R172) -/

/-- R41, R42, R158 and the power-on values of the blocks: what POWER_ON leaves. That it leaves this from any state, a
powered one too, where power is interrupted and returns, is the model's choice (log 2), and so is that both loads are made
within POWER_ON (DEDUCED, log 13). R41, R190: the link watchdog group is handed over, the timer stopped as no frame has
arrived since power-on; the hand-over starts the timer, from 0 and with the working period, when a valid frame has arrived
before it, and else leaves it. R39, R40: a power loss leaves the banks as they stand, a bank being written with the
mark it has, which the save has made not valid (StoreSave; log 11), and the counters area with the loading of every commit
(log 12). -/
def Obligations.PowerOnAndLoss : Prop :=
  (∀ (levels : BitVec 12) (s : State), ∃ t, exec (.powerOn levels) s = .next t
     ∧ t.powered = true ∧ t.pending = s.pending
     ∧ (t.flt.lineState = .init ∧ t.flt.cause = .startUp ∧ t.flt.masks = 0#35)
     ∧ ((∀ k, plateAt t k = none) ∧ t.ptb.queue = [] ∧ t.ptb.lastUnmatched = none)
     ∧ ((∀ n, currentBank s.rss = some n → t.rss.working = (bank n s.rss).settings ∧ t.rss.unsaved = false
           ∧ isSet .storeCheck t = false)
         ∧ (currentBank s.rss = none → t.rss.working = defaultSettings ∧ t.rss.unsaved = true
           ∧ isSet .storeCheck t = true))
     ∧ (t.rss.bankA = s.rss.bankA ∧ t.rss.bankB = s.rss.bankB ∧ t.rss.save = none)
     ∧ ((s.rss.counters.valid = true → t.wou.lambda = min 65535 (s.rss.counters.lambda + s.rss.commitsSinceWrite)
           ∧ t.din.lampOn = s.rss.counters.lampOn ∧ isSet .countersCheck t = false ∧ t.rss.countersWriting = false)
         ∧ (s.rss.counters.valid = false → t.wou.lambda = t.rss.working.cal.wash.lambdaMax
           ∧ t.din.lampOn = ⟨0, 0, 0, 0⟩ ∧ isSet .countersCheck t = true ∧ t.rss.countersWriting = true
           ∧ t.rss.counters = ⟨t.wou.lambda, t.din.lampOn, true⟩))
     ∧ (∀ i, inputAt t i = ⟨levels.getLsbD i.val, levels.getLsbD i.val != (inputCfg t i).invert, none⟩)
     ∧ ((∀ i, (outputAt t i).driven = false ∧ (outputAt t i).hold = none) ∧ (∀ c, driveState c t = .off)
         ∧ (∀ c, lampLevel c t = none))
     ∧ (t.din.channels = ⟨.idle, .idle, .idle, .idle⟩ ∧ t.din.carry = ⟨0, 0, 0, 0⟩ ∧ t.din.trace = []
         ∧ t.din.traceActive = true)
     ∧ (t.wou.list = [] ∧ t.wou.committed = 0 ∧ t.wou.replenish = .none ∧ t.wou.temp = none)
     ∧ ((∀ d, drawerAt t d = .free) ∧ t.dry.clock = 0 ∧ t.dry.temp = none)
     ∧ (t.lnk.parser = .hunt ∧ t.lnk.rx = [] ∧ t.lnk.tx = [] ∧ t.lnk.inService = none
         ∧ t.lnk.watchdog = none ∧ t.lnk.handed = true ∧ t.lnk.heard = false))
  ∧ (∀ s : State, (handOverWatchdog s).lnk.handed = true ∧ (handOverWatchdog s).lnk.heard = false
       ∧ (s.lnk.heard = false → (handOverWatchdog s).lnk.watchdog = s.lnk.watchdog)
       ∧ (s.lnk.heard = true → (handOverWatchdog s).lnk.watchdog = if s.rss.working.cfg.watchdog = 0 then none
           else some { elapsed := 0, period := s.rss.working.cfg.watchdog }))
  ∧ (∀ s : State, s.powered = true → ∃ t, exec .powerLoss s = .next t ∧ t.powered = false
       ∧ t.rss.bankA = s.rss.bankA ∧ t.rss.bankB = s.rss.bankB ∧ t.rss.save = none
       ∧ t.rss.counters.lampOn = s.rss.counters.lampOn ∧ t.rss.counters.valid = s.rss.counters.valid
       ∧ t.rss.counters.lambda = min 65535 (s.rss.counters.lambda + s.rss.commitsSinceWrite)
       ∧ (∀ c, driveState c t = .off) ∧ (∀ c, lampLevel c t = none) ∧ t.pending = s.pending)

/-- R172 and the readings at the end of INIT (R66, R68, R122, R128, R140, R142, R149, R187): the line enters RUN, or
STOPPED with INHIBIT set while the inhibit is active; every station takes its presence reading; the elevator homes; the
heater is turned on. The watchdog is left as it stands. Once INIT has ended, the report has no further effect (the model's
own reading of a second report, log 32). -/
def Obligations.StartUpEndsInit : Prop :=
  (∀ (level : Fin 8) (s : State), s.powered = true → s.flt.lineState = .init → s.trc.pendingPut = none →
     ∃ t, exec (.startUpLoadFinished level) s = .next t
       ∧ (inhibitActive s = false → t.flt.lineState = .run)
       ∧ (inhibitActive s = true → t.flt.lineState = .stopped ∧ isSet .inhibit t = true)
       ∧ t.flt.cause = .startUp ∧ attnHas t.lnk.attnPending .lineState = true
       ∧ t.exu.state = (if inputActive .exuPresent s then .clearWait else .empty)
       ∧ t.lfn.state = (if inputActive .lfnPresent s then .clearWait else .empty)
       ∧ t.trc.table = (if inputActive .washExitPresent s then .clearWait else .empty)
       ∧ t.trc.handoff = (if inputActive .exitPresent s then .doneWaitClear else .empty)
       ∧ t.trc.halted = (inhibitActive s || driveFaulted .elevator s)
       ∧ t.trc.level = level
       ∧ (level ≠ 0 → t.trc.request = some .homing ∧ t.trc.elevator = .inPhase (.travel 0))
       ∧ (inhibitActive s = false → driveFaulted .heater s = false → isSet .dryerOvertemp s = false →
           driveState .heater t = .on (.value s.rss.working.cal.dryerSetpoint))
       ∧ t.ptb.queue = s.ptb.queue ∧ t.rss.working = s.rss.working ∧ t.dry.clock = s.dry.clock
       ∧ t.lio.inputs = s.lio.inputs ∧ t.flt.masks = s.flt.masks
       ∧ t.lnk.watchdog = s.lnk.watchdog ∧ t.lnk.handed = s.lnk.handed ∧ t.lnk.heard = s.lnk.heard)
  ∧ (∀ (level : Fin 8) (s : State), s.flt.lineState ≠ .init → exec (.startUpLoadFinished level) s = .next s)

/-- R40: the end of a counters write. One that verifies leaves the area good; one that fails sets COUNTERS_CHECK and
leaves the working values; writes asked meanwhile are made as one, with the values of that moment. -/
def Obligations.CountersWriteEnds : Prop :=
  ∀ s : State, s.powered = true → s.rss.countersWriting = true →
    (s.rss.countersWaiting = false →
      exec (.countersWriteEnd true) s = .next { s with rss := { s.rss with
        counters := { s.rss.counters with valid := true }, countersWriting := false, countersFailed := false } })
    ∧ (s.rss.countersWaiting = true → s.rss.save = none →
      exec (.countersWriteEnd true) s = .next { s with rss := { s.rss with
        counters := { lambda := s.wou.lambda, lampOn := s.din.lampOn, valid := true }, countersWriting := true,
        countersWaiting := false, countersFailed := false, commitsSinceWrite := 0 } })
    ∧ (∃ t, exec (.countersWriteEnd false) s = .next t ∧ isSet .countersCheck t = true ∧ t.rss.countersFailed = true
        ∧ (s.rss.countersWaiting = false → t.rss.counters = { s.rss.counters with valid := false }
            ∧ t.rss.countersWriting = false)
        ∧ t.wou = s.wou ∧ t.din = s.din ∧ t.rss.working = s.rss.working ∧ t.rss.bankA = s.rss.bankA
        ∧ t.rss.bankB = s.rss.bankB ∧ t.ptb = s.ptb ∧ t.exu = s.exu ∧ t.dry = s.dry ∧ t.lfn = s.lfn ∧ t.trc = s.trc)

/-- R39, steps 1 and 2: STORE_SAVE writes the working copy with the next save number into the bank that is not current,
and stays in service, the bank written and the request's tag kept for its end; the current bank stays current while the other is written. R39: the end of a save. A bank that
verifies becomes good, the unsaved-edits mark becomes no, STORE_CHECK is cleared, and the reply is OK; one that does
not verify leaves the mark and the flags, and the reply is STORE_FAIL. R38, R39: the bank a save has written and
verified is the current bank, by its save number, whatever the other holds; while it is being written, or when it
fails, the bank that was current stays current. -/
def Obligations.StoreSave : Prop :=
  (∀ (tag : Byte) (s : State), Servable (.frame ⟨55#8, tag, []⟩) s → ∃ t, exec (.storeSave tag []) s = .next t
     ∧ (currentBank s.rss = none → t.rss.bankA = ⟨s.rss.working, 1, false⟩ ∧ t.rss.bankB = s.rss.bankB
         ∧ t.rss.save = some ⟨.a, tag⟩)
     ∧ (currentBank s.rss = some .a → t.rss.bankA = s.rss.bankA
         ∧ t.rss.bankB = ⟨s.rss.working, (s.rss.bankA.saveNumber + 1) % 4294967296, false⟩
         ∧ t.rss.save = some ⟨.b, tag⟩)
     ∧ (currentBank s.rss = some .b → t.rss.bankB = s.rss.bankB
         ∧ t.rss.bankA = ⟨s.rss.working, (s.rss.bankB.saveNumber + 1) % 4294967296, false⟩
         ∧ t.rss.save = some ⟨.a, tag⟩)
     ∧ currentBank t.rss = currentBank s.rss
     ∧ t.rss.save = some ⟨saveTarget s.rss, tag⟩ ∧ t.lnk.inService = some (.frame ⟨55#8, tag, []⟩)
     ∧ t = { s with rss := { s.rss with bankA := t.rss.bankA, bankB := t.rss.bankB, save := t.rss.save },
                    lnk := { s.lnk with inService := t.lnk.inService } })
  ∧ (∀ (bankName : BankName) (tag : Byte) (s : State), s.powered = true → s.flt.lineState ≠ .init →
       s.rss.save = some ⟨bankName, tag⟩ → s.rss.countersWaiting = false →
       (∃ t, exec (.storeSaveEnd true) s = .next t
         ∧ bank bankName t.rss = { bank bankName s.rss with valid := true }
         ∧ bank (otherBank bankName) t.rss = bank (otherBank bankName) s.rss
         ∧ t.rss.save = none ∧ t.rss.unsaved = false ∧ t.rss.working = s.rss.working
         ∧ isSet .storeCheck t = false ∧ (∀ f, f ≠ .storeCheck → isSet f t = isSet f s)
         ∧ t.lnk.tx = s.lnk.tx ++ [⟨55#8, tag, [0#8]⟩] ∧ t.lnk.inService = s.lnk.rx.head? ∧ t.lnk.rx = s.lnk.rx.tail
         ∧ t.ptb = s.ptb ∧ t.din = s.din ∧ t.wou = s.wou ∧ t.dry = s.dry ∧ t.lfn = s.lfn ∧ t.trc = s.trc
         ∧ t.lio.drives = s.lio.drives ∧ t.lio.lamps = s.lio.lamps ∧ t.flt.lineState = s.flt.lineState)
       ∧ exec (.storeSaveEnd false) s = .next (replied 55#8 tag ⟨.storeFail, []⟩
           { s with rss := { setBank bankName { bank bankName s.rss with valid := false } s.rss with save := none } }))
  ∧ (∀ (r : Store) (settings : Settings), r.bankA.saveNumber < 4294967296 → r.bankB.saveNumber < 4294967296 →
       currentBank (setBank (saveTarget r) ⟨settings, nextSaveNumber r, true⟩ r) = some (saveTarget r)
       ∧ currentBank (setBank (saveTarget r) ⟨settings, nextSaveNumber r, false⟩ r) = currentBank r)

/-! ### Input and output lines, drivers, inhibit and lid (R158 to R169, R173) -/

/-- R159: raw changes and debounce: a change is seen once the new level has held for the line's debounce, at once with a
debounce of 0, and never when the level returns first. Of a line that carries a function, the change seen at once does what
the end of the line's debounce does from the new raw level, which the statements on each function's change say. R163: the end of a hold: the
line takes its wanted state; when that changes it, a new hold starts unless the width is 0. A line without a hold is
left. -/
def Obligations.LinesAreDebouncedAndHeld : Prop :=
  (∀ (i : Fin 12) (energised : Bool) (s : State), s.powered = true →
     ((inputAt s i).raw = energised → exec (.rawInputChange i energised) s = .next s)
     ∧ ((inputAt s i).raw ≠ energised → (energised != (inputCfg s i).invert) = (inputAt s i).active →
       exec (.rawInputChange i energised) s = .next { s with lio := { s.lio with
         inputs := s.lio.inputs.set i.val ⟨energised, (inputAt s i).active, none⟩ i.isLt } })
     ∧ ((inputAt s i).raw ≠ energised → (energised != (inputCfg s i).invert) ≠ (inputAt s i).active →
       (inputCfg s i).debounce ≠ 0 →
       exec (.rawInputChange i energised) s = .next { s with lio := { s.lio with
         inputs := s.lio.inputs.set i.val ⟨energised, (inputAt s i).active, some 0⟩ i.isLt } })
     ∧ ((inputAt s i).raw ≠ energised → (energised != (inputCfg s i).invert) ≠ (inputAt s i).active →
       (inputCfg s i).debounce = 0 → (inputCfg s i).function = .none →
       exec (.rawInputChange i energised) s = .next { s with lio := { s.lio with
         inputs := s.lio.inputs.set i.val ⟨energised, !(inputAt s i).active, none⟩ i.isLt } })
     ∧ ((inputAt s i).raw ≠ energised → (energised != (inputCfg s i).invert) ≠ (inputAt s i).active →
       (inputCfg s i).debounce = 0 →
       exec (.rawInputChange i energised) s = exec (.debounceExpiry i) { s with lio := { s.lio with
         inputs := s.lio.inputs.set i.val ⟨energised, (inputAt s i).active, some 0⟩ i.isLt } })
     ∧ ((inputAt s i).timer = none → exec (.debounceExpiry i) s = .next s)
     ∧ ((inputAt s i).timer ≠ none → (inputCfg s i).function = .none →
       exec (.debounceExpiry i) s = .next { s with lio := { s.lio with
         inputs := s.lio.inputs.set i.val ⟨(inputAt s i).raw, !(inputAt s i).active, none⟩ i.isLt } }))
  ∧ (∀ (i : Fin 8) (s : State), s.powered = true →
       ((outputAt s i).hold = none → exec (.outputHoldEnd i) s = .next s)
       ∧ ((outputAt s i).hold ≠ none → wantedState s (outputCfg s i) (outputAt s i).user = (outputAt s i).driven →
         exec (.outputHoldEnd i) s = .next { s with lio := { s.lio with
           outputs := s.lio.outputs.set i.val ⟨(outputAt s i).user, (outputAt s i).driven, none⟩ i.isLt } })
       ∧ ((outputAt s i).hold ≠ none → wantedState s (outputCfg s i) (outputAt s i).user ≠ (outputAt s i).driven →
         exec (.outputHoldEnd i) s = .next { s with lio := { s.lio with
           outputs := s.lio.outputs.set i.val ⟨(outputAt s i).user, !(outputAt s i).driven,
             if (outputCfg s i).minPulse = 0 then none else some 0⟩ i.isLt } }))

/-- R169, R173, R54, R93, R109, R147, R156: INHIBIT goes active after its debounce. Every drive and lamp channel is off
and those that were ON are marked forced off; INHIBIT is set; RUN and SAFE_HOLD become STOPPED; each lamp's segment is
paused with its dose kept; transport, replenishment and elevator stop; a handoff goes back to SETUP. -/
def Obligations.InhibitStopsTheLine : Prop :=
  ∀ (i : Fin 12) (s : State), s.powered = true → (inputCfg s i).function = .inhibit → (inputAt s i).active = false →
    (inputAt s i).timer ≠ none → ∃ t, exec (.debounceExpiry i) s = .next t
      ∧ inhibitActive t = true
      ∧ (∀ c, driveIsOn c t = false) ∧ (∀ c, lampLevel c t = none)
      ∧ (∀ c, driveIsOn c s = true → (t.lio.drives.get c).forced = true)
      ∧ (∀ c, lampIsOn c s = true → (t.lio.lamps.get c).forced = true)
      ∧ isSet .inhibit t = true
      ∧ (s.flt.lineState = .run ∨ s.flt.lineState = .safeHold → t.flt.lineState = .stopped ∧ t.flt.cause = .inhibit)
      ∧ (s.flt.lineState = .init ∨ s.flt.lineState = .stopped →
          t.flt.lineState = s.flt.lineState ∧ t.flt.cause = s.flt.cause)
      ∧ (∀ c r, lampIsOn c s = true → channelAt s c = .integrating r →
          ∃ r2, channelAt t c = .paused r2 ∧ r2.accumulator = r.accumulator ∧ r2.lampSamples = r.lampSamples
            ∧ r2.slot = r.slot ∧ r2.level = r.level ∧ r2.nCap = r.nCap)
      ∧ t.wou.transport = (if s.wou.list = [] then .idle else .stoppedByInhibit) ∧ t.wou.list = s.wou.list
      ∧ (∀ run, t.wou.replenish ≠ .running run)
      ∧ t.trc.halted = true ∧ t.trc.request = s.trc.request
      ∧ t.trc.handoff = (match s.trc.handoff with
          | .setup | .pushing | .offered => .setup
          | other => other)
      ∧ t.ptb.queue = s.ptb.queue ∧ t.rss.working = s.rss.working ∧ t.dry = s.dry ∧ t.flt.masks = s.flt.masks

/-- R169, R173: INHIBIT, carried by one line, goes inactive. Every forced-off mark and every FAULT latch is gone;
STOPPED becomes SAFE_HOLD with cause INHIBIT_RELEASE; the INHIBIT flag stays; no lamp is turned on; the heater comes
back. -/
def Obligations.InhibitIsReleased : Prop :=
  ∀ (i : Fin 12) (s : State), s.powered = true → (inputCfg s i).function = .inhibit → (inputAt s i).active = true →
    (inputAt s i).timer ≠ none → (∀ j, j ≠ i → (inputCfg s j).function ≠ .inhibit) → s.flt.lineState = .stopped →
    ∃ t, exec (.debounceExpiry i) s = .next t
      ∧ inhibitActive t = false ∧ t.flt.lineState = .safeHold ∧ t.flt.cause = .inhibitRelease
      ∧ isSet .inhibit t = isSet .inhibit s
      ∧ (∀ c, (t.lio.drives.get c).forced = false ∧ driveFaulted c t = false)
      ∧ (∀ c, (t.lio.lamps.get c).forced = false ∧ lampLevel c t = lampLevel c s)
      ∧ (isSet .dryerOvertemp s = false → driveState .heater t = .on (.value s.rss.working.cal.dryerSetpoint))
      ∧ t.ptb.queue = s.ptb.queue ∧ t.rss.working = s.rss.working ∧ t.din = s.din ∧ t.flt.masks = s.flt.masks

/-- R168, R54, R71, R78: EXU_LID goes active. The exposure lamps go off, the finisher's stay; a BACK or MAIN segment is
paused with its dose kept; the intake rollers stop a load. R71, R74, R47: EXU_LID goes inactive. In LOAD the rollers run
unless the inhibit is active or their channel in FAULT; in EXPOSING, in RUN with no lamp-failure flag and no inhibit, the
paused run goes on in a new segment with its lamp ON at the run's level; otherwise the closing does nothing more. -/
def Obligations.LidOpens : Prop :=
  (∀ (i : Fin 12) (s : State), s.powered = true → (inputCfg s i).function = .exuLid → (inputAt s i).active = false →
     (inputAt s i).timer ≠ none → ∃ t, exec (.debounceExpiry i) s = .next t
       ∧ lampLevel .back t = none ∧ lampLevel .main t = none
       ∧ lampLevel .uva t = lampLevel .uva s ∧ lampLevel .uvc t = lampLevel .uvc s
       ∧ (∀ c r, c = .back ∨ c = .main → channelAt s c = .integrating r →
           ∃ r2, channelAt t c = .paused r2 ∧ r2.accumulator = r.accumulator ∧ r2.lampSamples = r.lampSamples
             ∧ r2.slot = r.slot ∧ r2.level = r.level ∧ r2.nCap = r.nCap)
       ∧ (s.exu.state = .load → driveIsOn .intakeRollers t = false)
       ∧ (∀ c, c ≠ .intakeRollers → driveState c t = driveState c s)
       ∧ t.ptb.queue = s.ptb.queue ∧ t.rss.working = s.rss.working ∧ t.wou = s.wou ∧ t.dry = s.dry ∧ t.trc = s.trc
       ∧ t.flt.lineState = s.flt.lineState ∧ t.flt.masks = s.flt.masks)
  ∧ (∀ (i : Fin 12) (s : State), Changes i .exuLid false s →
       let asks := s.exu.paused = true ∧ s.flt.lineState = .run ∧ isSet (.lampFail .back) s = false
         ∧ isSet (.lampFail .main) s = false
       (s.exu.state = .load → ∃ t, exec (.debounceExpiry i) s = .next t
         ∧ driveIsOn .intakeRollers t = (!inhibitActive s && !driveFaulted .intakeRollers s)
         ∧ (∀ c, c ≠ .intakeRollers → driveState c t = driveState c s) ∧ t.lio.lamps = s.lio.lamps
         ∧ t.lio.inputs = (flipped i s).lio.inputs ∧ t.ptb = s.ptb ∧ t.rss = s.rss ∧ t.din = s.din ∧ t.exu = s.exu
         ∧ t.wou = s.wou ∧ t.dry = s.dry ∧ t.lfn = s.lfn ∧ t.trc = s.trc ∧ t.flt = s.flt ∧ t.lnk = s.lnk)
       ∧ (s.exu.state ≠ .load → (s.exu.state ≠ .exposing ∨ ¬ asks) → exec (.debounceExpiry i) s = .next (flipped i s))
       ∧ (∀ k st r, s.exu.state = .exposing → asks → inhibitActive s = false → s.exu.contPending = false →
         s.exu.plate = some k → s.exu.substage = some st → channelAt s st.channel = .paused r → r.slot = k →
         ∃ t r2, exec (.debounceExpiry i) s = .next t ∧ channelAt t st.channel = .integrating r2
           ∧ r2 = { r with segment := min 255 (r.segment + 1), segSamples := 0, dark := 0, windowCount := 0,
                           windowSum := 0, windowIndex := 1, recording := r2.recording }
           ∧ lampLevel st.channel t = some r.level ∧ t.exu = { s.exu with paused := false }
           ∧ (∀ c, c ≠ st.channel → channelAt t c = channelAt s c ∧ lampLevel c t = lampLevel c s)
           ∧ t.ptb.queue = s.ptb.queue ∧ t.rss = s.rss ∧ t.din.lampOn = s.din.lampOn ∧ t.wou = s.wou ∧ t.dry = s.dry
           ∧ t.lfn = s.lfn ∧ t.trc = s.trc ∧ t.flt = s.flt ∧ t.lio.drives = s.lio.drives))

/-- R164: OUTPUT_SET with pairs of a line 1 to 8 and a value 0 or 1, no line twice: each user value is stored; a line
whose source is USER and that has no hold running takes the change, every other line keeps its driven state; the reply
shows all eight lines. Any other list of pairs is refused. -/
def Obligations.OutputSet : Prop :=
  ∀ (tag : Byte) (pairs : List (Byte × Byte)) (s : State), pairs.length ≤ 8 →
    Servable (.frame ⟨98#8, tag, pairs.flatMap (fun p => [p.1, p.2])⟩) s →
    (¬ ((∀ p ∈ pairs, 1 ≤ p.1.toNat ∧ p.1.toNat ≤ 8 ∧ p.2.toNat ≤ 1) ∧ (pairs.map (·.1)).Nodup) →
      Answers (.outputSet tag (pairs.flatMap (fun p => [p.1, p.2])))
        ⟨98#8, tag, pairs.flatMap (fun p => [p.1, p.2])⟩ ⟨.badField, []⟩ s)
    ∧ ((∀ p ∈ pairs, 1 ≤ p.1.toNat ∧ p.1.toNat ≤ 8 ∧ p.2.toNat ≤ 1) ∧ (pairs.map (·.1)).Nodup →
      ∃ outputs : Vector OutputLine 8,
        exec (.outputSet tag (pairs.flatMap (fun p => [p.1, p.2]))) s
          = .next (replied 98#8 tag ⟨.ok, outputFields { s with lio := { s.lio with outputs := outputs } }⟩
              { s with lio := { s.lio with outputs := outputs } })
        ∧ ∀ i : Fin 8, outputs[i.val] = (match pairs.find? (fun p => p.1.toNat == i.val + 1) with
            | none => outputAt s i
            | some p =>
              if (outputCfg s i).source = .user ∧ (outputAt s i).hold = none
                  ∧ ((p.2.toNat == 1) != (outputCfg s i).invert) ≠ (outputAt s i).driven then
                ⟨p.2.toNat == 1, !(outputAt s i).driven, if (outputCfg s i).minPulse = 0 then none else some 0⟩
              else { outputAt s i with user := p.2.toNat == 1 }))

/-- R166, with R93, R108, R109 and R147 for the owners: an overcurrent trip of a channel that is ON latches it in FAULT and
sets its DRIVE_FAULT flag; transport and brushes stop together, a replenishment ends, the elevator is halted. A run whose
pumped time is below T is stopped early, with REPLENISH_ABORT, and takes the share pumped in whole seconds off λ; that a
run whose pumped time has reached T, its REPLENISH_COMPLETE not yet taken, is complete and not aborted is DEDUCED from
R108 and R109 (log 5). One of a channel that is not ON is discarded. -/
def Obligations.OvercurrentTrips : Prop :=
  ∀ (c : DriveChannel) (s : State), s.powered = true →
    (driveIsOn c s = false → exec (.overcurrentTrip c) s = .next s)
    ∧ (driveIsOn c s = true → ∃ t, exec (.overcurrentTrip c) s = .next t
      ∧ driveState c t = .fault ∧ isSet (.driveFault c) t = true
      ∧ (c = .transport ∨ c = .brushes → s.wou.transport = .running →
          driveIsOn .transport t = false ∧ driveIsOn .brushes t = false)
      ∧ (c = .pump → (∀ run, t.wou.replenish ≠ .running run)
          ∧ (∀ run, s.wou.replenish = .running run → run.pumped < run.runTime * 1000 →
              isSet .replenishAbort t = true
              ∧ t.wou.lambda = (s.wou.lambda * (run.runTime * 100 - run.pumped / 1000 * run.fraction)
                  + run.runTime * 100 - 1) / (run.runTime * 100))
          ∧ (∀ run, s.wou.replenish = .running run → run.runTime * 1000 ≤ run.pumped →
              isSet .replenishAbort t = isSet .replenishAbort s ∧ t.wou.replenish = .none
              ∧ t.wou.lambda = (s.wou.lambda * (100 - run.fraction) + 99) / 100))
      ∧ (c = .elevator → t.trc.halted = true)
      ∧ (c ≠ .elevator → t.trc = s.trc)
      ∧ t.lio.lamps = s.lio.lamps ∧ t.lio.inputs = s.lio.inputs ∧ t.din = s.din ∧ t.lfn = s.lfn
      ∧ t.ptb.queue = s.ptb.queue ∧ t.rss.working = s.rss.working ∧ t.flt.lineState = s.flt.lineState
      ∧ t.flt.masks = s.flt.masks)

/-! ### The line and the faults (R174 to R184) -/

/-- R174: LINE_HOLD takes RUN to SAFE_HOLD with cause LINE_HOLD and touches no work in progress: every record, the
settings, the dose integrator with its lamps, the exposure unit, the dryer and the masks stand. In SAFE_HOLD and
STOPPED it is accepted and changes nothing. R176: LINE_RESUME takes SAFE_HOLD to RUN with cause LINE_RESUME whatever
flags are set; in RUN it changes nothing; in STOPPED it is refused WRONG_STATE. -/
def Obligations.LineHoldAndResume : Prop :=
  (∀ (tag : Byte) (s : State), Servable (.frame ⟨17#8, tag, []⟩) s →
     (s.flt.lineState = .run → ∃ t, exec (.lineHold tag []) s = .next t
       ∧ t.flt.lineState = .safeHold ∧ t.flt.cause = .lineHold ∧ attnHas t.lnk.attnPending .lineState = true
       ∧ t.lnk.tx = s.lnk.tx ++ [⟨17#8, tag, [0#8]⟩]
       ∧ t.ptb = s.ptb ∧ t.rss = s.rss ∧ t.din = s.din ∧ t.exu = s.exu ∧ t.dry = s.dry ∧ t.lio.lamps = s.lio.lamps
       ∧ t.wou.list = s.wou.list ∧ t.wou.lambda = s.wou.lambda ∧ t.flt.masks = s.flt.masks)
     ∧ (s.flt.lineState = .safeHold ∨ s.flt.lineState = .stopped →
       Answers (.lineHold tag []) ⟨17#8, tag, []⟩ ⟨.ok, []⟩ s))
  ∧ (∀ (tag : Byte) (s : State), Servable (.frame ⟨18#8, tag, []⟩) s →
       (s.flt.lineState = .safeHold → ∃ t, exec (.lineResume tag []) s = .next t
         ∧ t.flt.lineState = .run ∧ t.flt.cause = .lineResume ∧ attnHas t.lnk.attnPending .lineState = true
         ∧ t.lnk.tx = s.lnk.tx ++ [⟨18#8, tag, [0#8]⟩]
         ∧ t.ptb.queue = s.ptb.queue ∧ t.rss = s.rss ∧ t.wou.lambda = s.wou.lambda ∧ t.flt.masks = s.flt.masks
         ∧ t.din.lampOn = s.din.lampOn ∧ t.din.trace = s.din.trace ∧ t.dry.clock = s.dry.clock
         ∧ (∀ f, isSet f s = true → isSet f t = true))
       ∧ (s.flt.lineState = .run → Answers (.lineResume tag []) ⟨18#8, tag, []⟩ ⟨.ok, []⟩ s)
       ∧ (s.flt.lineState = .stopped → Answers (.lineResume tag []) ⟨18#8, tag, []⟩ ⟨.wrongState, []⟩ s))

/-- R178: LINE_RESET, accepted while every record is QUEUED, DONE or SCRAPPED: the table, the queue, the trace buffer
and the channels are emptied; the flags left are those whose lasting condition is still present; the line is STOPPED
under the inhibit and otherwise RUN. What the reset keeps stands. -/
def Obligations.LineReset : Prop :=
  ∀ (tag : Byte) (s : State), Servable (.frame ⟨19#8, tag, []⟩) s →
    ((∀ k st, plateState s k = some st → st = .queued ∨ st = .done ∨ st = .scrapped) →
      ∃ t, exec (.lineReset tag []) s = .next t
        ∧ (∀ k, plateAt t k = none) ∧ t.ptb.queue = [] ∧ t.ptb.lastUnmatched = none
        ∧ t.din = { s.din with channels := ⟨.idle, .idle, .idle, .idle⟩, trace := [], traceActive := true, nextNumber := 0 }
        ∧ (∀ f, isSet f t = conditionPresent { s with ptb := t.ptb } f)
        ∧ t.flt.lineState = (if inhibitActive s then .stopped else .run) ∧ t.flt.cause = .lineReset
        ∧ t.flt.masks = s.flt.masks ∧ t.rss = s.rss ∧ t.wou.lambda = s.wou.lambda ∧ t.dry = s.dry
        ∧ t.lio.inputs = s.lio.inputs ∧ t.lio.lamps = s.lio.lamps
        ∧ t.lnk.tx = s.lnk.tx ++ [⟨19#8, tag, [0#8]⟩])
    ∧ (∀ k st, plateState s k = some st → st ≠ .queued → st ≠ .done → st ≠ .scrapped →
      Answers (.lineReset tag []) ⟨19#8, tag, []⟩ ⟨.wrongState, []⟩ s)

/-- R183: FAULT_CLEAR of flags without STORE_CHECK is always accepted. A named flag ends set exactly when it was set and its
condition is present, so that a lasting condition that is present sets its flag again and every other named flag ends
clear; of DRIVE_FAULT the latch of a named channel whose flag is set is released first, and the flag ends clear; of
SOLVENT_LIMIT this holds of a flag that was set, since an evaluation may find it anew. Flags not named stand but for
SOLVENT_LIMIT, which an evaluation may set. The masks and the line state stand. A set that names STORE_CHECK, or a flag past
the 35 there are, is refused BAD_FIELD. R180: when the condition of each flag is
present; the condition of a flag that is set at an event is not present afterwards. -/
def Obligations.FaultClear : Prop :=
  (∀ (tag : Byte) (named : FlagSet) (s : State), Servable (.frame ⟨81#8, tag, bFlagSet named⟩) s →
     (flagHas named .storeCheck = true →
       Answers (.faultClear tag (bFlagSet named)) ⟨81#8, tag, bFlagSet named⟩ ⟨.badField, []⟩ s)
     ∧ (flagHas named .storeCheck = false → ∃ t, exec (.faultClear tag (bFlagSet named)) s = .next t
       ∧ (∀ f, flagHas named f = true → f ≠ .solventLimit → (∀ c, f ≠ .driveFault c) →
           isSet f t = (isSet f s && conditionPresent s f))
       ∧ (flagHas named .solventLimit = true → isSet .solventLimit s = true →
           isSet .solventLimit t = conditionPresent s .solventLimit)
       ∧ (∀ f, flagHas named f = false → f ≠ .solventLimit → isSet f t = isSet f s)
       ∧ (flagHas named .solventLimit = false → isSet .solventLimit s = true → isSet .solventLimit t = true)
       ∧ (∀ c, flagHas named (.driveFault c) = true → isSet (.driveFault c) t = false
           ∧ (isSet (.driveFault c) s = true → driveFaulted c t = false))
       ∧ t.flt.masks = s.flt.masks ∧ t.flt.lineState = s.flt.lineState ∧ t.ptb.queue = s.ptb.queue ∧ t.rss = s.rss
       ∧ t.wou.lambda = s.wou.lambda ∧ t.dry.clock = s.dry.clock ∧ t.din.lampOn = s.din.lampOn
       ∧ ∃ m : FlagSet, t.lnk.tx = s.lnk.tx ++ [⟨81#8, tag, 0#8 :: bFlagSet m⟩]
           ∧ ∀ f, f ≠ .solventLimit → flagHas m f = isSet f t))
  ∧ (∀ s : State,
       conditionPresent s .inhibit = inhibitActive s
       ∧ (conditionPresent s .storeCheck = true ↔ currentBank s.rss = none)
       ∧ conditionPresent s .countersCheck = s.rss.countersFailed
       ∧ (conditionPresent s .lampLife = true
           ↔ ∃ c, (s.rss.working.cal.lamps.get c).ratedLife * 3600 ≤ s.din.lampOn.get c)
       ∧ (∀ c, conditionPresent s (.driveFault c) = driveFaulted c s)
       ∧ conditionPresent s .washTemp = s.wou.tempOutside
       ∧ (conditionPresent s .solventLimit = true ↔ ∃ k p, s.wou.offered = some k ∧ plateAt s k = some p
           ∧ s.rss.working.cal.wash.lambdaMax < s.wou.lambda + s.wou.committed
               + loadingIncrement s.rss.working.cal.wash.bathVolume p)
       ∧ (conditionPresent s .replenishBlocked = true ↔ s.wou.replenish = .blocked)
       ∧ conditionPresent s .transportStall = s.wou.stallHold
       ∧ (conditionPresent s .dryerOvertemp = true ↔ s.dry.tempClass = .above)
       ∧ (conditionPresent s .dryerUndertemp = true ↔ s.dry.tempClass = .below)
       ∧ ∀ f ∈ [Flag.linkLoss, .lampFail .back, .lampFail .main, .lampFail .uva, .lampFail .uvc, .lampWeak, .loadTimeout,
             .replenishAbort, .elevatorTimeout, .orderMismatch, .intakeUnknown, .exitTimeout, .overdry, .traceOverflow,
             .linkTrunc, .linkOverrun, .linkBadcheck], conditionPresent s f = false)
  ∧ (∀ (tag a b c d e : Byte) (s : State), 8 ≤ e.toNat → Servable (.frame ⟨81#8, tag, [a, b, c, d, e]⟩) s →
       Answers (.faultClear tag [a, b, c, d, e]) ⟨81#8, tag, [a, b, c, d, e]⟩ ⟨.badField, []⟩ s)

/-- R184: FAULT_MASK. The mask marks change, the set marks never; FAULT is reported when an unmasked set flag has been
gained; INHIBIT and STORE_CHECK may not be masked and no flag may be in both sets. -/
def Obligations.FaultMask : Prop :=
  ∀ (tag : Byte) (mask unmask : FlagSet) (s : State),
    Servable (.frame ⟨82#8, tag, bFlagSet mask ++ bFlagSet unmask⟩) s →
    (flagHas mask .inhibit = true ∨ flagHas mask .storeCheck = true
        ∨ (∃ f, flagHas mask f = true ∧ flagHas unmask f = true) →
      Answers (.faultMask tag (bFlagSet mask ++ bFlagSet unmask)) ⟨82#8, tag, bFlagSet mask ++ bFlagSet unmask⟩
        ⟨.badField, []⟩ s)
    ∧ (flagHas mask .inhibit = false → flagHas mask .storeCheck = false →
        (∀ f, flagHas mask f = true → flagHas unmask f = false) →
      ∃ t, exec (.faultMask tag (bFlagSet mask ++ bFlagSet unmask)) s = .next t
        ∧ (∀ f, flagHas t.flt.masks f = ((flagHas s.flt.masks f || flagHas mask f) && !flagHas unmask f))
        ∧ t.flt.flags = s.flt.flags ∧ t.flt.lineState = s.flt.lineState ∧ t.flt.cause = s.flt.cause
        ∧ (attnHas t.lnk.attnPending .fault = true ↔ attnHas s.lnk.attnPending .fault = true
            ∨ ∃ f, isSet f s = true ∧ flagHas s.flt.masks f = true ∧ flagHas unmask f = true)
        ∧ t.lnk.tx = s.lnk.tx ++ [⟨82#8, tag, 0#8 :: bFlagSet t.flt.masks⟩]
        ∧ t.ptb = s.ptb ∧ t.rss = s.rss ∧ t.din = s.din ∧ t.exu = s.exu ∧ t.wou = s.wou ∧ t.dry = s.dry ∧ t.lfn = s.lfn
        ∧ t.trc = s.trc ∧ t.lio.drives = s.lio.drives ∧ t.lio.lamps = s.lio.lamps ∧ t.lio.inputs = s.lio.inputs)

/-! ### The trace buffer and the requests that only read (R22, R29, R34, R37, R63, R64, R112, R126, R179, R182) -/

/-- R63: TRACE_READ of a count outside 1 to 32 is refused BAD_FIELD; any other takes that many of the oldest records,
or all there are, from the head of the buffer, and answers OK with their number, the records oldest first, and the
number left. R64: TRACE_CLEAR empties the buffer, answers OK with the number of records discarded, and changes nothing
else. -/
def Obligations.TraceRequests : Prop :=
  (∀ (tag c : Byte) (s : State), Servable (.frame ⟨83#8, tag, [c]⟩) s →
     (c.toNat < 1 ∨ 32 < c.toNat → Answers (.traceRead tag [c]) ⟨83#8, tag, [c]⟩ ⟨.badField, []⟩ s)
     ∧ (1 ≤ c.toNat → c.toNat ≤ 32 → exec (.traceRead tag [c]) s =
       .next (replied 83#8 tag
         ⟨.ok, [BitVec.ofNat 8 (min c.toNat s.din.trace.length)] ++ (s.din.trace.take c.toNat).flatMap encodeTrace
           ++ b2 (s.din.trace.length - min c.toNat s.din.trace.length)⟩
         { s with din := { s.din with trace := s.din.trace.drop c.toNat } })))
  ∧ (∀ (tag : Byte) (s : State), Servable (.frame ⟨84#8, tag, []⟩) s →
       exec (.traceClear tag []) s =
         .next (replied 84#8 tag ⟨.ok, b2 s.din.trace.length⟩ { s with din := { s.din with trace := [] } }))

/-- The reading requests with an empty body answer OK with their block's fields and change nothing else, and the fields each
reply carries: R34 (CAL_READ), R37 (CONFIG_READ), R112 (SOLVENT_READ), R126 (DRYER_READ), and R179 with R86, R139, R157 and
R170 (LINE_STATUS). Their codes are those of R195; their order where the rules give none, the width of the fixed values, the
counts of CONFIG_READ and what stands in the place of a field that is absent are the model's (log 26), as is a temperature's
one byte (log 28). R182: what FAULT_READ returns after line state and summary (the order of the fields is the model's, log
26): for each flag of the catalogue in its order, its set mark, its mask mark and its class. R22: QUEUE_READ answers OK with
the number of entries, the slot and plate id of each from head to tail, and the last unmatched tag or absent, and changes
nothing. -/
def Obligations.ReadsAnswer : Prop :=
  (∀ (tag : Byte) (s : State),
     (Servable (.frame ⟨16#8, tag, []⟩) s → Answers (.lineStatus tag []) ⟨16#8, tag, []⟩ ⟨.ok, lineFields s⟩ s)
     ∧ (Servable (.frame ⟨80#8, tag, []⟩) s → Answers (.faultRead tag []) ⟨80#8, tag, []⟩ ⟨.ok, faultFields s⟩ s)
     ∧ (Servable (.frame ⟨52#8, tag, []⟩) s → Answers (.calRead tag []) ⟨52#8, tag, []⟩ ⟨.ok, calFields s⟩ s)
     ∧ (Servable (.frame ⟨54#8, tag, []⟩) s → Answers (.configRead tag []) ⟨54#8, tag, []⟩ ⟨.ok, configFields s⟩ s)
     ∧ (Servable (.frame ⟨64#8, tag, []⟩) s → Answers (.solventRead tag []) ⟨64#8, tag, []⟩ ⟨.ok, solventFields s⟩ s)
     ∧ (Servable (.frame ⟨68#8, tag, []⟩) s → Answers (.dryerRead tag []) ⟨68#8, tag, []⟩ ⟨.ok, dryerFields s⟩ s))
  ∧ (∀ s : State, calFields s =
       [LampChannel.back, .main, .uva, .uvc].flatMap (fun c => let g := s.rss.working.cal.lamps.get c
         b1 g.offset ++ b2 g.gain ++ b2 g.eNom ++ b2 g.ratedLife ++ bBool false)
       ++ (let w := s.rss.working.cal.wash
         b2 w.brushLength ++ b2 w.rinseLength ++ b2 w.bathVolume ++ b2 w.lambdaRef ++ b2 w.lambdaRepl ++ b2 w.lambdaMax
         ++ b1 w.exchange ++ b1 w.pumpRate ++ b1 w.speedBand ++ b1 w.tempSetpoint)
       ++ b1 s.rss.working.cal.dryerSetpoint ++ b2 100 ++ b2 2000 ++ b1 150 ++ b1 3 ++ b1 5
       ++ [LampChannel.back, .main, .uva, .uvc].flatMap (fun c => b4 (s.rss.counters.lampOn.get c / 3600)))
  ∧ (∀ s : State, configFields s =
       [12#8] ++ (List.finRange 12).flatMap (fun i => let c := s.rss.working.cfg.inputs[i.val]
         b1 (i.val + 1) ++ bEnum [InputFunction.inhibit, .exuLid, .exuPresent, .intakePresent, .lfnPresent, .exitPresent,
           .washExitPresent, .stkBusy, .stkTaken, .freshLow, .operatorTake, .none] c.function
         ++ bBool c.invert ++ b1 c.debounce)
       ++ [8#8] ++ (List.finRange 8).flatMap (fun i => let c := s.rss.working.cfg.outputs[i.val]
         b1 (i.val + 1) ++ bEnum [OutputSource.user, .faultAny, .lineRun, .safeHold, .stopped, .exuLamp, .lfnLamp, .washBusy,
           .drawerFree, .plateReady, .sort 0, .sort 1, .sort 2, .sort 3, .disabled] c.source
         ++ bBool c.invert ++ b2 c.minPulse)
       ++ (let e := s.rss.working.cfg.exit
         bEnum [HandoffMode.takenThenIdle, .idleOnly, .timed, .operator] e.mode ++ bBool e.pushFirst ++ b2 e.setupDelay
         ++ b1 e.timedDwell ++ b2 e.handoffTimeout)
       ++ b2 s.rss.working.cfg.watchdog ++ b1 s.rss.working.cfg.attention.toNat ++ bBool s.rss.unsaved)
  ∧ (∀ s : State, let eff := s.wou.lambda + s.wou.committed
       let w := s.rss.working.cal.wash
       solventFields s =
       b2 s.wou.lambda ++ b4 s.wou.committed ++ b4 eff ++ b2 w.lambdaRepl ++ b2 w.lambdaMax ++ b2 w.lambdaRef
       ++ (match s.wou.replenish with
         | .none => [1#8] ++ b2 0 ++ bOpt b2 none
         | .pending => [2#8] ++ b2 0 ++ bOpt b2 none
         | .blocked => [3#8] ++ b2 0 ++ bOpt b2 none
         | .running run => [4#8] ++ b2 run.runTime ++ bOpt b2 (some (run.pumped / 1000)))
       ++ bEnum [TransportState.idle, .running, .stalled, .stoppedByInhibit, .stoppedByFault] s.wou.transport
       ++ b2 s.wou.speed ++ bBool s.wou.stallHold
       ++ b1 s.wou.list.length ++ s.wou.list.flatMap (fun e =>
         b1 (e.slot.val + 1) ++ b2 e.plateId ++ b2 (e.position / 60000) ++ bBool e.committed ++ b4 (e.stall / 1000))
       ++ (match s.wou.offered, s.wou.offered.bind (plateAt s) with
         | some k, some p => let v := plateSpeed p.working.vNom w.lambdaRef eff
           b1 (k.val + 1) ++ bOpt b2 (some (loadingIncrement w.bathVolume p)) ++ b2 v
           ++ bBool (decide (p.working.vNom * (w.lambdaRef - eff) / w.lambdaRef < 100))
           ++ b1 (if s.wou.blocker = .none then 0 else [Blocker.lineNotRun, .transportStopped, .transportFull, .gap,
               .replenishment, .flag, .loading, .speedBand, .noDrawer].idxOf s.wou.blocker + 1)
         | _, _ => [0#8] ++ bOpt b2 none ++ b2 0 ++ [0#8] ++ [0#8])
       ++ bOpt b1 s.wou.temp)
  ∧ (∀ s : State, let sp := s.rss.working.cal.dryerSetpoint
       let dryPart (k : Slot) := (plateAt s k).bind (·.dry)
       dryerFields s =
       b1 sp ++ b1 (sp - 5) ++ b1 (sp + 5) ++ bOpt b1 s.dry.temp
       ++ bEnum [TempClass.none, .below, .inBand, .above] s.dry.tempClass
       ++ (match driveState .heater s with
         | .off => [1#8]
         | .on _ => [2#8]
         | .fault => [3#8])
       ++ bBool (!(isSet .dryerOvertemp s) && !(isSet (.driveFault .heater) s)) ++ b4 s.dry.clock
       ++ b1 ((List.finRange 6).filter (fun (d : DrawerNo) => drawerAt s d == .free)).length
       ++ (List.finRange 6).flatMap (fun (d : DrawerNo) => match drawerAt s d with
         | .free => [1#8, 0#8, 255#8, 255#8] ++ bOpt b4 none ++ b2 0 ++ bOpt b4 none ++ bOpt b4 none ++ [0#8]
         | .reserved k id => [2#8] ++ b1 (k.val + 1) ++ b2 id ++ bOpt b4 none ++ b2 0 ++ bOpt b4 none ++ bOpt b4 none ++ [0#8]
         | .drying k id => [3#8] ++ b1 (k.val + 1) ++ b2 id ++ bOpt b4 ((dryPart k).map (·.accrued))
           ++ b2 (((dryPart k).map (·.required)).getD 0) ++ bOpt b4 none ++ bOpt b4 none ++ [0#8]
         | .dryDone k id done => [4#8] ++ b1 (k.val + 1) ++ b2 id ++ bOpt b4 none ++ b2 0 ++ bOpt b4 (some done)
           ++ bOpt b4 (some (s.dry.clock - done)) ++ bBool (((dryPart k).map (·.overdry)).getD false)
         | .unloading k id => [5#8] ++ b1 (k.val + 1) ++ b2 id ++ bOpt b4 none ++ b2 0 ++ bOpt b4 none ++ bOpt b4 none
           ++ [0#8]))
  ∧ (∀ s : State, let drawer (d : Option DrawerNo) := b1 ((d.map (fun x => x.val + 1)).getD 0)
       let status := bEnum [RunStatus.waiting, .active, .paused, .done, .failed]
       lineFields s =
       bEnum [LineState.init, .run, .safeHold, .stopped] s.flt.lineState
       ++ bEnum [Cause.startUp, .inhibit, .inhibitRelease, .lineHold, .linkLoss, .lineResume, .lineReset] s.flt.cause
       ++ bBool (s.flt.flags &&& ~~~s.flt.masks != 0#35) ++ b1 (allFlags.filter (fun f => isSet f s)).length
       ++ bBool s.rss.unsaved ++ b1 ((List.finRange 40).filter (fun (k : Slot) => (plateAt s k).isNone)).length
       ++ b1 s.ptb.queue.length
       ++ (bEnum [ExuState.empty, .load, .exposing, .exposed, .held, .clearWait] s.exu.state ++ bSlot s.exu.plate
         ++ bEnumOpt [Substage.back, .main] s.exu.substage ++ bBool s.exu.paused ++ bBool s.exu.armed)
       ++ (bEnum [LfnState.empty, .check, .running, .finished, .held, .clearWait] s.lfn.state ++ bSlot s.lfn.plate
         ++ bBool s.lfn.incoming ++ bId s.lfn.tagRead ++ status s.lfn.uva.status ++ status s.lfn.uvc.status
         ++ b1 (if s.lfn.moving then 2 else 1))
       ++ ((match s.trc.elevator with
           | .idle => [1#8]
           | .inPhase (.travel _) => [2#8]
           | .inPhase .pick => [3#8]
           | .inPhase .place => [4#8]
           | .fault _ => [5#8])
         ++ b1 s.trc.level.val
         ++ (match s.trc.request with
           | none => [0#8, 0#8, 0#8]
           | some .homing => [1#8, 0#8, 0#8]
           | some (.put k d) => [2#8] ++ bSlot (some k) ++ drawer (some d)
           | some (.take d k) => [3#8] ++ bSlot (some k) ++ drawer (some d))
         ++ bOpt b1 (match s.trc.elevator with
           | .inPhase (.travel target) => some target.val
           | _ => none)
         ++ bBool s.trc.halted
         ++ (match s.trc.elevator with
           | .fault (.travel target) => [1#8] ++ bOpt b1 (some target.val)
           | .fault .pick => [2#8] ++ bOpt b1 none
           | .fault .place => [3#8] ++ bOpt b1 none
           | _ => [0#8] ++ bOpt b1 none)
         ++ bSlot s.trc.pendingPut
         ++ (match s.trc.table with
           | .empty => [1#8] ++ bSlot none
           | .waitingPut k => [2#8] ++ bSlot (some k)
           | .putBegun k => [3#8] ++ bSlot (some k)
           | .clearWait => [4#8] ++ bSlot none)
         ++ bEnum [HandoffState.empty, .setup, .pushing, .offered, .doneWaitClear] s.trc.handoff
         ++ bSlot (s.trc.plate.or s.trc.incoming) ++ b1 ((presentedSort s).getD 255))
       ++ bEnum [TransportState.idle, .running, .stalled, .stoppedByInhibit, .stoppedByFault] s.wou.transport
       ++ (match s.wou.replenish with
         | .none => [1#8]
         | .pending => [2#8]
         | .blocked => [3#8]
         | .running _ => [4#8])
       ++ b1 (if s.wou.blocker = .none then 0 else [Blocker.lineNotRun, .transportStopped, .transportFull, .gap,
           .replenishment, .flag, .loading, .speedBand, .noDrawer].idxOf s.wou.blocker + 1)
       ++ b1 ((List.finRange 6).filter (fun (d : DrawerNo) => drawerAt s d == .free)).length
       ++ ((List.finRange 12).flatMap (fun i => bBool s.lio.inputs[i.val].active
           ++ bEnum [InputFunction.inhibit, .exuLid, .exuPresent, .intakePresent, .lfnPresent, .exitPresent,
             .washExitPresent, .stkBusy, .stkTaken, .freshLow, .operatorTake, .none] s.rss.working.cfg.inputs[i.val].function)
         ++ (List.finRange 8).flatMap (fun i =>
           bEnum [OutputSource.user, .faultAny, .lineRun, .safeHold, .stopped, .exuLamp, .lfnLamp, .washBusy, .drawerFree,
             .plateReady, .sort 0, .sort 1, .sort 2, .sort 3, .disabled] s.rss.working.cfg.outputs[i.val].source
           ++ bBool s.lio.outputs[i.val].driven)
         ++ [DriveChannel.intakeRollers, .transport, .brushes, .pump, .heater, .elevator, .outfeed, .conveyor].flatMap
           (fun c => match driveState c s with
             | .off => [1#8, 0#8, 0#8]
             | .fault => [3#8, 0#8, 0#8]
             | .on .none => [2#8, 0#8, 0#8]
             | .on (.value n) => [2#8] ++ b2 n
             | .on (.phase (.travel _) level) => [2#8, 1#8] ++ b1 level.val
             | .on (.phase .pick level) => [2#8, 2#8] ++ b1 level.val
             | .on (.phase .place level) => [2#8, 3#8] ++ b1 level.val)
         ++ [LampChannel.back, .main, .uva, .uvc].flatMap (fun c => match lampLevel c s with
           | none => [1#8, 0#8]
           | some n => [2#8] ++ b1 n)))
  ∧ (∀ (s : State) (f : Flag), (faultFields s).length = 107
       ∧ (faultFields s)[2 + 3 * f.place]? = some (if isSet f s then 1#8 else 0#8)
       ∧ (faultFields s)[3 + 3 * f.place]? = some (if flagHas s.flt.masks f then 1#8 else 0#8)
       ∧ (faultFields s)[4 + 3 * f.place]? = some (match flagClass f with
           | .line => 1#8
           | .station => 2#8
           | .warning => 3#8))
  ∧ (∀ (tag : Byte) (s : State), Servable (.frame ⟨36#8, tag, []⟩) s →
       exec (.queueRead tag []) s =
         .next (replied 36#8 tag
           ⟨.ok, [BitVec.ofNat 8 s.ptb.queue.length]
             ++ s.ptb.queue.flatMap (fun k => [BitVec.ofNat 8 (k.val + 1)] ++ b2 (plateIdAt s k))
             ++ (match s.ptb.lastUnmatched with
               | none => [255#8, 255#8]
               | some tagRead => b2 tagRead)⟩ s))

/-- R29: RECIPE_READ of 0 answers OK with the count of occupied slots and, slot by slot in ascending order, the number
and name of each; of 1 to 24 it answers OK with every field of the slot's recipe, or NOT_FOUND when the slot is empty;
above 24 it is refused BAD_FIELD. It changes nothing. That a name has 16 bytes in the list too, and that the bytes past a
short name's end are 0, is the model's choice (DESIGN CHOICE, log 26). -/
def Obligations.RecipeRead : Prop :=
  ∀ (tag n : Byte) (s : State), Servable (.frame ⟨49#8, tag, [n]⟩) s →
    (n.toNat = 0 → Answers (.recipeRead tag [n]) ⟨49#8, tag, [n]⟩
      ⟨.ok, [BitVec.ofNat 8 ((List.finRange 24).filter (fun i => (recipeAt s i).isSome)).length]
        ++ (List.finRange 24).flatMap (fun i => match recipeAt s i with
            | none => []
            | some r => [BitVec.ofNat 8 (i.val + 1)] ++ (r.name ++ List.replicate 16 0#8).take 16)⟩ s)
    ∧ (∀ i : Fin 24, n.toNat = i.val + 1 →
        (recipeAt s i = none → Answers (.recipeRead tag [n]) ⟨49#8, tag, [n]⟩ ⟨.notFound, []⟩ s)
        ∧ (∀ r, recipeAt s i = some r → Answers (.recipeRead tag [n]) ⟨49#8, tag, [n]⟩
            ⟨.ok, [n] ++ (r.name ++ List.replicate 16 0#8).take 16 ++ encodeProcess r.process⟩ s))
    ∧ (24 < n.toNat → Answers (.recipeRead tag [n]) ⟨49#8, tag, [n]⟩ ⟨.badField, []⟩ s)

/-! ### Plate requests (R12 to R19, R23 to R25) -/

/-- R13, R14: PLATE_ADD. The refusals in their order; an accepted order makes a QUEUED record with the values of R3 to
R7 in the lowest-numbered FREE slot and its entry at the queue's tail. -/
def Obligations.PlateAdd : Prop :=
  ∀ (tag : Byte) (o : PlateOrder) (s : State),
    o.plateId < 65536 → o.recipeNo < 256 → o.width < 65536 → o.length < 65536 → o.thickness < 65536 → o.relief < 65536 →
    o.coverage < 256 → o.sort < 256 → Servable (.frame ⟨32#8, tag, encodeOrder o⟩) s →
    let inRange := 1 ≤ o.plateId ∧ o.plateId ≤ 65534 ∧ 1 ≤ o.recipeNo ∧ o.recipeNo ≤ 24 ∧ 200 ≤ o.width ∧ o.width ≤ 1320
      ∧ 200 ≤ o.length ∧ o.length ≤ 2032 ∧ 760 ≤ o.thickness ∧ o.thickness ≤ 6350 ∧ 200 ≤ o.relief ∧ o.relief ≤ 4000
      ∧ o.relief < o.thickness ∧ (o.sort ≤ 15 ∨ o.sort = 255)
    let answers (st : Status) := Answers (.plateAdd tag (encodeOrder o)) ⟨32#8, tag, encodeOrder o⟩ ⟨st, []⟩ s
    (¬ inRange → answers .badField)
    ∧ (inRange → recipeNumbered s o.recipeNo = none → answers .notFound)
    ∧ ∀ recipe, inRange → recipeNumbered s o.recipeNo = some recipe →
      (∀ k p, plateAt s k = some p → p.plateId = o.plateId → answers .duplicateId)
      ∧ ((∀ k p, plateAt s k = some p → p.plateId ≠ o.plateId) →
        (16 ≤ s.ptb.queue.length → answers .queueFull)
        ∧ (s.ptb.queue.length < 16 → (∀ k, plateAt s k ≠ none) → answers .tableFull)
        ∧ (∀ k, s.ptb.queue.length < 16 → plateAt s k = none → (∀ j, j < k → plateAt s j ≠ none) →
          let fresh : RunResult := ⟨0, 0, 0, .notRun, true⟩
          let r : PlateRecord :=
            { plateId := o.plateId, state := .queued, recipeNo := o.recipeNo, working := recipe.process, width := o.width,
              length := o.length, thickness := o.thickness, relief := o.relief, coverage := min o.coverage 100,
              sortCode := if o.sort = 255 then none else some o.sort, results := ⟨fresh, fresh, fresh, fresh⟩,
              interruptions := 0, notices := [], moreNotices := false, intakePosition := none, held := none,
              washout := none, drawer := none, dry := none, outcome := none }
          exec (.plateAdd tag (encodeOrder o)) s =
            .next (replied 32#8 tag
              (if 100 < o.coverage then ⟨.clamped, encodePlate k r⟩ else ⟨.ok, [BitVec.ofNat 8 (k.val + 1)]⟩)
              { s with ptb := { s.ptb with plates := s.ptb.plates.set k.val (some r) k.isLt
                                           queue := s.ptb.queue ++ [k] } })))

/-- R12, R195: what a plate selector of three bytes names, when no two records carry one plate id (R2): a slot in 1 to
40 that is not FREE, or the slot of the record with the plate id. R12, in PLATE_READ, PLATE_CANCEL, QUEUE_MOVE,
PLATE_EJECT and PLATE_RETIRE: a selector out of range is refused BAD_FIELD, one that names no record NOT_FOUND, and
nothing changes. -/
def Obligations.PlateSelectors : Prop :=
  (∀ (how hi lo : Byte) (s : State), TableLawful s →
     ((¬ (how = 1#8 ∧ 1 ≤ hi.toNat * 256 + lo.toNat ∧ hi.toNat * 256 + lo.toNat ≤ 40)
         ∧ ¬ (how = 2#8 ∧ 1 ≤ hi.toNat * 256 + lo.toNat ∧ hi.toNat * 256 + lo.toNat ≤ 65534)) ↔
       selectorOf how hi lo = none)
     ∧ (how = 1#8 → ∀ k : Slot, selected how hi lo s = some k ↔ hi.toNat * 256 + lo.toNat = k.val + 1 ∧ plateAt s k ≠ none)
     ∧ (how = 2#8 → 1 ≤ hi.toNat * 256 + lo.toNat → hi.toNat * 256 + lo.toNat ≤ 65534 →
       ∀ k : Slot, selected how hi lo s = some k ↔ ∃ r, plateAt s k = some r ∧ r.plateId = hi.toNat * 256 + lo.toNat))
  ∧ (∀ (tag how hi lo : Byte) (s : State),
       ∀ c ∈ [Instr.plateRead tag [how, hi, lo], .plateCancel tag [how, hi, lo], .queueMove tag [how, hi, lo],
           .plateEject tag [how, hi, lo], .plateRetire tag [how, hi, lo]],
         ∀ f, requestFrame c = some f → Servable (.frame f) s →
           (selectorOf how hi lo = none → Answers c f ⟨.badField, []⟩ s)
           ∧ (selectorOf how hi lo ≠ none → selected how hi lo s = none → Answers c f ⟨.notFound, []⟩ s))

/-- R15, R195: PLATE_READ answers OK with the record in 114 bytes and changes nothing. R18, R19, R23: PLATE_CANCEL and
QUEUE_MOVE of a QUEUED record, PLATE_RETIRE of a closed one; in another state each is refused WRONG_STATE. A cancel
that empties the queue reports QUEUE_EMPTY. -/
def Obligations.PlateReadCancelMoveRetire : Prop :=
  (∀ (tag how hi lo : Byte) (k : Slot) (r : PlateRecord) (s : State), Servable (.frame ⟨33#8, tag, [how, hi, lo]⟩) s →
     selected how hi lo s = some k → plateAt s k = some r →
     Answers (.plateRead tag [how, hi, lo]) ⟨33#8, tag, [how, hi, lo]⟩ ⟨.ok, encodePlate k r⟩ s
     ∧ (encodePlate k r).length = 114)
  ∧ (∀ (tag how hi lo : Byte) (k : Slot) (r : PlateRecord) (s : State),
       selected how hi lo s = some k → plateAt s k = some r →
       (Servable (.frame ⟨35#8, tag, [how, hi, lo]⟩) s →
         (r.state ≠ .queued → Answers (.plateCancel tag [how, hi, lo]) ⟨35#8, tag, [how, hi, lo]⟩ ⟨.wrongState, []⟩ s)
         ∧ (r.state = .queued →
           let t : State := { s with ptb := { s.ptb with plates := s.ptb.plates.set k.val none k.isLt
                                                         queue := s.ptb.queue.filter (· ≠ k) } }
           exec (.plateCancel tag [how, hi, lo]) s =
             .next (replied 35#8 tag ⟨.ok, []⟩
               (if s.ptb.queue.filter (· ≠ k) = [] then raiseAttn .queueEmpty t else t))))
       ∧ (Servable (.frame ⟨37#8, tag, [how, hi, lo]⟩) s →
         (r.state ≠ .queued → Answers (.queueMove tag [how, hi, lo]) ⟨37#8, tag, [how, hi, lo]⟩ ⟨.wrongState, []⟩ s)
         ∧ (r.state = .queued → k ∈ s.ptb.queue → exec (.queueMove tag [how, hi, lo]) s =
             .next (replied 37#8 tag ⟨.ok, []⟩
               { s with ptb := { s.ptb with queue := k :: s.ptb.queue.filter (· ≠ k) } })))
       ∧ (Servable (.frame ⟨40#8, tag, [how, hi, lo]⟩) s →
         (r.state ≠ .done → r.state ≠ .scrapped →
           Answers (.plateRetire tag [how, hi, lo]) ⟨40#8, tag, [how, hi, lo]⟩ ⟨.wrongState, []⟩ s)
         ∧ (r.state = .done ∨ r.state = .scrapped → exec (.plateRetire tag [how, hi, lo]) s =
             .next (replied 40#8 tag ⟨.ok, encodePlate k r⟩
               { s with ptb := { s.ptb with plates := s.ptb.plates.set k.val none k.isLt } }))))

/-- R16, R17: PLATE_AMEND, its refusals in their order, and what an accepted one stores. -/
def Obligations.PlateAmend : Prop :=
  ∀ (tag how hi lo : Byte) (a : Amendment) (s : State),
    a.plateId.all (· < 65536) = true → a.recipeNo.all (· < 256) = true → a.width.all (· < 65536) = true →
    a.length.all (· < 65536) = true → a.thickness.all (· < 65536) = true → a.relief.all (· < 65536) = true →
    a.coverage.all (· < 256) = true → a.sort.all (· < 256) = true →
    let body := [how, hi, lo] ++ amendBody a
    Servable (.frame ⟨34#8, tag, body⟩) s →
    let answers (st : Status) := Answers (.plateAmend tag body) ⟨34#8, tag, body⟩ ⟨st, []⟩ s
    let inRange := (∀ n, a.plateId = some n → 1 ≤ n ∧ n ≤ 65534) ∧ (∀ n, a.recipeNo = some n → 1 ≤ n ∧ n ≤ 24)
      ∧ (∀ n, a.width = some n → 200 ≤ n ∧ n ≤ 1320) ∧ (∀ n, a.length = some n → 200 ≤ n ∧ n ≤ 2032)
      ∧ (∀ n, a.thickness = some n → 760 ≤ n ∧ n ≤ 6350) ∧ (∀ n, a.relief = some n → 200 ≤ n ∧ n ≤ 4000)
      ∧ (∀ n, a.sort = some n → n ≤ 15 ∨ n = 255)
    (¬ inRange → answers .badField)
    ∧ (inRange → selectorOf how hi lo = none → answers .badField)
    ∧ (inRange → selectorOf how hi lo ≠ none → selected how hi lo s = none → answers .notFound)
    ∧ ∀ (k : Slot) (r : PlateRecord), inRange → selected how hi lo s = some k → plateAt s k = some r →
      (r.state ≠ .queued → answers .wrongState)
      ∧ (r.state = .queued →
        (a.thickness.getD r.thickness ≤ a.relief.getD r.relief → answers .badField)
        ∧ (a.relief.getD r.relief < a.thickness.getD r.thickness →
          (∀ n, a.recipeNo = some n → recipeNumbered s n = none → answers .notFound)
          ∧ ((∀ n, a.recipeNo = some n → recipeNumbered s n ≠ none) →
            (∀ n, a.plateId = some n → (∃ j, slotOfId s n = some j ∧ j ≠ k) → answers .duplicateId)
            ∧ ((∀ n, a.plateId = some n → ∀ j, slotOfId s n = some j → j = k) →
              let r2 : PlateRecord := { r with
                plateId := a.plateId.getD r.plateId
                recipeNo := a.recipeNo.getD r.recipeNo
                working := (a.recipeNo.bind (fun n => (recipeNumbered s n).map (·.process))).getD r.working
                width := a.width.getD r.width
                length := a.length.getD r.length
                thickness := a.thickness.getD r.thickness
                relief := a.relief.getD r.relief
                coverage := (a.coverage.map (min 100)).getD r.coverage
                sortCode := match a.sort with
                  | none => r.sortCode
                  | some n => if n = 255 then none else some n }
              exec (.plateAmend tag body) s =
                .next (replied 34#8 tag
                  (if 100 < a.coverage.getD 0 then ⟨.clamped, encodePlate k r2⟩ else ⟨.ok, []⟩)
                  { s with ptb := { s.ptb with plates := s.ptb.plates.set k.val (some r2) k.isLt } })))))

/-- R25, R10, R82, R136, R138: PLATE_EJECT of a HELD record closes it SCRAPPED and reports PLATE_CLOSED; its station
loses the plate and waits in CLEAR_WAIT while its presence sensor is active. A record that is not HELD is refused. -/
def Obligations.PlateEject : Prop :=
  ∀ (tag how hi lo : Byte) (k : Slot) (r : PlateRecord) (s : State), Servable (.frame ⟨39#8, tag, [how, hi, lo]⟩) s →
    selected how hi lo s = some k → plateAt s k = some r →
    (r.state ≠ .held → Answers (.plateEject tag [how, hi, lo]) ⟨39#8, tag, [how, hi, lo]⟩ ⟨.wrongState, []⟩ s)
    ∧ (∀ reason, r.state = .held → r.held = some (.exu, reason) →
      ∃ t, exec (.plateEject tag [how, hi, lo]) s = .next t
        ∧ t.ptb.plates = s.ptb.plates.set k.val
            (some { r with state := .scrapped, held := none, outcome := some .scrapped }) k.isLt
        ∧ t.ptb.queue = s.ptb.queue ∧ t.ptb.lastUnmatched = s.ptb.lastUnmatched
        ∧ attnHas t.lnk.attnPending .plateClosed = true ∧ t.lnk.tx = s.lnk.tx ++ [⟨39#8, tag, [0#8]⟩]
        ∧ t.exu.plate = none ∧ t.exu.state = (if inputActive .exuPresent s then .clearWait else .empty)
        ∧ (∀ c run ending, c = .back ∨ c = .main → channelAt s c = .ended run ending → channelAt t c = .idle)
        ∧ channelAt t .uva = channelAt s .uva ∧ channelAt t .uvc = channelAt s .uvc
        ∧ driveIsOn .intakeRollers t = false
        ∧ t.rss = s.rss ∧ t.wou = s.wou ∧ t.dry = s.dry ∧ t.lfn = s.lfn ∧ t.trc = s.trc ∧ t.flt = s.flt
        ∧ t.lio.lamps = s.lio.lamps)
    ∧ (∀ reason, r.state = .held → r.held = some (.lfn, reason) →
      ∃ t, exec (.plateEject tag [how, hi, lo]) s = .next t
        ∧ (∃ p, plateAt t k = some p ∧ p.state = .scrapped ∧ p.held = none ∧ p.outcome = some .scrapped
            ∧ p.plateId = r.plateId ∧ p.notices = r.notices)
        ∧ attnHas t.lnk.attnPending .plateClosed = true ∧ t.lnk.tx = s.lnk.tx ++ [⟨39#8, tag, [0#8]⟩]
        ∧ t.lfn.plate = none ∧ t.lfn.state = (if inputActive .lfnPresent s then .clearWait else .empty)
        ∧ t.lfn.uva = ⟨.waiting, false⟩ ∧ t.lfn.uvc = ⟨.waiting, false⟩ ∧ t.lfn.tagRead = none
        ∧ channelAt t .uva = .idle ∧ channelAt t .uvc = .idle
        ∧ t.ptb.queue = s.ptb.queue ∧ t.rss.working = s.rss.working ∧ t.wou = s.wou ∧ t.dry = s.dry ∧ t.exu = s.exu
        ∧ t.flt.lineState = s.flt.lineState)

/-- R24, R80, R81, R135: PLATE_RESUME in a line state other than RUN, accepted: the record leaves HELD for EXPOSING
with its continuation pending, or, held for ORDER_MISMATCH at the finisher with neither run begun, for FINISHING with
the station RUNNING. Its refusals: the extension and the selector, a record that is not HELD, a LOAD_TIMEOUT hold, and
a LAMP_FAIL hold whose lamp-failure flag is set (at the exposure unit, and at the finisher that of the UVA channel).
R55, R81, R47, R168: an accepted resume in RUN of a plate held at the exposure unit for UNDERDOSE, the lid closed, no
inhibit and no lamp-failure flag: the ended run goes on, its cap raised by the extension's share of N_nom, its dose,
samples and level kept, in a new segment with the lamp ON at the run's level. -/
def Obligations.PlateResume : Prop :=
  (∀ (tag how hi lo x : Byte) (s : State), Servable (.frame ⟨38#8, tag, [how, hi, lo, x]⟩) s →
     let answers (st : Status) := Answers (.plateResume tag [how, hi, lo, x]) ⟨38#8, tag, [how, hi, lo, x]⟩ ⟨st, []⟩ s
     (x.toNat < 10 ∨ 200 < x.toNat ∨ selectorOf how hi lo = none → answers .badField)
     ∧ (10 ≤ x.toNat → x.toNat ≤ 200 → selectorOf how hi lo ≠ none → selected how hi lo s = none → answers .notFound)
     ∧ ∀ (k : Slot) (r : PlateRecord), 10 ≤ x.toNat → x.toNat ≤ 200 → selected how hi lo s = some k →
       plateAt s k = some r →
       (r.state ≠ .held → answers .wrongState)
       ∧ (r.state = .held → r.held = some (.exu, .loadTimeout) → answers .wrongState)
       ∧ (∀ st, r.state = .held → r.held = some (.exu, .lampFail) → s.exu.substage = some st →
           isSet (.lampFail st.channel) s = true → answers .wrongState)
       ∧ (r.state = .held → r.held = some (.lfn, .lampFail) → s.lfn.uva.status = .failed →
           isSet (.lampFail .uva) s = true → answers .wrongState)
       ∧ (r.state = .held → s.flt.lineState ≠ .run →
           (r.held = some (.exu, .underdose)
             ∨ (r.held = some (.exu, .lampFail) ∧ ∃ st, s.exu.substage = some st ∧ isSet (.lampFail st.channel) s = false)) →
           ∃ reason, r.held = some (.exu, reason) ∧ exec (.plateResume tag [how, hi, lo, x]) s =
             .next (replied 38#8 tag ⟨.ok, []⟩ { s with
               ptb := { s.ptb with plates := s.ptb.plates.set k.val (some { r with state := .exposing, held := none }) k.isLt }
               exu := { s.exu with state := .exposing, paused := true, contPending := true, extension := x.toNat,
                                   resumeReason := reason } }))
       ∧ (r.state = .held → s.flt.lineState ≠ .run → r.held = some (.lfn, .orderMismatch) →
           s.lfn.uva = ⟨.waiting, false⟩ → s.lfn.uvc = ⟨.waiting, false⟩ →
           exec (.plateResume tag [how, hi, lo, x]) s =
             .next (replied 38#8 tag ⟨.ok, []⟩ { s with
               ptb := { s.ptb with plates := s.ptb.plates.set k.val (some { r with state := .finishing, held := none }) k.isLt }
               lfn := { s.lfn with state := .running, extension := x.toNat, resumeReason := .orderMismatch } })))
  ∧ (∀ (tag how hi lo x : Byte) (k : Slot) (r : PlateRecord) (st : Substage) (run : RunRecord) (s : State),
       Servable (.frame ⟨38#8, tag, [how, hi, lo, x]⟩) s → 10 ≤ x.toNat → x.toNat ≤ 200 → selected how hi lo s = some k →
       plateAt s k = some r → r.state = .held → r.held = some (.exu, .underdose) → s.flt.lineState = .run →
       s.exu.plate = some k → s.exu.substage = some st → channelAt s st.channel = .ended run .underdose → run.slot = k →
       inhibitActive s = false → inputActive .exuLid s = false → isSet (.lampFail .back) s = false →
       isSet (.lampFail .main) s = false →
       ∃ t run2, exec (.plateResume tag [how, hi, lo, x]) s = .next t
         ∧ channelAt t st.channel = .integrating run2
         ∧ run2 = { run with nCap := run.nCap + run.nNom * x.toNat / 100, segment := min 255 (run.segment + 1),
                             segSamples := 0, dark := 0, windowCount := 0, windowSum := 0, windowIndex := 1,
                             recording := run2.recording }
         ∧ lampLevel st.channel t = some run.level ∧ t.exu.state = .exposing ∧ t.exu.paused = false
         ∧ t.exu.contPending = false ∧ plateState t k = some .exposing
         ∧ (plateAt t k).map (fun p => (p.results.get st.channel).outcome) = some .notRun
         ∧ t.lnk.tx = s.lnk.tx ++ [⟨38#8, tag, [0#8]⟩]
         ∧ t.ptb.queue = s.ptb.queue ∧ t.rss = s.rss ∧ t.wou = s.wou ∧ t.dry = s.dry ∧ t.lfn = s.lfn ∧ t.trc = s.trc
         ∧ t.lio.drives = s.lio.drives ∧ t.flt = s.flt ∧ t.din.lampOn = s.din.lampOn ∧ t.din.trace = s.din.trace)

/-! ### Settings (R27, R28, R30, R31 to R36, R125) -/

/-- R27, R28: RECIPE_WRITE of a recipe with a printable name of at most 16 characters: the targets are refused out of
range, the other fields are clamped, and the slot holds the recipe. R30: RECIPE_DELETE empties an occupied slot and
sets the unsaved-edits mark; a number outside 1 to 24 is refused BAD_FIELD and an empty slot NOT_FOUND. The bytes past a
short name's end are 0 in the CLAMPED reply by the model's choice (DESIGN CHOICE, log 26). -/
def Obligations.RecipeWriteAndDelete : Prop :=
  (∀ (tag : Byte) (i : Fin 24) (r : Recipe) (s : State),
     r.name.length ≤ 16 → (∀ b ∈ r.name, 32 ≤ b.toNat ∧ b.toNat ≤ 126) →
     (∀ lp ∈ [r.process.back, r.process.main, r.process.uva, r.process.uvc],
       lp.target < 65536 ∧ lp.level < 256 ∧ lp.eSet < 65536) →
     r.process.exposureStretch < 65536 → r.process.vNom < 65536 → r.process.dryTime < 65536 →
     r.process.finisherStretch < 65536 → Servable (.frame ⟨48#8, tag, encodeRecipe i r⟩) s →
     let inRange := r.process.back.target ≤ 60000 ∧ 1 ≤ r.process.main.target ∧ r.process.main.target ≤ 60000
       ∧ r.process.uva.target ≤ 60000 ∧ r.process.uvc.target ≤ 60000
     let level (lp : LampProcess) : LampProcess := { lp with level := max 10 (min lp.level 100) }
     let stored : Recipe := { r with process := { r.process with
       back := level r.process.back
       main := level r.process.main
       exposureStretch := max 100 (min r.process.exposureStretch 300)
       vNom := max 100 (min r.process.vNom 2000)
       dryTime := max 10 (min r.process.dryTime 300)
       uva := level r.process.uva
       uvc := level r.process.uvc
       finisherStretch := max 100 (min r.process.finisherStretch 300) } }
     (¬ inRange → Answers (.recipeWrite tag (encodeRecipe i r)) ⟨48#8, tag, encodeRecipe i r⟩ ⟨.badField, []⟩ s)
     ∧ (inRange → exec (.recipeWrite tag (encodeRecipe i r)) s =
       .next (replied 48#8 tag (if stored = r then ⟨.ok, []⟩ else ⟨.clamped, encodeRecipe i stored⟩)
         { s with rss := { s.rss with
           working := { s.rss.working with recipes := s.rss.working.recipes.set i.val (some stored) i.isLt }
           unsaved := true } })))
  ∧ (∀ (tag n : Byte) (s : State), Servable (.frame ⟨50#8, tag, [n]⟩) s →
       (n.toNat < 1 ∨ 24 < n.toNat → Answers (.recipeDelete tag [n]) ⟨50#8, tag, [n]⟩ ⟨.badField, []⟩ s)
       ∧ ∀ i : Fin 24, n.toNat = i.val + 1 →
         (recipeAt s i = none → Answers (.recipeDelete tag [n]) ⟨50#8, tag, [n]⟩ ⟨.notFound, []⟩ s)
         ∧ (recipeAt s i ≠ none → exec (.recipeDelete tag [n]) s =
           .next (replied 50#8 tag ⟨.ok, []⟩ { s with rss := { s.rss with
             working := { s.rss.working with recipes := s.rss.working.recipes.set i.val none i.isLt }
             unsaved := true } })))

/-- R33, R59, R31, R32: CAL_WRITE. A write whose groups are out of range is refused BAD_FIELD, one barred by the
transport list or by a lamp that is ON WRONG_STATE; an accepted one stores each carried group, clamped, and takes a
replaced lamp's hours away. -/
def Obligations.CalWrite : Prop :=
  ∀ (tag p : Byte) (rest : List Byte) (g : CalGroups) (s : State),
    parseCal p rest = g → calFits (p :: rest) = true → (p :: rest).length ≤ 298 →
    Servable (.frame ⟨51#8, tag, p :: rest⟩) s →
    let answers (st : Status) := Answers (.calWrite tag (p :: rest)) ⟨51#8, tag, p :: rest⟩ ⟨st, []⟩ s
    let lampOk (x : LampCal × Byte) := 1 ≤ x.1.gain ∧ 1 ≤ x.1.eNom ∧ x.2.toNat ≤ 1
    let washOk (w : WashCal) := 600 ≤ w.brushLength ∧ w.brushLength ≤ 2000 ∧ 100 ≤ w.rinseLength ∧ w.rinseLength ≤ 800
      ∧ 40 ≤ w.bathVolume ∧ w.bathVolume ≤ 400 ∧ 5000 ≤ w.lambdaRef ∧ w.lambdaRef ≤ 30000 ∧ 1 ≤ w.lambdaRepl
      ∧ w.lambdaRepl < w.lambdaMax ∧ w.lambdaMax < w.lambdaRef
    let inRange := 1 ≤ p.toNat ∧ p.toNat < 64 ∧ (∀ c x, g.lamps.get c = some x → lampOk x)
      ∧ (∀ w, g.wash = some w → washOk w)
    let barred := (∃ w, g.wash = some w ∧ s.wou.list ≠ []
        ∧ (w.brushLength ≠ s.rss.working.cal.wash.brushLength ∨ w.rinseLength ≠ s.rss.working.cal.wash.rinseLength))
      ∨ (∃ c x, g.lamps.get c = some x ∧ x.2 = 1#8 ∧ lampIsOn c s = true)
    (¬ inRange → answers .badField)
    ∧ (inRange → barred → answers .wrongState)
    ∧ (inRange → ¬ barred → ∃ t, exec (.calWrite tag (p :: rest)) s = .next t
      ∧ t.rss.unsaved = true ∧ t.rss.working.recipes = s.rss.working.recipes ∧ t.rss.working.cfg = s.rss.working.cfg
      ∧ (∀ c x, g.lamps.get c = some x →
          t.rss.working.cal.lamps.get c = { x.1 with ratedLife := max 100 (min x.1.ratedLife 20000) })
      ∧ (∀ c, g.lamps.get c = none → t.rss.working.cal.lamps.get c = s.rss.working.cal.lamps.get c)
      ∧ (∀ w, g.wash = some w → t.rss.working.cal.wash = { w with
          exchange := max 5 (min w.exchange 50), pumpRate := max 5 (min w.pumpRate 60),
          speedBand := min w.speedBand 20, tempSetpoint := max 20 (min w.tempSetpoint 40) })
      ∧ (g.wash = none → t.rss.working.cal.wash = s.rss.working.cal.wash ∧ t.wou = s.wou ∧ t.ptb = s.ptb ∧ t.exu = s.exu)
      ∧ (∀ n, g.dryer = some n → t.rss.working.cal.dryerSetpoint = max 40 (min n 70)
          ∧ (driveIsOn .heater s = true → driveState .heater t = .on (.value (max 40 (min n 70)))))
      ∧ (g.dryer = none → t.rss.working.cal.dryerSetpoint = s.rss.working.cal.dryerSetpoint)
      ∧ (∀ c x, g.lamps.get c = some x → x.2 = 1#8 → t.din.lampOn.get c = 0 ∧ t.din.carry.get c = 0)
      ∧ (∀ c, (∀ x, g.lamps.get c = some x → x.2 ≠ 1#8) →
          t.din.lampOn.get c = s.din.lampOn.get c ∧ t.din.carry.get c = s.din.carry.get c)
      ∧ t.din.channels = s.din.channels ∧ t.lfn = s.lfn ∧ t.trc = s.trc ∧ t.lio.lamps = s.lio.lamps
      ∧ t.rss.bankA = s.rss.bankA ∧ t.rss.bankB = s.rss.bankB ∧ t.flt.lineState = s.flt.lineState
      ∧ t.ptb.queue = s.ptb.queue)

/-- R35, R36, R161: CONFIG_WRITE. A write whose groups are out of range, or that leaves a record which fails the checks
of R35, is refused; an accepted one stores the record and applies it: a carried input line follows its raw level at
once unless its function and invert stand as they were, which changes no state (log 24); a carried output line takes its
wanted state, a change starting its hold (R163); a watchdog period of 0 stops the timer, an item newly enabled and pending sets
the ATTENTION mark. R35, R195: how the bytes of a line group are read, and which groups are in range. R35: what the input,
output, exit, watchdog and attention groups store, lines not carried being left, and the two checks on the whole record:
line 1 carries INHIBIT with debounce 10 ms, and no function but NONE has two lines. -/
def Obligations.ConfigWrite : Prop :=
  (∀ (tag p : Byte) (rest : List Byte) (g : ConfigGroups) (s : State),
     parseConfig p rest = g → configFits (p :: rest) = true → (p :: rest).length ≤ 298 →
     Servable (.frame ⟨53#8, tag, p :: rest⟩) s →
     let accepted := configInRange p g = true ∧ configConsistent (storeConfig g s.rss.working.cfg) = true
     (¬ accepted → Answers (.configWrite tag (p :: rest)) ⟨53#8, tag, p :: rest⟩ ⟨.badField, []⟩ s)
     ∧ (accepted → ∃ t, exec (.configWrite tag (p :: rest)) s = .next t
       ∧ t.rss.unsaved = true ∧ t.rss.working = { s.rss.working with cfg := storeConfig g s.rss.working.cfg }
       ∧ t.rss.bankA = s.rss.bankA ∧ t.rss.bankB = s.rss.bankB
       ∧ (∀ i ∈ carriedInputs g, inputAt t i = ⟨(inputAt s i).raw,
           (if (inputCfg t i).function = (inputCfg s i).function ∧ (inputCfg t i).invert = (inputCfg s i).invert
             then (inputAt s i).active else (inputAt s i).raw != (inputCfg t i).invert), none⟩)
       ∧ (∀ i, i ∉ carriedInputs g → inputAt t i = inputAt s i)
       ∧ (g.watchdog = some 0 → t.lnk.watchdog = none) ∧ (g.watchdog ≠ some 0 → t.lnk.watchdog = s.lnk.watchdog)
       ∧ (∀ a, attnHas t.rss.working.cfg.attention a = true → attnHas s.rss.working.cfg.attention a = false →
           attnHas s.lnk.attnPending a = true → t.lnk.attnMark = true)
       ∧ (g.inputs = none → t.ptb = s.ptb ∧ t.din = s.din ∧ t.exu = s.exu ∧ t.wou = s.wou ∧ t.dry = s.dry ∧ t.lfn = s.lfn
           ∧ t.trc = s.trc ∧ t.flt = s.flt ∧ t.lio.drives = s.lio.drives ∧ t.lio.lamps = s.lio.lamps
           ∧ (g.outputs = none → t.lio = s.lio)
           ∧ (s.flt.lineState ≠ .init → ∀ i ∈ carriedOutputs g, outputAt t i = ⟨(outputAt s i).user,
               wantedState s (outputCfg t i) (outputAt s i).user,
               (if wantedState s (outputCfg t i) (outputAt s i).user = (outputAt s i).driven ∨ (outputCfg t i).minPulse = 0
                 then none else some 0)⟩)
           ∧ (∀ i, i ∉ carriedOutputs g → outputAt t i = outputAt s i))))
  ∧ (∀ (g : ConfigGroups) (cfg : LineConfig),
       (∀ x mode pushFirst, g.exit = some x → x.mode = some mode → x.pushFirst = some pushFirst →
         (storeConfig g cfg).exit = ⟨mode, pushFirst, min x.setupDelay 5000, max 2 (min x.timedDwell 60),
           max 10 (min x.handoffTimeout 600)⟩)
       ∧ (g.exit = none → (storeConfig g cfg).exit = cfg.exit)
       ∧ (∀ n, g.watchdog = some n → (storeConfig g cfg).watchdog = if n = 0 then 0 else max 10 (min n 600))
       ∧ (g.watchdog = none → (storeConfig g cfg).watchdog = cfg.watchdog)
       ∧ (∀ b : Byte, g.attention = some b → b.toNat < 64 → (storeConfig g cfg).attention = b.setWidth 6)
       ∧ (g.attention = none → (storeConfig g cfg).attention = cfg.attention)
       ∧ (configConsistent cfg = true ↔ cfg.inputs[0].function = .inhibit ∧ cfg.inputs[0].debounce = 10
           ∧ ∀ i j : Fin 12, cfg.inputs[i.val].function = cfg.inputs[j.val].function →
               cfg.inputs[i.val].function ≠ .none → i = j))
  ∧ (∀ a b c d e : Byte,
       inputGroupAt [a, b, c, d] = ⟨a.toNat,
         (if b.toNat = 0 then none else
           [InputFunction.inhibit, .exuLid, .exuPresent, .intakePresent, .lfnPresent, .exitPresent, .washExitPresent,
            .stkBusy, .stkTaken, .freshLow, .operatorTake, .none][b.toNat - 1]?),
         (if c.toNat = 0 then some false else if c.toNat = 1 then some true else none), d.toNat⟩
       ∧ outputGroupAt [a, b, c, d, e] = ⟨a.toNat,
         (if b.toNat = 0 then none else
           [OutputSource.user, .faultAny, .lineRun, .safeHold, .stopped, .exuLamp, .lfnLamp, .washBusy, .drawerFree,
            .plateReady, .sort 0, .sort 1, .sort 2, .sort 3, .disabled][b.toNat - 1]?),
         (if c.toNat = 0 then some false else if c.toNat = 1 then some true else none), d.toNat * 256 + e.toNat⟩)
  ∧ (∀ (p : Byte) (g : ConfigGroups),
       (configInRange p g = true ↔ 1 ≤ p.toNat ∧ p.toNat < 32
         ∧ (∀ l, g.inputs = some l → 1 ≤ l.length ∧ l.length ≤ 12 ∧ (l.map (·.line)).Nodup
             ∧ ∀ x ∈ l, 1 ≤ x.line ∧ x.line ≤ 12 ∧ x.function ≠ none ∧ x.invert ≠ none)
         ∧ (∀ l, g.outputs = some l → 1 ≤ l.length ∧ l.length ≤ 8 ∧ (l.map (·.line)).Nodup
             ∧ ∀ x ∈ l, 1 ≤ x.line ∧ x.line ≤ 8 ∧ x.source ≠ none ∧ x.invert ≠ none)
         ∧ (∀ x, g.exit = some x → x.mode ≠ none ∧ x.pushFirst ≠ none)
         ∧ (∀ b, g.attention = some b → b.toNat < 64))
       ∧ (configInRange p g = true → ∀ cfg : LineConfig,
         (∀ l x fn inv, g.inputs = some l → x ∈ l → x.function = some fn → x.invert = some inv →
           ∀ i : Fin 12, x.line = i.val + 1 → (storeConfig g cfg).inputs[i.val] = ⟨fn, inv, x.debounce⟩)
         ∧ (∀ i : Fin 12, (∀ l, g.inputs = some l → ∀ x ∈ l, x.line ≠ i.val + 1) →
             (storeConfig g cfg).inputs[i.val] = cfg.inputs[i.val] ∧ i ∉ carriedInputs g)
         ∧ (∀ l x src inv, g.outputs = some l → x ∈ l → x.source = some src → x.invert = some inv →
           ∀ i : Fin 8, x.line = i.val + 1 → (storeConfig g cfg).outputs[i.val] = ⟨src, inv, min x.minPulse 2000⟩)
         ∧ (∀ i : Fin 8, (∀ l, g.outputs = some l → ∀ x ∈ l, x.line ≠ i.val + 1) →
             (storeConfig g cfg).outputs[i.val] = cfg.outputs[i.val] ∧ i ∉ carriedOutputs g)))

/-- R125, R122: DRYER_SET: the setpoint is clamped to 40 to 70 and stored, and a heater that is ON carries it at once. -/
def Obligations.DryerSet : Prop :=
  ∀ (tag x : Byte) (s : State), Servable (.frame ⟨67#8, tag, [x]⟩) s → ∃ t, exec (.dryerSet tag [x]) s = .next t
    ∧ t.rss = { s.rss with
        working := { s.rss.working with cal := { s.rss.working.cal with
          dryerSetpoint := max 40 (min x.toNat 70) } }
        unsaved := true }
    ∧ (driveIsOn .heater s = true → driveState .heater t = .on (.value (max 40 (min x.toNat 70))))
    ∧ (driveIsOn .heater s = false → t.lio = s.lio) ∧ (∀ c, c ≠ .heater → driveState c t = driveState c s)
    ∧ t.lnk = repliedLink 67#8 tag
        (if 40 ≤ x.toNat ∧ x.toNat ≤ 70 then ⟨.ok, []⟩
          else ⟨.clamped, [BitVec.ofNat 8 (max 40 (min x.toNat 70))]⟩) s.lnk
    ∧ t.ptb = s.ptb ∧ t.din = s.din ∧ t.exu = s.exu ∧ t.wou = s.wou ∧ t.dry = s.dry ∧ t.lfn = s.lfn ∧ t.trc = s.trc
    ∧ t.flt = s.flt

/-! ### Intake, exposure and dose (R20, R21, R46 to R59, R69 to R77) -/

/-- R20, R21, R70, R71: INTAKE_TAG_ARRIVAL while a reading is in progress. A tag that carries the plate id of a QUEUED
record draws that plate in, wherever it stands in the queue; any other is noted and sets INTAKE_UNKNOWN, and records
and queue stand. Without a reading the tag is discarded (log 20). R73, R9: the load timer's expiry in LOAD with the
rollers ON holds the plate at the exposure unit for LOAD_TIMEOUT. The timer does not run otherwise (R71). R68, R69, R72,
R74, R83, R84: what a change of EXU_PRESENT and of INTAKE_PRESENT does: the completion of a load, with the back run started
when the line and the lid allow it; an unknown plate on the table and its clearing; the arming of the intake, and the
trigger of its reader when every condition of R69 holds. In every other state of the station the change does nothing
more. -/
def Obligations.IntakeTagsAndLoads : Prop :=
  (∀ (n : Nat) (s : State), s.powered = true → n ≤ 65534 →
     (s.exu.readInProgress = false → exec (.intakeTagArrival n) s = .next s)
     ∧ (∀ k p, s.exu.readInProgress = true → TableLawful s → n ≠ 0 → plateAt s k = some p → p.plateId = n → p.state = .queued →
       ∃ t, exec (.intakeTagArrival n) s = .next t
         ∧ t.ptb.plates = s.ptb.plates.set k.val
             (some { p with state := .loading, intakePosition := some (s.ptb.queue.idxOf k + 1) }) k.isLt
         ∧ t.ptb.queue = s.ptb.queue.filter (· ≠ k) ∧ t.ptb.lastUnmatched = s.ptb.lastUnmatched
         ∧ t.exu.state = .load ∧ t.exu.plate = some k ∧ t.exu.readInProgress = false ∧ t.exu.loadTimer = 0
         ∧ (inhibitActive s = false → inputActive .exuLid s = false → driveFaulted .intakeRollers s = false →
             driveIsOn .intakeRollers t = true)
         ∧ (t.ptb.queue = [] → attnHas t.lnk.attnPending .queueEmpty = true)
         ∧ (∀ c, c ≠ .intakeRollers → driveState c t = driveState c s)
         ∧ t.rss = s.rss ∧ t.din = s.din ∧ t.wou = s.wou ∧ t.dry = s.dry ∧ t.lfn = s.lfn ∧ t.trc = s.trc ∧ t.flt = s.flt
         ∧ t.lio.lamps = s.lio.lamps)
     ∧ (s.exu.readInProgress = true → (n = 0 ∨ ∀ k p, plateAt s k = some p → p.plateId = n → p.state ≠ .queued) →
       ∃ t, exec (.intakeTagArrival n) s = .next t
         ∧ t.ptb = { s.ptb with lastUnmatched := some n } ∧ t.flt.flags = s.flt.flags ||| flagBit .intakeUnknown
         ∧ t.exu.readInProgress = false ∧ t.exu.state = (if inputActive .exuPresent s then .clearWait else s.exu.state)
         ∧ t.rss = s.rss ∧ t.din = s.din ∧ t.wou = s.wou ∧ t.dry = s.dry ∧ t.lfn = s.lfn ∧ t.trc = s.trc
         ∧ t.lio.drives = s.lio.drives ∧ t.lio.lamps = s.lio.lamps ∧ t.flt.lineState = s.flt.lineState))
  ∧ (∀ s : State, s.powered = true →
       (s.exu.state ≠ .load ∨ driveIsOn .intakeRollers s = false → exec .loadTimerExpiry s = .next s)
       ∧ (∀ k p, s.exu.state = .load → driveIsOn .intakeRollers s = true → s.exu.plate = some k → plateAt s k = some p →
         p.state = .loading → ∃ t, exec .loadTimerExpiry s = .next t
           ∧ t.ptb.plates = s.ptb.plates.set k.val
               (some (appendNotice .loadTimeout { p with state := .held, held := some (.exu, .loadTimeout) })) k.isLt
           ∧ t.ptb.queue = s.ptb.queue ∧ isSet .loadTimeout t = true ∧ attnHas t.lnk.attnPending .plateHeld = true
           ∧ driveState .intakeRollers t = .off ∧ t.exu.state = .held ∧ t.exu.plate = some k ∧ t.exu.substage = none
           ∧ (∀ c, c ≠ .intakeRollers → driveState c t = driveState c s)
           ∧ t.rss = s.rss ∧ t.din = s.din ∧ t.wou = s.wou ∧ t.dry = s.dry ∧ t.lfn = s.lfn ∧ t.trc = s.trc
           ∧ t.lio.lamps = s.lio.lamps ∧ t.flt.lineState = s.flt.lineState))
  ∧ (∀ (i : Fin 12) (s : State),
       let mayRead := s.exu.readInProgress = false ∧ s.flt.lineState = .run ∧ isSet .storeCheck s = false
         ∧ isSet (.lampFail .back) s = false ∧ isSet (.lampFail .main) s = false ∧ isSet .loadTimeout s = false
         ∧ isSet (.driveFault .intakeRollers) s = false
       let u := flipped i s
       (Changes i .exuPresent true s →
         (s.exu.state = .empty → s.exu.readInProgress = false →
           exec (.debounceExpiry i) s = .next { u with exu := { s.exu with
             state := .clearWait, plate := none, substage := none, paused := false, contPending := false } })
         ∧ (s.exu.state = .empty → s.exu.readInProgress = true → exec (.debounceExpiry i) s = .next u)
         ∧ (s.exu.state ≠ .empty → s.exu.state ≠ .load → exec (.debounceExpiry i) s = .next u))
       ∧ (Changes i .exuPresent false s →
         (s.exu.state = .empty ∨ s.exu.state = .clearWait →
           (mayRead → s.exu.armed = true → inputActive .intakePresent s = true → exec (.debounceExpiry i) s =
             .next { u with exu := { s.exu with state := .empty, readInProgress := true, armed := false } })
           ∧ (¬ mayRead ∨ s.exu.armed = false ∨ inputActive .intakePresent s = false → exec (.debounceExpiry i) s =
             .next { u with exu := { s.exu with state := .empty } }))
         ∧ (s.exu.state ≠ .empty → s.exu.state ≠ .clearWait → exec (.debounceExpiry i) s = .next u))
       ∧ (Changes i .intakePresent true s →
         (mayRead → s.exu.state = .empty → inputActive .exuPresent s = false → exec (.debounceExpiry i) s =
           .next { u with exu := { s.exu with readInProgress := true, armed := false } })
         ∧ (¬ mayRead ∨ s.exu.state ≠ .empty ∨ inputActive .exuPresent s = true → exec (.debounceExpiry i) s =
           .next { u with exu := { s.exu with armed := true } }))
       ∧ (Changes i .intakePresent false s →
         exec (.debounceExpiry i) s = .next { u with exu := { s.exu with armed := false } }))
  ∧ (∀ (i : Fin 12) (k : Slot) (p : PlateRecord) (s : State), Changes i .exuPresent true s → s.exu.state = .load →
       s.exu.plate = some k → plateAt s k = some p → p.state = .loading →
       let starts := s.flt.lineState = .run ∧ inputActive .exuLid s = false ∧ isSet (.lampFail .back) s = false
         ∧ isSet (.lampFail .main) s = false
       ∃ t, exec (.debounceExpiry i) s = .next t ∧ driveIsOn .intakeRollers t = false
         ∧ (∀ c, c ≠ .intakeRollers → driveState c t = driveState c s) ∧ t.lio.inputs = (flipped i s).lio.inputs
         ∧ (¬ starts → t.ptb.plates = s.ptb.plates.set k.val (some { p with state := .exposing }) k.isLt
           ∧ t.exu = { s.exu with state := .exposing, substage := some .back, paused := true, contPending := false,
                                  loadTimer := 0 }
           ∧ t.din = s.din ∧ t.lio.lamps = s.lio.lamps)
         ∧ (starts → inhibitActive s = false → 0 < p.working.back.target →
           (channelAt s .back = .idle ∨ ∃ r how, channelAt s .back = .ended r how) →
           ∃ r, channelAt t .back = .integrating r ∧ r.slot = k ∧ r.target = p.working.back.target * 1000 ∧ r.segment = 1
             ∧ r.accumulator = 0 ∧ lampLevel .back t = some p.working.back.level ∧ plateState t k = some .exposing
             ∧ t.exu = { s.exu with state := .exposing, substage := some .back, paused := false, contPending := false,
                                    loadTimer := 0 }
             ∧ t.din.lampOn = s.din.lampOn)
         ∧ (∀ j, j ≠ k → plateAt t j = plateAt s j) ∧ t.ptb.queue = s.ptb.queue ∧ t.rss = s.rss ∧ t.wou = s.wou
         ∧ t.dry = s.dry ∧ t.lfn = s.lfn ∧ t.trc = s.trc ∧ t.flt = s.flt)

/-- R48 to R52, R56: a sample that ends nothing. It is converted with the offset and gain in force, integrated and
counted; a reading of a channel that is not INTEGRATING is discarded; below the 25th sample of the window nothing else
happens. -/
def Obligations.SamplesAccumulate : Prop :=
  ∀ (c : LampChannel) (raw : BitVec 12) (s : State), s.powered = true →
    ((∀ r, channelAt s c ≠ .integrating r) → exec (.sampleArrival c raw) s = .next s)
    ∧ ∀ r, channelAt s c = .integrating r →
      let e := min 65535 ((raw.toNat - (s.rss.working.cal.lamps.get c).offset) * (s.rss.working.cal.lamps.get c).gain / 1024)
      let dark := if r.segSamples + 1 ≤ 25 then r.dark else if e < 50 then r.dark + 1 else 0
      let r2 : RunRecord := { r with accumulator := min 4294967295 (r.accumulator + 2 * e)
                                     lampSamples := r.lampSamples + 1
                                     segSamples := r.segSamples + 1
                                     windowCount := r.windowCount + 1
                                     windowSum := r.windowSum + e
                                     dark := dark }
      r2.accumulator < r.target → dark < 10 → r2.lampSamples < r.nCap → r2.windowCount ≠ 25 →
        ∃ t, exec (.sampleArrival c raw) s = .next t
          ∧ t.din = { s.din with channels := s.din.channels.set c (.integrating r2) }
          ∧ (∀ p, plateAt s r.slot = some p → t.ptb.plates = s.ptb.plates.set r.slot.val
              (some { p with results := p.results.set c { p.results.get c with
                dose := r2.accumulator / 1000, samples := r2.lampSamples } }) r.slot.isLt)
          ∧ t = { s with ptb := { s.ptb with plates := t.ptb.plates }, din := t.din }

/-- R56 to R58, R61, R62: the 25th sample of a window of a run that goes on. The trace record is written while the
segment is recorded and there is room; from the second window of a segment on, with an E_set, the level is regulated on
the window's mean, and the lamp follows; the window starts anew. -/
def Obligations.WindowsRegulate : Prop :=
  ∀ (c : LampChannel) (raw : BitVec 12) (r : RunRecord) (s : State), s.powered = true →
    channelAt s c = .integrating r →
    let e := min 65535 ((raw.toNat - (s.rss.working.cal.lamps.get c).offset) * (s.rss.working.cal.lamps.get c).gain / 1024)
    let dark := if r.segSamples + 1 ≤ 25 then r.dark else if e < 50 then r.dark + 1 else 0
    let accumulator := min 4294967295 (r.accumulator + 2 * e)
    let mean := (r.windowSum + e) / 25
    let regulated := 2 ≤ r.windowIndex ∧ 0 < r.eSet
    let level := if mean = 0 then 100 else max 10 (min ((2 * r.level * r.eSet + mean) / (2 * mean)) 100)
    let weak := r.level = 100 ∧ mean < r.eSet * 9 / 10
    accumulator < r.target → dark < 10 → r.lampSamples + 1 < r.nCap → r.windowCount + 1 = 25 →
      ∃ t r2, exec (.sampleArrival c raw) s = .next t ∧ channelAt t c = .integrating r2
        ∧ r2.accumulator = accumulator ∧ r2.lampSamples = r.lampSamples + 1 ∧ r2.segSamples = r.segSamples + 1
        ∧ r2.windowCount = 0 ∧ r2.windowSum = 0 ∧ r2.windowIndex = min 65535 (r.windowIndex + 1) ∧ r2.segment = r.segment
        ∧ (regulated → r2.level = level) ∧ (¬ regulated → r2.level = r.level)
        ∧ (regulated → level ≠ r.level → lampIsOn c s = true → lampLevel c t = some level)
        ∧ (¬ regulated → t.lio.lamps = s.lio.lamps)
        ∧ (regulated → weak → r2.weakNoted = true ∧ (r.weakNoted = false → isSet .lampWeak t = true))
        ∧ (r.recording = true → s.din.trace.length < 512 → t.din.trace = s.din.trace ++
            [{ number := s.din.nextNumber, plateId := r.plateId, channel := c, segment := r.segment,
               windowIndex := r.windowIndex, count := 25, mean := mean, level := r.level, dose := accumulator / 1000 }]
            ∧ t.din.nextNumber = (s.din.nextNumber + 1) % 65536)
        ∧ (r.recording = true → 512 ≤ s.din.trace.length → t.din.trace = s.din.trace ∧ isSet .traceOverflow t = true
            ∧ t.din.traceActive = false)
        ∧ (r.recording = false → t.din.trace = s.din.trace ∧ t.din.traceActive = s.din.traceActive)
        ∧ t.exu = s.exu ∧ t.lfn = s.lfn ∧ t.wou = s.wou ∧ t.dry = s.dry ∧ t.trc = s.trc ∧ t.rss = s.rss
        ∧ t.lio.drives = s.lio.drives ∧ t.ptb.queue = s.ptb.queue ∧ t.flt.lineState = s.flt.lineState

/-- R49 to R53, R59: the sample that ends a run, by the first ending in the order COMPLETE, dark lamp, cap. R51 names the
sample that raises the lamp-on samples to N_cap; that a sample taken with them already at or above N_cap ends the run too
is the model's choice (DEDUCED, log 19). The lamp goes off, the channel is ENDED with its run record, the result is written (a dark lamp leaves NOT_RUN and sets the
lamp-failure flag), and the segment's samples join the lamp hours. -/
def Obligations.SamplesEndRuns : Prop :=
  ∀ (c : LampChannel) (raw : BitVec 12) (r : RunRecord) (p : PlateRecord) (s : State), s.powered = true →
    channelAt s c = .integrating r → plateAt s r.slot = some p →
    let e := min 65535 ((raw.toNat - (s.rss.working.cal.lamps.get c).offset) * (s.rss.working.cal.lamps.get c).gain / 1024)
    let dark := if r.segSamples + 1 ≤ 25 then r.dark else if e < 50 then r.dark + 1 else 0
    let accumulator := min 4294967295 (r.accumulator + 2 * e)
    let ending : Option RunEnding :=
      if r.target ≤ accumulator then some .complete
      else if 10 ≤ dark then some .lampFail
      else if r.nCap ≤ r.lampSamples + 1 then some .underdose
      else none
    ∀ how, ending = some how → ∃ t r2 p2, exec (.sampleArrival c raw) s = .next t
      ∧ channelAt t c = .ended r2 how ∧ r2.accumulator = accumulator ∧ r2.lampSamples = r.lampSamples + 1
      ∧ r2.slot = r.slot ∧ r2.target = r.target ∧ r2.nCap = r.nCap
      ∧ lampLevel c t = none
      ∧ plateAt t r.slot = some p2
      ∧ (p2.results.get c).dose = accumulator / 1000 ∧ (p2.results.get c).samples = r.lampSamples + 1
      ∧ (p2.results.get c).segments = r.segment
      ∧ (p2.results.get c).outcome = (match how with
          | .complete => .complete
          | .underdose => .underdose
          | .lampFail => .notRun)
      ∧ (how = .lampFail → isSet (.lampFail c) t = true)
      ∧ t.din.lampOn.get c = min 4294967295 (s.din.lampOn.get c + (s.din.carry.get c + (r.segSamples + 1)) / 5)
      ∧ t.din.carry.get c = (s.din.carry.get c + (r.segSamples + 1)) % 5
      ∧ t.rss.working = s.rss.working ∧ t.flt.lineState = s.flt.lineState ∧ t.ptb.queue = s.ptb.queue
      ∧ t.wou.lambda = s.wou.lambda ∧ t.dry.clock = s.dry.clock

/-- R46, R47: the run a station starts: what the record holds for its target, reference irradiance, nominal count and
cap, and that a target of 0 is SKIPPED without the lamp. -/
def Obligations.RunsStart : Prop :=
  ∀ (c : LampChannel) (k : Slot) (p : PlateRecord) (s : State), plateAt s k = some p →
    (channelAt s c = .idle ∨ ∃ r how, channelAt s c = .ended r how) →
    let lp := p.working.lamp c
    let eRef := if 0 < lp.eSet then lp.eSet else max 1 ((s.rss.working.cal.lamps.get c).eNom * lp.level / 100)
    let nNom := (lp.target * 1000 + 2 * eRef - 1) / (2 * eRef)
    (lp.target = 0 → (startRun c k s).2 = .skipped ∧ channelAt (startRun c k s).1 c = .idle
      ∧ (startRun c k s).1.lio = s.lio
      ∧ (plateAt (startRun c k s).1 k).map (fun q => (q.results.get c).outcome) = some .skipped)
    ∧ (0 < lp.target → lampRefused c s = false → ∃ r, (startRun c k s).2 = .started
      ∧ channelAt (startRun c k s).1 c = .integrating r ∧ lampLevel c (startRun c k s).1 = some lp.level
      ∧ r.slot = k ∧ r.plateId = p.plateId ∧ r.target = lp.target * 1000 ∧ r.eSet = lp.eSet ∧ r.level = lp.level
      ∧ r.eRef = eRef ∧ r.nNom = nNom ∧ r.nCap = nNom * p.working.stretch c / 100 ∧ r.accumulator = 0
      ∧ r.lampSamples = 0 ∧ r.segment = 1 ∧ r.windowIndex = 1)
    ∧ (0 < lp.target → lampRefused c s = true → ∃ r, (startRun c k s).2 = .refused
      ∧ channelAt (startRun c k s).1 c = .paused r ∧ r.segment = 0 ∧ r.target = lp.target * 1000
      ∧ (startRun c k s).1.lio = s.lio ∧ (startRun c k s).1.ptb = s.ptb)

/-! ### Washout (R89 to R103, R106 to R111) -/

/-- R89, R90: the loading increment of a plate in 0.01 cm³/L, and its speed: floor(v_nom × (λ_ref − λ_eff) / λ_ref),
raised to 100, and 100 at or above λ_ref. Every speed is 100 or above, and never above v_nom for a v_nom of 100 or
above. R95, R98: an evaluation of an offered plate that is EXPOSED. With any of conditions 1 to 8 unmet the plate stays
offered with the first unmet condition's code, nothing is admitted, and a failed loading check sets SOLVENT_LIMIT. R97,
R116, R79: an evaluation that passes every condition: DRY reserves the lowest-numbered FREE drawer, the plate joins the
list and becomes WASHING with its entry speed and drawer, its increment is committed, and the transport runs. With no
FREE drawer, or with reservations closed, the blocker is NO_DRAWER and nothing is admitted. -/
def Obligations.Admission : Prop :=
  ((∀ (bath : Nat) (p : PlateRecord), loadingIncrement bath p =
       p.width * p.length * p.relief * (100 - p.coverage) / 100000 / (bath * 10))
   ∧ ∀ v ref eff : Nat,
     (eff < ref → plateSpeed v ref eff = max 100 (v * (ref - eff) / ref)) ∧ (ref ≤ eff → plateSpeed v ref eff = 100)
     ∧ 100 ≤ plateSpeed v ref eff ∧ (100 ≤ v → plateSpeed v ref eff ≤ v)
     ∧ (speedClamped v ref eff = true ↔ ref ≤ eff ∨ v * (ref - eff) / ref < 100))
  ∧ (∀ (k : Slot) (p : PlateRecord) (s : State), s.wou.offered = some k → plateAt s k = some p → p.state = .exposed →
       let tailPast := ∀ e, s.wou.list.getLast? = some e → (e.length + 150) * 60000 ≤ e.position
       let flagged := isSet .washTemp s = true ∨ isSet .replenishAbort s = true ∨ isSet .solventLimit s = true
         ∨ isSet (.driveFault .transport) s = true ∨ isSet (.driveFault .brushes) s = true
       let fits := s.wou.lambda + s.wou.committed + loadingIncrement s.rss.working.cal.wash.bathVolume p
         ≤ s.rss.working.cal.wash.lambdaMax
       let v := plateSpeed p.working.vNom s.rss.working.cal.wash.lambdaRef (s.wou.lambda + s.wou.committed)
       let inBand := s.wou.list = [] ∨ (v - s.wou.speed) + (s.wou.speed - v)
         ≤ s.wou.speed * s.rss.working.cal.wash.speedBand / 100
       let c1 := s.flt.lineState = .run
       let c2 := s.wou.transport = .idle ∨ s.wou.transport = .running
       let c3 := s.wou.list.length < 3
       let c5 := s.wou.replenish = .none ∨ s.wou.replenish = .blocked
       let blocked (b : Blocker) := (evalAdmission s).wou = { s.wou with blocker := b } ∧ (evalAdmission s).ptb = s.ptb
         ∧ (evalAdmission s).dry = s.dry ∧ (evalAdmission s).exu = s.exu ∧ (evalAdmission s).lio.drives = s.lio.drives
         ∧ (isSet .solventLimit (evalAdmission s) = true ↔ isSet .solventLimit s = true ∨ ¬ fits)
         ∧ ∀ f, f ≠ .solventLimit → isSet f (evalAdmission s) = isSet f s
       (¬ c1 → blocked .lineNotRun)
       ∧ (c1 → ¬ c2 → blocked .transportStopped)
       ∧ (c1 → c2 → ¬ c3 → blocked .transportFull)
       ∧ (c1 → c2 → c3 → ¬ tailPast → blocked .gap)
       ∧ (c1 → c2 → c3 → tailPast → ¬ c5 → blocked .replenishment)
       ∧ (c1 → c2 → c3 → tailPast → c5 → flagged → blocked .flag)
       ∧ (c1 → c2 → c3 → tailPast → c5 → ¬ flagged → ¬ fits → blocked .loading)
       ∧ (c1 → c2 → c3 → tailPast → c5 → ¬ flagged → fits → ¬ inBand → blocked .speedBand))
  ∧ (∀ (k : Slot) (p : PlateRecord) (s : State), s.wou.offered = some k → plateAt s k = some p → p.state = .exposed →
       firstBlocker s p = .none →
       let inc := loadingIncrement s.rss.working.cal.wash.bathVolume p
       let v := plateSpeed p.working.vNom s.rss.working.cal.wash.lambdaRef (s.wou.lambda + s.wou.committed)
       let speed := if s.wou.list = [] then v else s.wou.speed
       ((isSet .dryerOvertemp s = true ∨ isSet (.driveFault .heater) s = true ∨ ∀ d, drawerAt s d ≠ .free) →
         evalAdmission s = { s with wou := { s.wou with blocker := .noDrawer } })
       ∧ ∀ d, isSet .dryerOvertemp s = false → isSet (.driveFault .heater) s = false → drawerAt s d = .free →
         (∀ e, e < d → drawerAt s e ≠ .free) →
         let t := evalAdmission s
         t.wou.list = s.wou.list ++ [⟨k, p.plateId, p.length, inc, 0, false, 0⟩] ∧ t.wou.committed = s.wou.committed + inc
         ∧ t.wou.lambda = s.wou.lambda ∧ t.wou.speed = speed ∧ t.wou.offered = none ∧ t.wou.blocker = .none
         ∧ t.dry.drawers = s.dry.drawers.set d.val (.reserved k p.plateId) d.isLt
         ∧ (∃ q, plateAt t k = some q ∧ q.state = .washing ∧ q.drawer = some d
             ∧ q.washout = some ⟨speed, !s.wou.list.isEmpty, inc, 0⟩
             ∧ (speedClamped p.working.vNom s.rss.working.cal.wash.lambdaRef (s.wou.lambda + s.wou.committed) = true →
                 .washSpeedClamped ∈ q.notices ∨ q.moreNotices = true))
         ∧ (∀ j, j ≠ k → plateAt t j = plateAt s j) ∧ t.ptb.queue = s.ptb.queue
         ∧ (s.exu.state = .exposed → s.exu.plate = some k →
             t.exu.plate = none ∧ t.exu.state = if inputActive .exuPresent s then .clearWait else .empty)
         ∧ (inhibitActive s = false → driveFaulted .transport s = false → driveFaulted .brushes s = false →
             s.wou.stallHold = false → t.wou.transport = .running)
         ∧ t.flt = s.flt ∧ t.din = s.din ∧ t.rss = s.rss ∧ t.lfn = s.lfn ∧ t.trc = s.trc ∧ t.lio.lamps = s.lio.lamps)

/-- R92, R99, R101: a gap mark and an end mark reached by an entry of a running transport. All plates stand moved
together so that the entry is at its mark; the gap mark of the tail evaluates admission (Admission says what an evaluation
does); the gap mark of a plate that is not the tail, and the end mark before a clear exit table, do nothing else; before an occupied one the transport stalls and every plate on it gets the notice. -/
def Obligations.GapAndEndMarks : Prop :=
  ∀ (k : Slot) (e : TransportEntry) (s : State), s.powered = true → s.wou.transport = .running → entryOf s k = some e →
    let moved (mark : Nat) := s.wou.list.map (fun x => { x with position := x.position + (mark - e.position) })
    let gapAt := (e.length + 150) * 60000
    let endAt := (s.rss.working.cal.wash.brushLength + s.rss.working.cal.wash.rinseLength) * 60000
    ((s.wou.list.getLast?).map (·.slot) ≠ some k →
      exec (.gapMark k) s = .next { s with wou := { s.wou with list := moved gapAt } })
    ∧ ((s.wou.list.getLast?).map (·.slot) = some k →
      exec (.gapMark k) s = .next (evalAdmission { s with wou := { s.wou with list := moved gapAt } }))
    ∧ ((s.wou.list.getLast?).map (·.slot) = some k → ∃ t more, exec (.gapMark k) s = .next t
      ∧ t.wou.list = moved gapAt ++ more ∧ more.length ≤ 1 ∧ (more = [] → t.wou.committed = s.wou.committed)
      ∧ t.wou.lambda = s.wou.lambda ∧ t.wou.replenish = s.wou.replenish ∧ t.rss = s.rss ∧ t.din = s.din ∧ t.lfn = s.lfn
      ∧ t.trc = s.trc ∧ t.ptb.queue = s.ptb.queue ∧ t.lio.lamps = s.lio.lamps ∧ t.flt.lineState = s.flt.lineState)
    ∧ (s.wou.exitWaiting = false → inputActive .washExitPresent s = false →
      exec (.endMark k) s = .next { s with wou := { s.wou with list := moved endAt } })
    ∧ (s.wou.exitWaiting = true ∨ inputActive .washExitPresent s = true → ∃ t, exec (.endMark k) s = .next t
      ∧ t.wou.stallHold = true ∧ t.wou.transport ≠ .running ∧ t.wou.list = moved endAt
      ∧ driveIsOn .transport t = false ∧ driveIsOn .brushes t = false ∧ isSet .transportStall t = true
      ∧ (∀ x ∈ s.wou.list, ∀ p, plateAt s x.slot = some p → ∃ q, plateAt t x.slot = some q
          ∧ (.transportStall ∈ q.notices ∨ q.moreNotices = true) ∧ q.state = p.state)
      ∧ t.wou.lambda = s.wou.lambda ∧ t.wou.committed = s.wou.committed ∧ t.rss = s.rss ∧ t.din = s.din ∧ t.lfn = s.lfn
      ∧ t.trc = s.trc ∧ t.dry = s.dry ∧ t.exu = s.exu ∧ t.ptb.queue = s.ptb.queue ∧ t.lio.lamps = s.lio.lamps)

/-- R100, R107, R40: a commit mark: the entry is committed once, its increment moves from the committed loading into λ,
a counters write is asked, and λ at or above λ_repl makes a replenishment PENDING, or BLOCKED under FRESH_LOW. An entry
already committed is left. -/
def Obligations.CommitsMoveLoading : Prop :=
  ∀ (k : Slot) (e : TransportEntry) (s : State), s.powered = true → s.wou.transport = .running → entryOf s k = some e →
    (e.committed = true → exec (.commitMark k) s = .next s)
    ∧ (e.committed = false →
      let lambda := min 65535 (s.wou.lambda + e.increment)
      ∃ t more, exec (.commitMark k) s = .next t ∧ t.wou.lambda = lambda
        ∧ t.wou.list.map (·.slot) = s.wou.list.map (·.slot) ++ more ∧ more.length ≤ 1
        ∧ (∃ e2, entryOf t k = some e2 ∧ e2.committed = true ∧ e2.increment = e.increment
            ∧ e2.position = max e.position ((s.rss.working.cal.wash.brushLength + e.length) * 60000))
        ∧ (more = [] → t.wou.committed = s.wou.committed - e.increment)
        ∧ (s.rss.countersWriting = false → s.rss.save = none → t.rss.counters = ⟨lambda, s.din.lampOn, true⟩)
        ∧ (s.rss.countersWriting = true ∨ s.rss.save ≠ none → t.rss.countersWaiting = true)
        ∧ (s.rss.working.cal.wash.lambdaRepl ≤ lambda → s.wou.replenish = .none →
            t.wou.replenish = (if inputActive .freshLow s then .blocked else .pending))
        ∧ (lambda < s.rss.working.cal.wash.lambdaRepl ∨ s.wou.replenish ≠ .none → t.wou.replenish = s.wou.replenish)
        ∧ t.rss.working = s.rss.working ∧ t.din = s.din ∧ t.lfn = s.lfn ∧ t.trc = s.trc ∧ t.ptb.queue = s.ptb.queue
        ∧ t.lio.lamps = s.lio.lamps ∧ t.flt.lineState = s.flt.lineState)

/-- R103, R143: the exit mark of the head, committed: the head leaves the list, its plate becomes WASH_EXIT with its
stall time written in whole seconds, exit table waiting is yes, and TRC raises the put. R92: a mark named for a plate
that is not on the transport, or, while the transport stands, for one short of its mark, has no effect (the model's
reading of a mark that is not reached, log 5). R143, R102: what a change of WASH_EXIT_PRESENT does: an unknown plate takes
an empty table without a put in hand to CLEAR_WAIT and its clearing back to EMPTY; going inactive it ends a stall unless
exit table waiting is yes, and the transport moves on when nothing else stops it. -/
def Obligations.ExitMarksRaisePuts : Prop :=
  (∀ (e : TransportEntry) (rest : List TransportEntry) (p : PlateRecord) (s : State), s.powered = true →
     s.wou.transport = .running → s.wou.list = e :: rest → e.committed = true → plateAt s e.slot = some p →
     p.state = .washing → (∀ x ∈ rest, x.slot ≠ e.slot) → ∃ t more, exec .exitMark s = .next t
       ∧ t.wou.list.map (·.slot) = rest.map (·.slot) ++ more ∧ more.length ≤ 1 ∧ t.wou.exitWaiting = true
       ∧ plateAt t e.slot = some { p with state := .washExit
                                          washout := p.washout.map (fun w => { w with stallTime := e.stall / 1000 }) }
       ∧ (rest = [] → more = [] → t.wou.transport = .idle ∧ t.wou.speed = 0 ∧ driveIsOn .transport t = false
           ∧ driveIsOn .brushes t = false)
       ∧ (t.trc.table = .waitingPut e.slot ∧ t.trc.pendingPut = some e.slot
           ∨ ∃ d, p.drawer = some d ∧ t.trc.table = .putBegun e.slot ∧ t.trc.request = some (.put e.slot d))
       ∧ t.wou.lambda = s.wou.lambda ∧ t.rss = s.rss ∧ t.din = s.din ∧ t.ptb.queue = s.ptb.queue
       ∧ t.lio.lamps = s.lio.lamps ∧ t.flt.lineState = s.flt.lineState)
  ∧ (∀ (k : Slot) (s : State),
       (entryOf s k = none → exec (.gapMark k) s = .next s ∧ exec (.endMark k) s = .next s ∧ exec (.commitMark k) s = .next s)
       ∧ (s.wou.list = [] → exec .exitMark s = .next s)
       ∧ (∀ e, entryOf s k = some e → s.wou.transport ≠ .running →
           (e.position < (e.length + 150) * 60000 → exec (.gapMark k) s = .next s)
           ∧ (e.position < (s.rss.working.cal.wash.brushLength + s.rss.working.cal.wash.rinseLength) * 60000 →
               exec (.endMark k) s = .next s)
           ∧ (e.position < (s.rss.working.cal.wash.brushLength + e.length) * 60000 → exec (.commitMark k) s = .next s)))
  ∧ (∀ (i : Fin 12) (s : State),
       let u := flipped i s
       let table : WashExitTable := if s.trc.table = .clearWait then .empty else s.trc.table
       (Changes i .washExitPresent true s →
         (s.trc.table = .empty → (∀ k d, s.trc.request ≠ some (.put k d)) →
           exec (.debounceExpiry i) s = .next { u with trc := { s.trc with table := .clearWait } })
         ∧ (s.trc.table ≠ .empty ∨ (∃ k d, s.trc.request = some (.put k d)) → exec (.debounceExpiry i) s = .next u))
       ∧ (Changes i .washExitPresent false s →
         (s.wou.stallHold = false ∨ s.wou.exitWaiting = true →
           exec (.debounceExpiry i) s = .next { u with trc := { s.trc with table := table } })
         ∧ (s.wou.stallHold = true → s.wou.exitWaiting = false → ∃ t, exec (.debounceExpiry i) s = .next t
           ∧ t.wou.stallHold = false ∧ t.trc = { s.trc with table := table }
           ∧ (s.wou.list ≠ [] → s.wou.transport = .stalled → inhibitActive s = false → driveFaulted .transport s = false →
               driveFaulted .brushes s = false →
               t.wou.transport = .running ∧ driveIsOn .transport t = true ∧ driveIsOn .brushes t = true)
           ∧ t.lio.inputs = u.lio.inputs ∧ t.wou.lambda = s.wou.lambda ∧ t.wou.replenish = s.wou.replenish
           ∧ t.wou.exitWaiting = false ∧ t.ptb.queue = s.ptb.queue ∧ t.rss = s.rss ∧ t.din = s.din ∧ t.lfn = s.lfn
           ∧ t.lio.lamps = s.lio.lamps ∧ t.flt.lineState = s.flt.lineState)))

/-- R106, R32: a solvent temperature reading is kept; one outside the setpoint ± 3 °C sets WASH_TEMP and stops nothing.
R108: the run time of a replenishment is reached: the pump goes OFF, λ falls to ceil(λ × (100 − fraction) / 100), the
state is NONE, and a counters write is asked. R108, R109: λ after an exchange, whole or stopped at t of T seconds:
never raised; a stop at t = 0 leaves it, and a stop at T leaves what the whole exchange leaves. -/
def Obligations.SolventIsWatchedAndExchanged : Prop :=
  (∀ (x : Byte) (s : State), s.powered = true → s.flt.lineState ≠ .init →
     let inBand := s.rss.working.cal.wash.tempSetpoint ≤ x.toNat + 3 ∧ x.toNat ≤ s.rss.working.cal.wash.tempSetpoint + 3
     (inBand → exec (.solventTempReading x) s =
       .next { s with wou := { s.wou with temp := some x.toNat, tempOutside := false } })
     ∧ (¬ inBand → ∃ t, exec (.solventTempReading x) s = .next t
       ∧ t.wou = { s.wou with temp := some x.toNat, tempOutside := true } ∧ t.flt.flags = s.flt.flags ||| flagBit .washTemp
       ∧ t.ptb = s.ptb ∧ t.rss = s.rss ∧ t.din = s.din ∧ t.exu = s.exu ∧ t.dry = s.dry ∧ t.lfn = s.lfn ∧ t.trc = s.trc
       ∧ t.lio.drives = s.lio.drives ∧ t.lio.lamps = s.lio.lamps ∧ t.flt.lineState = s.flt.lineState))
  ∧ (∀ (run : ReplenishRun) (s : State), s.powered = true → s.wou.replenish = .running run → driveIsOn .pump s = true →
       let lambda := (s.wou.lambda * (100 - run.fraction) + 99) / 100
       ∃ t, exec .replenishComplete s = .next t ∧ driveState .pump t = .off ∧ t.wou.lambda = lambda
         ∧ t.wou.replenish = .none
         ∧ (s.rss.countersWriting = false → s.rss.save = none → t.rss.counters = ⟨lambda, s.din.lampOn, true⟩)
         ∧ t.rss.working = s.rss.working ∧ t.din = s.din ∧ t.lfn = s.lfn ∧ t.trc = s.trc ∧ t.ptb.queue = s.ptb.queue
         ∧ t.lio.lamps = s.lio.lamps ∧ t.flt.lineState = s.flt.lineState)
  ∧ (∀ (lambda T t fraction : Nat), 0 < T → t ≤ T → fraction ≤ 100 →
       lambdaAfterStop lambda T t fraction ≤ lambda ∧ lambdaAfterStop lambda T 0 fraction = lambda
       ∧ lambdaAfterStop lambda T T fraction = lambdaAfterExchange lambda fraction
       ∧ lambdaAfterExchange lambda fraction ≤ lambdaAfterStop lambda T t fraction)

/-- R110, R107, R108: REPLENISH_NOW by the replenishment state; one that cannot start, for a plate on the transport, a
pump in FAULT or a line neither RUN nor SAFE_HOLD, stays PENDING. R111: BATH_CHANGED: refused while the list holds a
plate or a replenishment runs; otherwise λ is 0, the replenishment state NONE, and a counters write is asked. R107: what a
change of FRESH_LOW does: going active it makes a PENDING replenishment BLOCKED and sets REPLENISH_BLOCKED; going inactive
it makes a BLOCKED one PENDING, or RUNNING when its start conditions hold; in any other state it does nothing more. -/
def Obligations.ReplenishmentRequests : Prop :=
  (∀ (tag : Byte) (s : State), Servable (.frame ⟨65#8, tag, []⟩) s →
     (∀ run, s.wou.replenish = .running run →
       Answers (.replenishNow tag []) ⟨65#8, tag, []⟩ ⟨.wrongState, []⟩ s)
     ∧ (s.wou.replenish = .pending ∨ s.wou.replenish = .blocked →
       Answers (.replenishNow tag []) ⟨65#8, tag, []⟩ ⟨.ok, []⟩ s)
     ∧ (s.wou.replenish = .none → ∃ t, exec (.replenishNow tag []) s = .next t
       ∧ t.lnk.tx = s.lnk.tx ++ [⟨65#8, tag, [0#8]⟩]
       ∧ (inputActive .freshLow s = true → t.wou.replenish = .blocked ∧ isSet .replenishBlocked t = true)
       ∧ (inputActive .freshLow s = false → s.wou.list ≠ [] ∨ driveFaulted .pump s = true ∨ s.flt.lineState = .stopped →
           t.wou.replenish = .pending)
       ∧ (inputActive .freshLow s = false → s.wou.list = [] → driveFaulted .pump s = false →
           s.flt.lineState = .run ∨ s.flt.lineState = .safeHold →
           t.wou.replenish = .running
             ⟨((s.rss.working.cal.wash.bathVolume * s.rss.working.cal.wash.exchange * 60
                 + 100 * s.rss.working.cal.wash.pumpRate - 1) / (100 * s.rss.working.cal.wash.pumpRate)),
               0, s.rss.working.cal.wash.exchange⟩)
       ∧ t.wou.lambda = s.wou.lambda ∧ t.ptb.queue = s.ptb.queue ∧ t.rss = s.rss ∧ t.din = s.din ∧ t.lfn = s.lfn
       ∧ t.trc = s.trc ∧ t.lio.lamps = s.lio.lamps ∧ t.flt.lineState = s.flt.lineState))
  ∧ (∀ (tag : Byte) (s : State), Servable (.frame ⟨66#8, tag, []⟩) s →
       (s.wou.list ≠ [] ∨ (∃ run, s.wou.replenish = .running run) →
         Answers (.bathChanged tag []) ⟨66#8, tag, []⟩ ⟨.wrongState, []⟩ s)
       ∧ (s.wou.list = [] → (∀ run, s.wou.replenish ≠ .running run) → ∃ t, exec (.bathChanged tag []) s = .next t
         ∧ t.wou.lambda = 0 ∧ t.wou.replenish = .none ∧ t.lnk.tx = s.lnk.tx ++ [⟨66#8, tag, [0#8]⟩]
         ∧ (s.rss.countersWriting = false → t.rss.counters.lambda = 0 ∧ t.rss.countersWriting = true)
         ∧ (s.rss.countersWriting = true → t.rss.countersWaiting = true)
         ∧ t.rss.working = s.rss.working ∧ t.din = s.din ∧ t.lfn = s.lfn ∧ t.trc = s.trc ∧ t.ptb.queue = s.ptb.queue
         ∧ t.lio.lamps = s.lio.lamps ∧ t.flt.lineState = s.flt.lineState))
  ∧ (∀ (i : Fin 12) (s : State),
       (Changes i .freshLow true s →
         (s.wou.replenish ≠ .pending → exec (.debounceExpiry i) s = .next (flipped i s))
         ∧ (s.wou.replenish = .pending → ∃ t, exec (.debounceExpiry i) s = .next t
           ∧ t.wou.replenish = .blocked ∧ isSet .replenishBlocked t = true ∧ t.wou.lambda = s.wou.lambda
           ∧ t.ptb.queue = s.ptb.queue ∧ t.rss = s.rss ∧ t.din = s.din ∧ t.lfn = s.lfn ∧ t.trc = s.trc
           ∧ t.lio.lamps = s.lio.lamps ∧ t.flt.lineState = s.flt.lineState))
       ∧ (Changes i .freshLow false s →
         (s.wou.replenish ≠ .blocked → exec (.debounceExpiry i) s = .next (flipped i s))
         ∧ (s.wou.replenish = .blocked → ∃ t, exec (.debounceExpiry i) s = .next t
           ∧ (s.wou.list ≠ [] ∨ driveFaulted .pump s = true ∨ s.flt.lineState = .stopped ∨ s.flt.lineState = .init →
               t.wou.replenish = .pending)
           ∧ (s.wou.list = [] → driveFaulted .pump s = false → s.flt.lineState = .run ∨ s.flt.lineState = .safeHold →
               t.wou.replenish = .running
                 ⟨((s.rss.working.cal.wash.bathVolume * s.rss.working.cal.wash.exchange * 60
                     + 100 * s.rss.working.cal.wash.pumpRate - 1) / (100 * s.rss.working.cal.wash.pumpRate)),
                   0, s.rss.working.cal.wash.exchange⟩
               ∧ (inhibitActive s = false → driveState .pump t = .on (.value s.rss.working.cal.wash.pumpRate)))
           ∧ t.wou.lambda = s.wou.lambda ∧ t.ptb.queue = s.ptb.queue ∧ t.rss = s.rss ∧ t.din = s.din ∧ t.lfn = s.lfn
           ∧ t.trc = s.trc ∧ t.lio.lamps = s.lio.lamps ∧ t.flt.lineState = s.flt.lineState)))

/-! ### Dryer and elevator (R117 to R124, R141 to R148) -/

/-- R118 to R121, R119: a dryer reading: the clock counts it, it is classed against the setpoint ± 5 °C; in the band
every plate in a DRYING drawer accrues 1 s, and one that reaches its required time is DRY_DONE at this clock; below it
DRYER_UNDERTEMP is set; above it the heater goes OFF and DRYER_OVERTEMP is set; below and above it every accrued time
stands, and every record but those the overdry test marks. R118, R123: the reading, of whatever class, makes the overdry test
at its own clock: a plate that has waited in its DRY_DONE drawer until accrued and waited time together exceed one and a half
times its required time is marked once, gets the notice OVERDRY, and OVERDRY is set; the last of the readings before is not
enough. -/
def Obligations.DryerReadings : Prop :=
  (∀ (x : Byte) (s : State), s.powered = true → s.flt.lineState ≠ .init →
     (∀ d1 d2 k id1, drawerAt s d1 = .drying k id1 →
       ((∃ id2, drawerAt s d2 = .drying k id2) ∨ ∃ id2 done, drawerAt s d2 = .dryDone k id2 done) → d1 = d2) →
     let sp := s.rss.working.cal.dryerSetpoint
     let clock := min 4294967295 (s.dry.clock + 1)
     ∃ t, exec (.dryerReading x) s = .next t ∧ t.dry.clock = clock ∧ t.dry.temp = some x.toNat
       ∧ t.dry.tempClass = (if x.toNat + 5 < sp then .below else if sp + 5 < x.toNat then .above else .inBand)
       ∧ (x.toNat + 5 < sp → isSet .dryerUndertemp t = true ∧ t.dry.drawers = s.dry.drawers
           ∧ driveState .heater t = driveState .heater s)
       ∧ (sp + 5 < x.toNat → isSet .dryerOvertemp t = true ∧ driveIsOn .heater t = false ∧ t.dry.drawers = s.dry.drawers)
       ∧ (sp ≤ x.toNat + 5 → x.toNat ≤ sp + 5 → ∀ d k id p part, drawerAt s d = .drying k id → plateAt s k = some p →
           p.state = .drying → p.dry = some part →
           (part.accrued + 1 < part.required → drawerAt t d = .drying k id
             ∧ plateAt t k = some { p with dry := some { part with accrued := part.accrued + 1 } })
           ∧ (part.required ≤ part.accrued + 1 → drawerAt t d = .dryDone k id clock
             ∧ (plateState t k = some .dryDone) ∧ (dryPartOf t k).map (·.accrued) = some (part.accrued + 1)))
       ∧ (x.toNat + 5 < sp ∨ sp + 5 < x.toNat → ∀ k,
           (dryPartOf t k).map (·.accrued) = (dryPartOf s k).map (·.accrued)
           ∧ ((∀ d id done, drawerAt s d ≠ .dryDone k id done) → plateAt t k = plateAt s k))
       ∧ (∀ d k id done, drawerAt s d = .dryDone k id done → ∀ p, plateAt s k = some p → ∀ part, p.dry = some part →
           (∀ d2 id2 done2, drawerAt s d2 = .dryDone k id2 done2 → d2 = d) →
           drawerAt t d = .dryDone k id done
           ∧ (part.overdry = true ∨ 2 * (part.accrued + (clock - done)) ≤ 3 * part.required → plateAt t k = some p)
           ∧ (part.overdry = false → 3 * part.required < 2 * (part.accrued + (clock - done)) → isSet .overdry t = true
             ∧ plateAt t k = some (appendNotice .overdry { p with dry := some { part with overdry := true } })))
       ∧ t.ptb.queue = s.ptb.queue ∧ t.rss = s.rss ∧ t.din = s.din ∧ t.exu = s.exu ∧ t.wou = s.wou
       ∧ t.lio.lamps = s.lio.lamps ∧ t.flt.lineState = s.flt.lineState)
  ∧ (∀ (d : DrawerNo) (k : Slot) (id done : Nat) (p : PlateRecord) (part : DryPart) (s : State),
       drawerAt s d = .dryDone k id done → plateAt s k = some p → p.dry = some part →
       (part.overdry = true ∨ 2 * (part.accrued + (s.dry.clock - done)) ≤ 3 * part.required → overdryTest s d = s)
       ∧ (part.overdry = false → 3 * part.required < 2 * (part.accrued + (s.dry.clock - done)) →
         plateAt (overdryTest s d) k = some (appendNotice .overdry { p with dry := some { part with overdry := true } })
         ∧ isSet .overdry (overdryTest s d) = true ∧ (overdryTest s d).dry = s.dry
         ∧ ∀ j, j ≠ k → plateAt (overdryTest s d) j = plateAt s j))

/-- R141, R145, R146: the arrival at a TRAVEL's target: the level is the target, and the next phase of the request is
commanded afresh, with the limit of 18 s. R148: a phase's timeout, the elevator not halted: its channel goes OFF, the
phase is kept, the request stands, and ELEVATOR_TIMEOUT is set. R141: a report of a phase that is not in hand, and one
taken in IDLE or FAULT, is discarded (R148; for IDLE and for another phase the model's choice, log 22). A homing that
ends leaves the elevator IDLE in any line state when the arbiter may begin nothing, its channel OFF (R142; OFF in IDLE is the
model's choice, log 21); a put raised meanwhile begins when homing ends (R142, R144, R145). The arrival clauses hold while
halted too: that a report of the phase in hand is taken then is the model's choice (PRESUMED, log 22). -/
def Obligations.ElevatorArrivesOrTimesOut : Prop :=
  (∀ (target : Fin 8) (s : State), s.powered = true → s.trc.elevator = .inPhase (.travel target) →
     (∀ k d, s.trc.request = some (.put k d) ∨ s.trc.request = some (.take d k) → ∃ t phase,
       exec .elevatorArrived s = .next t
       ∧ (s.trc.request = some (.put k d) → phase = if target = 0 then .pick else .place)
       ∧ (s.trc.request = some (.take d k) → phase = if target = 7 then .place else .pick)
       ∧ t.trc = { s.trc with level := target, elevator := .inPhase phase, timer := 0, limit := 18000 }
       ∧ (inhibitActive s = false → driveFaulted .elevator s = false →
           driveState .elevator t = .on (.phase phase target))
       ∧ (∀ c, c ≠ .elevator → driveState c t = driveState c s)
       ∧ t.ptb = s.ptb ∧ t.rss = s.rss ∧ t.din = s.din ∧ t.exu = s.exu ∧ t.wou = s.wou ∧ t.dry = s.dry ∧ t.lfn = s.lfn
       ∧ t.flt = s.flt ∧ t.lnk = s.lnk ∧ t.lio.lamps = s.lio.lamps)
     ∧ (s.trc.request = some .homing →
       (s.trc.pendingPut = none ∧ NoTake s) ∨ (s.flt.lineState ≠ .run ∧ s.flt.lineState ≠ .safeHold) →
       ∃ t, exec .elevatorArrived s = .next t
         ∧ t.trc = { s.trc with level := target, elevator := .idle, request := none }
         ∧ driveIsOn .elevator t = false ∧ (∀ c, c ≠ .elevator → driveState c t = driveState c s)
         ∧ t.ptb = s.ptb ∧ t.rss = s.rss ∧ t.din = s.din ∧ t.exu = s.exu ∧ t.wou = s.wou ∧ t.dry = s.dry ∧ t.lfn = s.lfn
         ∧ t.flt = s.flt ∧ t.lnk = s.lnk ∧ t.lio.lamps = s.lio.lamps)
     ∧ (∀ k p d, s.trc.request = some .homing → target = 0 → s.trc.pendingPut = some k → s.trc.halted = false →
       s.flt.lineState = .run ∨ s.flt.lineState = .safeHold → plateAt s k = some p → p.drawer = some d →
       ∃ t, exec .elevatorArrived s = .next t
         ∧ t.trc = { s.trc with level := 0, elevator := .inPhase .pick, timer := 0, limit := 18000,
                                pendingPut := none, request := some (.put k d), table := .putBegun k }
         ∧ t.ptb = s.ptb ∧ t.dry = s.dry ∧ t.lfn = s.lfn ∧ t.wou = s.wou ∧ t.flt = s.flt))
  ∧ (∀ (phase : Phase) (s : State), s.powered = true → s.trc.elevator = .inPhase phase → s.trc.halted = false →
       ∃ t, exec .elevatorPhaseTimeout s = .next t ∧ t.trc = { s.trc with elevator := .fault phase }
         ∧ driveIsOn .elevator t = false ∧ (∀ c, c ≠ .elevator → driveState c t = driveState c s)
         ∧ t.flt.flags = s.flt.flags ||| flagBit .elevatorTimeout
         ∧ t.ptb = s.ptb ∧ t.rss = s.rss ∧ t.din = s.din ∧ t.exu = s.exu ∧ t.wou = s.wou ∧ t.dry = s.dry ∧ t.lfn = s.lfn
         ∧ t.lio.lamps = s.lio.lamps ∧ t.flt.lineState = s.flt.lineState)
  ∧ (∀ s : State,
       ((∀ target, s.trc.elevator ≠ .inPhase (.travel target)) → exec .elevatorArrived s = .next s)
       ∧ (s.trc.elevator ≠ .inPhase .pick → exec .elevatorPickComplete s = .next s)
       ∧ (s.trc.elevator ≠ .inPhase .place → exec .elevatorPlaceComplete s = .next s)
       ∧ ((∀ phase, s.trc.elevator ≠ .inPhase phase) → exec .elevatorPhaseTimeout s = .next s))

/-- R145, R146, R124: a pick: of a put, the washout exit table is EMPTY, WOU's exit table waiting is no, and the
carrier travels to the plate's drawer; of a take, the drawer is UNLOADING, and the carrier travels to level 7. R141: a travel
to the level the carrier is at is not commanded, and the place follows at once. The clauses hold while halted too: that a
report of the phase in hand is taken then is the model's choice (PRESUMED, log 22). -/
def Obligations.ElevatorPicks : Prop :=
  ∀ (k : Slot) (d : DrawerNo) (s : State), s.powered = true → s.trc.elevator = .inPhase .pick →
    (s.trc.request = some (.put k d) → ∃ t, exec .elevatorPickComplete s = .next t
      ∧ t.trc.table = .empty ∧ t.wou.exitWaiting = false
      ∧ (inputActive .washExitPresent s = false → t.wou.stallHold = false)
      ∧ t.trc.timer = 0 ∧ t.trc.request = s.trc.request ∧ t.trc.level = s.trc.level
      ∧ (s.trc.level.val ≠ d.val + 1 → t.trc.elevator = .inPhase (.travel (drawerLevel d))
          ∧ t.trc.limit = 2000 * ((s.trc.level.val - (d.val + 1)) + ((d.val + 1) - s.trc.level.val)) + 10000)
      ∧ (s.trc.level.val = d.val + 1 → t.trc.elevator = .inPhase .place ∧ t.trc.limit = 18000)
      ∧ t.wou.lambda = s.wou.lambda ∧ t.rss = s.rss ∧ t.din = s.din ∧ t.lfn = s.lfn ∧ t.ptb.queue = s.ptb.queue
      ∧ t.lio.lamps = s.lio.lamps ∧ t.flt.lineState = s.flt.lineState)
    ∧ (∀ id done, s.trc.request = some (.take d k) → drawerAt s d = .dryDone k id done →
      ∃ t, exec .elevatorPickComplete s = .next t
        ∧ t.dry = { s.dry with drawers := s.dry.drawers.set d.val (.unloading k id) d.isLt }
        ∧ (s.trc.level ≠ 7 → t.trc = { s.trc with
            elevator := .inPhase (.travel 7), timer := 0
            limit := 2000 * ((s.trc.level.val - 7) + (7 - s.trc.level.val)) + 10000 })
        ∧ (s.trc.level = 7 → t.trc = { s.trc with elevator := .inPhase .place, timer := 0, limit := 18000 })
        ∧ t.ptb = s.ptb ∧ t.rss = s.rss ∧ t.din = s.din ∧ t.exu = s.exu ∧ t.wou = s.wou ∧ t.lfn = s.lfn ∧ t.flt = s.flt
        ∧ t.lio.lamps = s.lio.lamps)

/-- R145, R117, R146, R124, R130: a place: of a put, the plate is DRYING in its drawer with a dry part that has accrued
nothing; of a take, the drawer is FREE, the record names no drawer, and the finisher holds the plate in CHECK. The request
ends and the elevator is IDLE at its level, in any line state in which the arbiter may begin nothing (R144). The clauses hold
while halted too: that a report of the phase in hand is taken then is the model's choice (PRESUMED, log 22). -/
def Obligations.ElevatorPlaces : Prop :=
  ∀ (k : Slot) (d : DrawerNo) (p : PlateRecord) (s : State), s.powered = true → s.trc.elevator = .inPhase .place →
    plateAt s k = some p →
    (∀ id, s.trc.request = some (.put k d) → drawerAt s d = .reserved k id → p.state = .washExit →
      ∃ t, exec .elevatorPlaceComplete s = .next t
        ∧ t.dry.drawers = s.dry.drawers.set d.val (.drying k id) d.isLt
        ∧ t.ptb.plates = s.ptb.plates.set k.val
            (some { p with state := .drying, dry := some ⟨0, p.working.dryTime * 60, false⟩ }) k.isLt
        ∧ t.trc.level = s.trc.level
        ∧ ((s.trc.pendingPut = none ∧ NoTake s) ∨ (s.flt.lineState ≠ .run ∧ s.flt.lineState ≠ .safeHold) →
            t.trc = { s.trc with elevator := .idle, request := none })
        ∧ t.ptb.queue = s.ptb.queue ∧ t.rss = s.rss
        ∧ t.din = s.din ∧ t.exu = s.exu ∧ t.wou = s.wou ∧ t.flt = s.flt ∧ t.lio.lamps = s.lio.lamps)
    ∧ (∀ id, s.trc.request = some (.take d k) → drawerAt s d = .unloading k id → s.lfn.state = .empty →
      s.wou.offered = none → ∃ t, exec .elevatorPlaceComplete s = .next t
        ∧ t.dry.drawers = s.dry.drawers.set d.val .free d.isLt
        ∧ t.ptb.plates = s.ptb.plates.set k.val (some { p with drawer := none }) k.isLt
        ∧ t.lfn.state = .check ∧ t.lfn.plate = some k ∧ t.lfn.incoming = false ∧ t.lfn.tagRead = none
        ∧ t.lfn.uva = ⟨.waiting, false⟩ ∧ t.lfn.uvc = ⟨.waiting, false⟩
        ∧ (s.trc.pendingPut = none ∨ (s.flt.lineState ≠ .run ∧ s.flt.lineState ≠ .safeHold) →
            t.trc = { s.trc with elevator := .idle, request := none })
        ∧ t.trc.level = s.trc.level ∧ t.ptb.queue = s.ptb.queue ∧ t.rss = s.rss ∧ t.din = s.din ∧ t.exu = s.exu
        ∧ t.flt = s.flt ∧ t.lio.lamps = s.lio.lamps)

/-! ### Finisher and exit handoff (R131, R132, R149 to R156) -/

/-- R131, R132, R9: FINISHER_TAG_ARRIVAL in CHECK: the plate's own id takes it to FINISHING and the station to RUNNING,
where in a line that is not RUN its runs wait; another id or a no-read holds it for ORDER_MISMATCH. In any other state
the tag is discarded. R132, R46, R137: in RUN with no lamp-failure flag of the finisher and no inhibit, a passed check
starts both runs: a target of 0 is DONE at once, any other ACTIVE with its lamp ON; with both targets 0 the plate is
FINISHED, and its release starts when the exit table is free and the outfeed is not in FAULT. R133: the endings of the
runs: COMPLETE and UNDERDOSE make the status DONE, and both DONE in RUNNING finish the plate; LAMP_FAIL makes it FAILED and
holds the plate. R130, R138, R144: what a change of LFN_PRESENT does: an unknown plate takes an EMPTY station that awaits
none to CLEAR_WAIT; its clearing takes it to EMPTY, where the arbiter may begin a take, of the plate dried longest ago. -/
def Obligations.FinisherTagArrives : Prop :=
  (∀ (n : Nat) (s : State), s.powered = true → n ≤ 65534 →
     (s.lfn.state ≠ .check → exec (.finisherTagArrival n) s = .next s)
     ∧ ∀ k p, s.lfn.state = .check → s.lfn.plate = some k → plateAt s k = some p → p.state = .dryDone →
       (n ≠ 0 → n = p.plateId → s.flt.lineState ≠ .run → s.lfn.uva = ⟨.waiting, false⟩ → s.lfn.uvc = ⟨.waiting, false⟩ →
         exec (.finisherTagArrival n) s = .next { s with
           ptb := { s.ptb with plates := s.ptb.plates.set k.val (some { p with state := .finishing }) k.isLt }
           lfn := { s.lfn with state := .running, tagRead := some n } })
       ∧ (n = 0 ∨ n ≠ p.plateId → ∃ t, exec (.finisherTagArrival n) s = .next t
         ∧ t.ptb.plates = s.ptb.plates.set k.val
             (some (appendNotice .orderMismatch { p with state := .held, held := some (.lfn, .orderMismatch) })) k.isLt
         ∧ t.lfn = { s.lfn with state := .held, tagRead := some n }
         ∧ t.flt.flags = s.flt.flags ||| flagBit .orderMismatch ∧ attnHas t.lnk.attnPending .plateHeld = true
         ∧ t.ptb.queue = s.ptb.queue ∧ t.rss = s.rss ∧ t.din = s.din ∧ t.exu = s.exu ∧ t.wou = s.wou ∧ t.dry = s.dry
         ∧ t.trc = s.trc ∧ t.lio.drives = s.lio.drives ∧ t.lio.lamps = s.lio.lamps ∧ t.flt.lineState = s.flt.lineState))
  ∧ (∀ (k : Slot) (p : PlateRecord) (s : State), s.powered = true → s.lfn.state = .check → s.lfn.plate = some k →
       plateAt s k = some p → p.state = .dryDone → 1 ≤ p.plateId → p.plateId ≤ 65534 → s.flt.lineState = .run →
       s.lfn.uva = ⟨.waiting, false⟩ → s.lfn.uvc = ⟨.waiting, false⟩ → isSet (.lampFail .uva) s = false →
       isSet (.lampFail .uvc) s = false → inhibitActive s = false →
       (∀ fc : FinisherLamp, channelAt s fc.channel = .idle ∨ ∃ r how, channelAt s fc.channel = .ended r how) →
       let finished := p.working.uva.target = 0 ∧ p.working.uvc.target = 0
       ∃ t, exec (.finisherTagArrival p.plateId) s = .next t ∧ t.lfn.tagRead = some p.plateId ∧ t.lfn.plate = some k
         ∧ (∀ fc : FinisherLamp,
             ((p.working.lamp fc.channel).target = 0 → finisherRun fc t.lfn = ⟨.done, false⟩ ∧ channelAt t fc.channel = .idle
               ∧ lampLevel fc.channel t = lampLevel fc.channel s)
             ∧ (0 < (p.working.lamp fc.channel).target → finisherRun fc t.lfn = ⟨.active, false⟩
               ∧ lampLevel fc.channel t = some (p.working.lamp fc.channel).level
               ∧ ∃ r, channelAt t fc.channel = .integrating r ∧ r.slot = k
                 ∧ r.target = (p.working.lamp fc.channel).target * 1000 ∧ r.segment = 1 ∧ r.accumulator = 0))
         ∧ (finished → t.lfn.state = .finished ∧ plateState t k = some .finished
           ∧ (s.trc.handoff = .empty → inputActive .exitPresent s = false → s.trc.incoming = none →
               driveFaulted .outfeed s = false →
               t.lfn.moving = true ∧ t.trc = { s.trc with incoming := some k } ∧ driveIsOn .outfeed t = true))
         ∧ (¬ finished → t.lfn.state = .running ∧ plateState t k = some .finishing ∧ t.trc = s.trc
           ∧ t.lio.drives = s.lio.drives)
         ∧ (∀ c, c ≠ .outfeed → driveState c t = driveState c s) ∧ (∀ j, j ≠ k → plateAt t j = plateAt s j)
         ∧ t.ptb.queue = s.ptb.queue ∧ t.rss = s.rss ∧ t.din.lampOn = s.din.lampOn ∧ t.exu = s.exu ∧ t.wou = s.wou
         ∧ t.dry = s.dry ∧ t.flt = s.flt)
  ∧ (∀ (fc : FinisherLamp) (raw : BitVec 12) (r : RunRecord) (p : PlateRecord) (how : RunEnding) (s : State),
       s.powered = true → channelAt s fc.channel = .integrating r → s.lfn.plate = some r.slot →
       plateAt s r.slot = some p → p.state = .finishing ∧ s.lfn.state = .running ∨ p.state = .held ∧ s.lfn.state = .held →
       (let e := irradiance (s.rss.working.cal.lamps.get fc.channel) raw.toNat
        sampleEnding e (addSample e r) = some how) →
       let bothDone := how ≠ .lampFail ∧ ∀ gc, gc ≠ fc → (finisherRun gc s.lfn).status = .done
       ∃ t, exec (.sampleArrival fc.channel raw) s = .next t
         ∧ (finisherRun fc t.lfn).status = (if how = .lampFail then .failed else .done)
         ∧ (∀ gc, gc ≠ fc → finisherRun gc t.lfn = finisherRun gc s.lfn)
         ∧ (how = .lampFail → t.lfn.state = .held ∧ attnHas t.lnk.attnPending .plateHeld = true
           ∧ ∃ q, plateAt t r.slot = some q ∧ q.state = .held ∧ q.held = some (.lfn, .lampFail)
             ∧ (.lampFail ∈ q.notices ∨ q.moreNotices = true))
         ∧ (how = .underdose →
             ∃ q, plateAt t r.slot = some q ∧ (.underdose ∈ q.notices ∨ q.moreNotices = true))
         ∧ (how ≠ .lampFail → s.lfn.state = .held → t.lfn.state = .held ∧ plateState t r.slot = some .held)
         ∧ (¬ bothDone → t.trc = s.trc ∧ t.lio.drives = s.lio.drives
           ∧ (how ≠ .lampFail → t.lfn.state = s.lfn.state ∧ plateState t r.slot = some p.state))
         ∧ (bothDone → s.lfn.state = .running → t.lfn.state = .finished ∧ plateState t r.slot = some .finished
           ∧ (s.trc.handoff = .empty → inputActive .exitPresent s = false → s.trc.incoming = none →
               s.flt.lineState = .run ∨ s.flt.lineState = .safeHold → driveFaulted .outfeed s = false →
               t.lfn.moving = true ∧ t.trc = { s.trc with incoming := some r.slot }
               ∧ (inhibitActive s = false → driveIsOn .outfeed t = true)))
         ∧ t.ptb.queue = s.ptb.queue ∧ t.rss.working = s.rss.working ∧ t.exu = s.exu ∧ t.wou = s.wou ∧ t.dry = s.dry
         ∧ t.flt.lineState = s.flt.lineState)
  ∧ (∀ (i : Fin 12) (s : State),
       let u := flipped i s
       (Changes i .lfnPresent true s →
         (s.lfn.state = .empty → s.lfn.incoming = false →
           exec (.debounceExpiry i) s = .next { u with lfn := { s.lfn with state := .clearWait } })
         ∧ (s.lfn.state ≠ .empty ∨ s.lfn.incoming = true → exec (.debounceExpiry i) s = .next u))
       ∧ (Changes i .lfnPresent false s →
         (s.lfn.state ≠ .clearWait → exec (.debounceExpiry i) s = .next u)
         ∧ (s.lfn.state = .clearWait → s.trc.elevator ≠ .idle →
           exec (.debounceExpiry i) s = .next { u with lfn := { s.lfn with state := .empty } })
         ∧ (∀ d k id done, s.lfn.state = .clearWait → s.lfn.incoming = false → s.trc.elevator = .idle →
           s.trc.request = none → s.trc.pendingPut = none → s.trc.halted = false → s.flt.lineState = .run →
           isSet (.lampFail .uva) s = false → isSet (.lampFail .uvc) s = false → isSet .orderMismatch s = false →
           isSet (.driveFault .outfeed) s = false → drawerAt s d = .dryDone k id done →
           (∀ e k2 id2 done2, drawerAt s e = .dryDone k2 id2 done2 → done < done2 ∨ done = done2 ∧ d ≤ e) →
           ∃ t, exec (.debounceExpiry i) s = .next t ∧ t.lfn = { s.lfn with state := .empty, incoming := true }
             ∧ t.trc.request = some (.take d k) ∧ t.trc.level = s.trc.level
             ∧ t.trc.elevator = .inPhase (if s.trc.level.val = d.val + 1 then .pick else .travel (drawerLevel d))
             ∧ (∀ c, c ≠ .elevator → driveState c t = driveState c s) ∧ t.lio.lamps = s.lio.lamps
             ∧ t.ptb = s.ptb ∧ t.rss = s.rss ∧ t.din = s.din ∧ t.exu = s.exu ∧ t.wou = s.wou ∧ t.dry = s.dry
             ∧ t.flt = s.flt ∧ t.lnk = s.lnk)))

/-- R151, R152, R154: the ends of the handoff's delays. The setup delay leads to PUSHING in TIMED mode or with push
first, and else to OFFERED; the dwell of a handoff that is not TIMED leads to OFFERED; the handoff timeout sets
EXIT_TIMEOUT once and leaves the plate OFFERED. R152, R155, R10: the dwell of a TIMED handoff ends it: the conveyor
goes OFF, the record is DONE with outcome CLEAN, or WARNED when it has a notice, PLATE_CLOSED is reported, and the
handoff waits for the table to clear. R149, R151, R155, R137: what a change of EXIT_PRESENT does: the arrival of the plate
that was sent, which enters SETUP with the working exit group as its values; a delay of 0 ends at once, in the state that
follows, but that under the inhibit the plate stays in SETUP then is the model's choice (DEDUCED, log 23, where R151 has
the delay end at the entry); an unknown plate, which is waited for; and the clearing of the table, at which a plate that
waits finished is released. R153: what the stacker's signals and the operator's button do: a completion by the mode, the
taken mark, and nothing more outside OFFERED. -/
def Obligations.HandoffEnds : Prop :=
  (∀ s : State, s.powered = true →
     (s.trc.handoff = .setup → inhibitActive s = false →
       (s.trc.values.mode = .timed ∨ s.trc.values.pushFirst = true → ∃ t, exec .setupDelayEnd s = .next t
         ∧ t.trc = { s.trc with handoff := .pushing, dwell := 0 }
         ∧ (driveFaulted .conveyor s = false → driveIsOn .conveyor t = true)
         ∧ (∀ c, c ≠ .conveyor → driveState c t = driveState c s) ∧ t.ptb = s.ptb ∧ t.flt = s.flt ∧ t.lnk = s.lnk
         ∧ t.lfn = s.lfn ∧ t.lio.lamps = s.lio.lamps)
       ∧ (s.trc.values.mode ≠ .timed → s.trc.values.pushFirst = false → ∃ t, exec .setupDelayEnd s = .next t
         ∧ t.trc = { s.trc with handoff := .offered, taken := false, handoffTimer := some 0 }
         ∧ t.lio.drives = s.lio.drives ∧ t.ptb = s.ptb ∧ t.flt = s.flt ∧ t.lnk = s.lnk ∧ t.lfn = s.lfn))
     ∧ (s.trc.handoff = .pushing → driveIsOn .conveyor s = true → s.trc.values.mode ≠ .timed →
       ∃ t, exec .pushDwellEnd s = .next t
         ∧ t.trc = { s.trc with handoff := .offered, taken := false, handoffTimer := some 0 }
         ∧ driveState .conveyor t = .off ∧ (∀ c, c ≠ .conveyor → driveState c t = driveState c s)
         ∧ t.ptb = s.ptb ∧ t.flt = s.flt ∧ t.lnk = s.lnk ∧ t.lfn = s.lfn)
     ∧ (s.trc.handoff = .offered → s.trc.handoffTimer ≠ none → ∃ t, exec .handoffTimeout s = .next t
         ∧ t.trc = { s.trc with handoffTimer := none } ∧ t.flt.flags = s.flt.flags ||| flagBit .exitTimeout
         ∧ t.ptb = s.ptb ∧ t.rss = s.rss ∧ t.lfn = s.lfn ∧ t.lio.drives = s.lio.drives ∧ t.flt.lineState = s.flt.lineState)
     ∧ (s.trc.handoff ≠ .offered ∨ s.trc.handoffTimer = none → exec .handoffTimeout s = .next s))
  ∧ (∀ (k : Slot) (p : PlateRecord) (s : State), s.powered = true → s.trc.handoff = .pushing → s.trc.values.mode = .timed →
       driveIsOn .conveyor s = true → s.trc.plate = some k → plateAt s k = some p → p.state = .atExit →
       ∃ t, exec .pushDwellEnd s = .next t ∧ HandedOver k p s t ∧ driveState .conveyor t = .off)
  ∧ (∀ (i : Fin 12) (k : Slot) (p : PlateRecord) (s : State), Changes i .exitPresent true s → s.trc.handoff = .empty →
       s.trc.incoming = some k → plateAt s k = some p → p.state = .finished →
       let x := s.rss.working.cfg.exit
       ∃ t, exec (.debounceExpiry i) s = .next t
         ∧ t.ptb.plates = s.ptb.plates.set k.val (some { p with state := .atExit }) k.isLt
         ∧ t.trc.plate = some k ∧ t.trc.incoming = none ∧ t.trc.values = x
         ∧ t.trc.handoff = (if x.setupDelay ≠ 0 ∨ inhibitActive s = true then .setup
             else if x.mode = .timed ∨ x.pushFirst = true then .pushing else .offered)
         ∧ t.lfn.plate = none ∧ t.lfn.tagRead = none ∧ t.lfn.moving = false ∧ t.lfn.uva = ⟨.waiting, false⟩
         ∧ t.lfn.uvc = ⟨.waiting, false⟩ ∧ t.lfn.state = (if inputActive .lfnPresent s then .clearWait else .empty)
         ∧ driveIsOn .outfeed t = false ∧ t.lio.inputs = (flipped i s).lio.inputs ∧ t.lio.lamps = s.lio.lamps
         ∧ t.ptb.queue = s.ptb.queue ∧ t.rss = s.rss ∧ t.din = s.din ∧ t.exu = s.exu ∧ t.wou = s.wou ∧ t.dry = s.dry
         ∧ t.flt = s.flt)
  ∧ (∀ (i : Fin 12) (s : State),
       let u := flipped i s
       (Changes i .exitPresent true s →
         (s.trc.handoff = .empty → s.trc.incoming = none →
           exec (.debounceExpiry i) s = .next { u with trc := { s.trc with handoff := .doneWaitClear } })
         ∧ (s.trc.handoff ≠ .empty → exec (.debounceExpiry i) s = .next u))
       ∧ (Changes i .exitPresent false s →
         let free := s.trc.handoff = .empty ∨ s.trc.handoff = .doneWaitClear
         let leaves := s.trc.incoming = none ∧ s.lfn.state = .finished ∧ s.lfn.moving = false
           ∧ (s.flt.lineState = .run ∨ s.flt.lineState = .safeHold) ∧ driveFaulted .outfeed s = false
         (¬ free → exec (.debounceExpiry i) s = .next u)
         ∧ (free → ¬ leaves ∨ s.lfn.plate = none →
           exec (.debounceExpiry i) s = .next { u with trc := { s.trc with handoff := .empty } })
         ∧ (∀ k, free → leaves → s.lfn.plate = some k → ∃ t, exec (.debounceExpiry i) s = .next t
           ∧ t.trc = { s.trc with handoff := .empty, incoming := some k } ∧ t.lfn = { s.lfn with moving := true }
           ∧ (inhibitActive s = false → driveIsOn .outfeed t = true)
           ∧ (∀ c, c ≠ .outfeed → driveState c t = driveState c s) ∧ t.lio.lamps = s.lio.lamps
           ∧ t.ptb = s.ptb ∧ t.rss = s.rss ∧ t.din = s.din ∧ t.exu = s.exu ∧ t.wou = s.wou ∧ t.dry = s.dry
           ∧ t.flt = s.flt ∧ t.lnk = s.lnk)))
  ∧ (∀ (i : Fin 12) (s : State),
       let u := flipped i s
       let offered (m : HandoffMode) := s.trc.handoff = .offered ∧ s.trc.values.mode = m
       let ended := ∀ k p, s.trc.plate = some k → plateAt s k = some p → p.state = .atExit →
         ∃ t, exec (.debounceExpiry i) s = .next t ∧ HandedOver k p s t
       (Changes i .stkBusy true s →
         (offered .idleOnly → exec (.debounceExpiry i) s = .next { u with trc := { s.trc with taken := true } })
         ∧ (¬ offered .idleOnly → exec (.debounceExpiry i) s = .next u))
       ∧ (Changes i .stkBusy false s →
         (offered .idleOnly ∨ offered .takenThenIdle → s.trc.taken = true → ended)
         ∧ ((¬ offered .idleOnly ∧ ¬ offered .takenThenIdle) ∨ s.trc.taken = false →
             exec (.debounceExpiry i) s = .next u))
       ∧ (Changes i .stkTaken true s →
         (offered .takenThenIdle → inputActive .stkBusy s = false → ended)
         ∧ (offered .takenThenIdle → inputActive .stkBusy s = true →
             exec (.debounceExpiry i) s = .next { u with trc := { s.trc with taken := true } })
         ∧ (¬ offered .takenThenIdle → exec (.debounceExpiry i) s = .next u))
       ∧ (Changes i .operatorTake true s →
         (s.trc.handoff = .offered → ended) ∧ (s.trc.handoff ≠ .offered → exec (.debounceExpiry i) s = .next u))
       ∧ (Changes i .stkTaken false s ∨ Changes i .operatorTake false s → exec (.debounceExpiry i) s = .next u))

/-! ### Laws that every step keeps -/

/-- R168, R169: every step keeps the interlocks: while the inhibit is active no drive or lamp channel is ON, and while
the lid is open the exposure lamps are off. -/
def Obligations.StepsKeepTheInterlocks : Prop :=
  ∀ s t : State, Interlocked s → step s = .next t → Interlocked t

/-- R91, R100: every step keeps the transport list at 3 plates or fewer and the committed loading the sum of the
increments not yet committed. -/
def Obligations.StepsKeepTheLoading : Prop :=
  ∀ s t : State, LoadingKept s → step s = .next t → LoadingKept t

/-- R6, R61, R187: every step keeps the trace buffer, the receive buffer and every notice list within their sizes, and
no notice twice. -/
def Obligations.StepsKeepTheBuffers : Prop :=
  ∀ s t : State, BuffersBounded s → step s = .next t → BuffersBounded t

/-- R2, R11: every step keeps plate ids apart and the intake queue the QUEUED records, each once and at most 16. -/
def Obligations.StepsKeepTheTable : Prop :=
  ∀ s t : State, TableLawful s → step s = .next t → TableLawful t

/-- R35, R173: every step keeps the configuration checked, in the working copy and both banks, and, once INIT has
ended, the line STOPPED exactly while the inhibit is active. -/
def Obligations.StepsKeepTheLine : Prop :=
  ∀ s t : State, LineLawful s → step s = .next t → LineLawful t
end

