-- ==== Sys2Proof/Laws/State.lean ====
section
/-! SUPPORT. One lemma for each field of the state after each update of one block, and after the updates inside a block that
every operation is made of: they are true by unfolding, and no proof needs to unfold a record update. -/

namespace Sys2Proof.Machine

/-! ### The state after an update of one block -/

section Ptb
variable (f : PlateTable → PlateTable) (s : State)
@[simp] theorem modPtb_pending : (modPtb f s).pending = s.pending := rfl
@[simp] theorem modPtb_powered : (modPtb f s).powered = s.powered := rfl
@[simp] theorem modPtb_ptb : (modPtb f s).ptb = f s.ptb := rfl
@[simp] theorem modPtb_rss : (modPtb f s).rss = s.rss := rfl
@[simp] theorem modPtb_din : (modPtb f s).din = s.din := rfl
@[simp] theorem modPtb_exu : (modPtb f s).exu = s.exu := rfl
@[simp] theorem modPtb_wou : (modPtb f s).wou = s.wou := rfl
@[simp] theorem modPtb_dry : (modPtb f s).dry = s.dry := rfl
@[simp] theorem modPtb_lfn : (modPtb f s).lfn = s.lfn := rfl
@[simp] theorem modPtb_trc : (modPtb f s).trc = s.trc := rfl
@[simp] theorem modPtb_lio : (modPtb f s).lio = s.lio := rfl
@[simp] theorem modPtb_flt : (modPtb f s).flt = s.flt := rfl
@[simp] theorem modPtb_lnk : (modPtb f s).lnk = s.lnk := rfl
end Ptb

section Rss
variable (f : Store → Store) (s : State)
@[simp] theorem modRss_pending : (modRss f s).pending = s.pending := rfl
@[simp] theorem modRss_powered : (modRss f s).powered = s.powered := rfl
@[simp] theorem modRss_ptb : (modRss f s).ptb = s.ptb := rfl
@[simp] theorem modRss_rss : (modRss f s).rss = f s.rss := rfl
@[simp] theorem modRss_din : (modRss f s).din = s.din := rfl
@[simp] theorem modRss_exu : (modRss f s).exu = s.exu := rfl
@[simp] theorem modRss_wou : (modRss f s).wou = s.wou := rfl
@[simp] theorem modRss_dry : (modRss f s).dry = s.dry := rfl
@[simp] theorem modRss_lfn : (modRss f s).lfn = s.lfn := rfl
@[simp] theorem modRss_trc : (modRss f s).trc = s.trc := rfl
@[simp] theorem modRss_lio : (modRss f s).lio = s.lio := rfl
@[simp] theorem modRss_flt : (modRss f s).flt = s.flt := rfl
@[simp] theorem modRss_lnk : (modRss f s).lnk = s.lnk := rfl
end Rss

section Din
variable (f : DoseIntegrator → DoseIntegrator) (s : State)
@[simp] theorem modDin_pending : (modDin f s).pending = s.pending := rfl
@[simp] theorem modDin_powered : (modDin f s).powered = s.powered := rfl
@[simp] theorem modDin_ptb : (modDin f s).ptb = s.ptb := rfl
@[simp] theorem modDin_rss : (modDin f s).rss = s.rss := rfl
@[simp] theorem modDin_din : (modDin f s).din = f s.din := rfl
@[simp] theorem modDin_exu : (modDin f s).exu = s.exu := rfl
@[simp] theorem modDin_wou : (modDin f s).wou = s.wou := rfl
@[simp] theorem modDin_dry : (modDin f s).dry = s.dry := rfl
@[simp] theorem modDin_lfn : (modDin f s).lfn = s.lfn := rfl
@[simp] theorem modDin_trc : (modDin f s).trc = s.trc := rfl
@[simp] theorem modDin_lio : (modDin f s).lio = s.lio := rfl
@[simp] theorem modDin_flt : (modDin f s).flt = s.flt := rfl
@[simp] theorem modDin_lnk : (modDin f s).lnk = s.lnk := rfl
end Din

section Exu
variable (f : Exposure → Exposure) (s : State)
@[simp] theorem modExu_pending : (modExu f s).pending = s.pending := rfl
@[simp] theorem modExu_powered : (modExu f s).powered = s.powered := rfl
@[simp] theorem modExu_ptb : (modExu f s).ptb = s.ptb := rfl
@[simp] theorem modExu_rss : (modExu f s).rss = s.rss := rfl
@[simp] theorem modExu_din : (modExu f s).din = s.din := rfl
@[simp] theorem modExu_exu : (modExu f s).exu = f s.exu := rfl
@[simp] theorem modExu_wou : (modExu f s).wou = s.wou := rfl
@[simp] theorem modExu_dry : (modExu f s).dry = s.dry := rfl
@[simp] theorem modExu_lfn : (modExu f s).lfn = s.lfn := rfl
@[simp] theorem modExu_trc : (modExu f s).trc = s.trc := rfl
@[simp] theorem modExu_lio : (modExu f s).lio = s.lio := rfl
@[simp] theorem modExu_flt : (modExu f s).flt = s.flt := rfl
@[simp] theorem modExu_lnk : (modExu f s).lnk = s.lnk := rfl
end Exu

section Wou
variable (f : Washout → Washout) (s : State)
@[simp] theorem modWou_pending : (modWou f s).pending = s.pending := rfl
@[simp] theorem modWou_powered : (modWou f s).powered = s.powered := rfl
@[simp] theorem modWou_ptb : (modWou f s).ptb = s.ptb := rfl
@[simp] theorem modWou_rss : (modWou f s).rss = s.rss := rfl
@[simp] theorem modWou_din : (modWou f s).din = s.din := rfl
@[simp] theorem modWou_exu : (modWou f s).exu = s.exu := rfl
@[simp] theorem modWou_wou : (modWou f s).wou = f s.wou := rfl
@[simp] theorem modWou_dry : (modWou f s).dry = s.dry := rfl
@[simp] theorem modWou_lfn : (modWou f s).lfn = s.lfn := rfl
@[simp] theorem modWou_trc : (modWou f s).trc = s.trc := rfl
@[simp] theorem modWou_lio : (modWou f s).lio = s.lio := rfl
@[simp] theorem modWou_flt : (modWou f s).flt = s.flt := rfl
@[simp] theorem modWou_lnk : (modWou f s).lnk = s.lnk := rfl
end Wou

section Dry
variable (f : Dryer → Dryer) (s : State)
@[simp] theorem modDry_pending : (modDry f s).pending = s.pending := rfl
@[simp] theorem modDry_powered : (modDry f s).powered = s.powered := rfl
@[simp] theorem modDry_ptb : (modDry f s).ptb = s.ptb := rfl
@[simp] theorem modDry_rss : (modDry f s).rss = s.rss := rfl
@[simp] theorem modDry_din : (modDry f s).din = s.din := rfl
@[simp] theorem modDry_exu : (modDry f s).exu = s.exu := rfl
@[simp] theorem modDry_wou : (modDry f s).wou = s.wou := rfl
@[simp] theorem modDry_dry : (modDry f s).dry = f s.dry := rfl
@[simp] theorem modDry_lfn : (modDry f s).lfn = s.lfn := rfl
@[simp] theorem modDry_trc : (modDry f s).trc = s.trc := rfl
@[simp] theorem modDry_lio : (modDry f s).lio = s.lio := rfl
@[simp] theorem modDry_flt : (modDry f s).flt = s.flt := rfl
@[simp] theorem modDry_lnk : (modDry f s).lnk = s.lnk := rfl
end Dry

section Lfn
variable (f : Finisher → Finisher) (s : State)
@[simp] theorem modLfn_pending : (modLfn f s).pending = s.pending := rfl
@[simp] theorem modLfn_powered : (modLfn f s).powered = s.powered := rfl
@[simp] theorem modLfn_ptb : (modLfn f s).ptb = s.ptb := rfl
@[simp] theorem modLfn_rss : (modLfn f s).rss = s.rss := rfl
@[simp] theorem modLfn_din : (modLfn f s).din = s.din := rfl
@[simp] theorem modLfn_exu : (modLfn f s).exu = s.exu := rfl
@[simp] theorem modLfn_wou : (modLfn f s).wou = s.wou := rfl
@[simp] theorem modLfn_dry : (modLfn f s).dry = s.dry := rfl
@[simp] theorem modLfn_lfn : (modLfn f s).lfn = f s.lfn := rfl
@[simp] theorem modLfn_trc : (modLfn f s).trc = s.trc := rfl
@[simp] theorem modLfn_lio : (modLfn f s).lio = s.lio := rfl
@[simp] theorem modLfn_flt : (modLfn f s).flt = s.flt := rfl
@[simp] theorem modLfn_lnk : (modLfn f s).lnk = s.lnk := rfl
end Lfn

section Trc
variable (f : Transfer → Transfer) (s : State)
@[simp] theorem modTrc_pending : (modTrc f s).pending = s.pending := rfl
@[simp] theorem modTrc_powered : (modTrc f s).powered = s.powered := rfl
@[simp] theorem modTrc_ptb : (modTrc f s).ptb = s.ptb := rfl
@[simp] theorem modTrc_rss : (modTrc f s).rss = s.rss := rfl
@[simp] theorem modTrc_din : (modTrc f s).din = s.din := rfl
@[simp] theorem modTrc_exu : (modTrc f s).exu = s.exu := rfl
@[simp] theorem modTrc_wou : (modTrc f s).wou = s.wou := rfl
@[simp] theorem modTrc_dry : (modTrc f s).dry = s.dry := rfl
@[simp] theorem modTrc_lfn : (modTrc f s).lfn = s.lfn := rfl
@[simp] theorem modTrc_trc : (modTrc f s).trc = f s.trc := rfl
@[simp] theorem modTrc_lio : (modTrc f s).lio = s.lio := rfl
@[simp] theorem modTrc_flt : (modTrc f s).flt = s.flt := rfl
@[simp] theorem modTrc_lnk : (modTrc f s).lnk = s.lnk := rfl
end Trc

section Lio
variable (f : LineIo → LineIo) (s : State)
@[simp] theorem modLio_pending : (modLio f s).pending = s.pending := rfl
@[simp] theorem modLio_powered : (modLio f s).powered = s.powered := rfl
@[simp] theorem modLio_ptb : (modLio f s).ptb = s.ptb := rfl
@[simp] theorem modLio_rss : (modLio f s).rss = s.rss := rfl
@[simp] theorem modLio_din : (modLio f s).din = s.din := rfl
@[simp] theorem modLio_exu : (modLio f s).exu = s.exu := rfl
@[simp] theorem modLio_wou : (modLio f s).wou = s.wou := rfl
@[simp] theorem modLio_dry : (modLio f s).dry = s.dry := rfl
@[simp] theorem modLio_lfn : (modLio f s).lfn = s.lfn := rfl
@[simp] theorem modLio_trc : (modLio f s).trc = s.trc := rfl
@[simp] theorem modLio_lio : (modLio f s).lio = f s.lio := rfl
@[simp] theorem modLio_flt : (modLio f s).flt = s.flt := rfl
@[simp] theorem modLio_lnk : (modLio f s).lnk = s.lnk := rfl
end Lio

section Flt
variable (f : FaultMonitor → FaultMonitor) (s : State)
@[simp] theorem modFlt_pending : (modFlt f s).pending = s.pending := rfl
@[simp] theorem modFlt_powered : (modFlt f s).powered = s.powered := rfl
@[simp] theorem modFlt_ptb : (modFlt f s).ptb = s.ptb := rfl
@[simp] theorem modFlt_rss : (modFlt f s).rss = s.rss := rfl
@[simp] theorem modFlt_din : (modFlt f s).din = s.din := rfl
@[simp] theorem modFlt_exu : (modFlt f s).exu = s.exu := rfl
@[simp] theorem modFlt_wou : (modFlt f s).wou = s.wou := rfl
@[simp] theorem modFlt_dry : (modFlt f s).dry = s.dry := rfl
@[simp] theorem modFlt_lfn : (modFlt f s).lfn = s.lfn := rfl
@[simp] theorem modFlt_trc : (modFlt f s).trc = s.trc := rfl
@[simp] theorem modFlt_lio : (modFlt f s).lio = s.lio := rfl
@[simp] theorem modFlt_flt : (modFlt f s).flt = f s.flt := rfl
@[simp] theorem modFlt_lnk : (modFlt f s).lnk = s.lnk := rfl
end Flt

section Lnk
variable (f : Link → Link) (s : State)
@[simp] theorem modLnk_pending : (modLnk f s).pending = s.pending := rfl
@[simp] theorem modLnk_powered : (modLnk f s).powered = s.powered := rfl
@[simp] theorem modLnk_ptb : (modLnk f s).ptb = s.ptb := rfl
@[simp] theorem modLnk_rss : (modLnk f s).rss = s.rss := rfl
@[simp] theorem modLnk_din : (modLnk f s).din = s.din := rfl
@[simp] theorem modLnk_exu : (modLnk f s).exu = s.exu := rfl
@[simp] theorem modLnk_wou : (modLnk f s).wou = s.wou := rfl
@[simp] theorem modLnk_dry : (modLnk f s).dry = s.dry := rfl
@[simp] theorem modLnk_lfn : (modLnk f s).lfn = s.lfn := rfl
@[simp] theorem modLnk_trc : (modLnk f s).trc = s.trc := rfl
@[simp] theorem modLnk_lio : (modLnk f s).lio = s.lio := rfl
@[simp] theorem modLnk_flt : (modLnk f s).flt = s.flt := rfl
@[simp] theorem modLnk_lnk : (modLnk f s).lnk = f s.lnk := rfl
end Lnk

/-! ### Values by channel -/

section Channels
variable {α : Type}

@[simp] theorem PerLamp.get_set_self (p : PerLamp α) (c : LampChannel) (v : α) : (p.set c v).get c = v := by cases c <;> rfl

theorem PerLamp.get_set_of_ne (p : PerLamp α) {c d : LampChannel} (v : α) (h : d ≠ c) : (p.set c v).get d = p.get d := by
  cases c <;> cases d <;> first | rfl | exact absurd rfl h

theorem PerLamp.get_set (p : PerLamp α) (c d : LampChannel) (v : α) :
    (p.set c v).get d = if d = c then v else p.get d := by cases c <;> cases d <;> rfl

@[simp] theorem PerDrive.get_set_self (p : PerDrive α) (c : DriveChannel) (v : α) : (p.set c v).get c = v := by
  cases c <;> rfl

theorem PerDrive.get_set_of_ne (p : PerDrive α) {c d : DriveChannel} (v : α) (h : d ≠ c) :
    (p.set c v).get d = p.get d := by cases c <;> cases d <;> first | rfl | exact absurd rfl h

theorem PerDrive.get_set (p : PerDrive α) (c d : DriveChannel) (v : α) :
    (p.set c v).get d = if d = c then v else p.get d := by cases c <;> cases d <;> rfl

end Channels

/-! ### A value kept by each step of a fold is kept by the fold -/

theorem foldl_keeps {α β γ : Type} (g : β → γ) (f : β → α → β) (h : ∀ b a, g (f b a) = g b) (l : List α) (b : β) :
    g (l.foldl f b) = g b := by
  induction l generalizing b with
  | nil => rfl
  | cons a l ih => rw [List.foldl_cons, ih, h]

/-! ### The record in a slot -/

section Plates
variable (j k : Slot) (r : Option PlateRecord) (s : State)

theorem plateAt_setPlate : plateAt (setPlate k r s) j = if j = k then r else plateAt s j := by
  simp only [plateAt, setPlate, modPtb, Vector.getElem_set, Fin.ext_iff, eq_comm (a := j.val)]

@[simp] theorem plateAt_setPlate_self : plateAt (setPlate k r s) k = r := by simp [plateAt_setPlate]

end Plates

end Sys2Proof.Machine
end

