-- ==== Sys2Proof/Laws/FramesDose.lean ====
section
/-! SUPPORT. What each shared operation over the plate table, the lines, the store and the dose integrator leaves as it is. -/

namespace Sys2Proof.Machine

/-! ### A fold of steps each of which leaves a part of the state leaves it -/

section Folds
variable {α : Type} (f : State → α → State) (l : List α) (s : State)
@[simp] theorem foldl_din (h : ∀ t a, (f t a).din = t.din) : (l.foldl f s).din = s.din :=
  foldl_keeps (fun t => t.din) f h l s
@[simp] theorem foldl_din_channels (h : ∀ t a, (f t a).din.channels = t.din.channels) : (l.foldl f s).din.channels = s.din.channels :=
  foldl_keeps (fun t => t.din.channels) f h l s
@[simp] theorem foldl_din_lampOn (h : ∀ t a, (f t a).din.lampOn = t.din.lampOn) : (l.foldl f s).din.lampOn = s.din.lampOn :=
  foldl_keeps (fun t => t.din.lampOn) f h l s
@[simp] theorem foldl_din_trace (h : ∀ t a, (f t a).din.trace = t.din.trace) : (l.foldl f s).din.trace = s.din.trace :=
  foldl_keeps (fun t => t.din.trace) f h l s
@[simp] theorem foldl_dry (h : ∀ t a, (f t a).dry = t.dry) : (l.foldl f s).dry = s.dry :=
  foldl_keeps (fun t => t.dry) f h l s
@[simp] theorem foldl_dry_clock (h : ∀ t a, (f t a).dry.clock = t.dry.clock) : (l.foldl f s).dry.clock = s.dry.clock :=
  foldl_keeps (fun t => t.dry.clock) f h l s
@[simp] theorem foldl_dry_drawers (h : ∀ t a, (f t a).dry.drawers = t.dry.drawers) : (l.foldl f s).dry.drawers = s.dry.drawers :=
  foldl_keeps (fun t => t.dry.drawers) f h l s
@[simp] theorem foldl_exu (h : ∀ t a, (f t a).exu = t.exu) : (l.foldl f s).exu = s.exu :=
  foldl_keeps (fun t => t.exu) f h l s
@[simp] theorem foldl_exu_plate (h : ∀ t a, (f t a).exu.plate = t.exu.plate) : (l.foldl f s).exu.plate = s.exu.plate :=
  foldl_keeps (fun t => t.exu.plate) f h l s
@[simp] theorem foldl_exu_state (h : ∀ t a, (f t a).exu.state = t.exu.state) : (l.foldl f s).exu.state = s.exu.state :=
  foldl_keeps (fun t => t.exu.state) f h l s
@[simp] theorem foldl_flt (h : ∀ t a, (f t a).flt = t.flt) : (l.foldl f s).flt = s.flt :=
  foldl_keeps (fun t => t.flt) f h l s
@[simp] theorem foldl_flt_cause (h : ∀ t a, (f t a).flt.cause = t.flt.cause) : (l.foldl f s).flt.cause = s.flt.cause :=
  foldl_keeps (fun t => t.flt.cause) f h l s
@[simp] theorem foldl_flt_flags (h : ∀ t a, (f t a).flt.flags = t.flt.flags) : (l.foldl f s).flt.flags = s.flt.flags :=
  foldl_keeps (fun t => t.flt.flags) f h l s
@[simp] theorem foldl_flt_lineState (h : ∀ t a, (f t a).flt.lineState = t.flt.lineState) : (l.foldl f s).flt.lineState = s.flt.lineState :=
  foldl_keeps (fun t => t.flt.lineState) f h l s
@[simp] theorem foldl_flt_masks (h : ∀ t a, (f t a).flt.masks = t.flt.masks) : (l.foldl f s).flt.masks = s.flt.masks :=
  foldl_keeps (fun t => t.flt.masks) f h l s
@[simp] theorem foldl_lfn (h : ∀ t a, (f t a).lfn = t.lfn) : (l.foldl f s).lfn = s.lfn :=
  foldl_keeps (fun t => t.lfn) f h l s
@[simp] theorem foldl_lfn_plate (h : ∀ t a, (f t a).lfn.plate = t.lfn.plate) : (l.foldl f s).lfn.plate = s.lfn.plate :=
  foldl_keeps (fun t => t.lfn.plate) f h l s
@[simp] theorem foldl_lfn_state (h : ∀ t a, (f t a).lfn.state = t.lfn.state) : (l.foldl f s).lfn.state = s.lfn.state :=
  foldl_keeps (fun t => t.lfn.state) f h l s
@[simp] theorem foldl_lio (h : ∀ t a, (f t a).lio = t.lio) : (l.foldl f s).lio = s.lio :=
  foldl_keeps (fun t => t.lio) f h l s
@[simp] theorem foldl_lio_drives (h : ∀ t a, (f t a).lio.drives = t.lio.drives) : (l.foldl f s).lio.drives = s.lio.drives :=
  foldl_keeps (fun t => t.lio.drives) f h l s
@[simp] theorem foldl_lio_inputs (h : ∀ t a, (f t a).lio.inputs = t.lio.inputs) : (l.foldl f s).lio.inputs = s.lio.inputs :=
  foldl_keeps (fun t => t.lio.inputs) f h l s
@[simp] theorem foldl_lio_lamps (h : ∀ t a, (f t a).lio.lamps = t.lio.lamps) : (l.foldl f s).lio.lamps = s.lio.lamps :=
  foldl_keeps (fun t => t.lio.lamps) f h l s
@[simp] theorem foldl_lio_outputs (h : ∀ t a, (f t a).lio.outputs = t.lio.outputs) : (l.foldl f s).lio.outputs = s.lio.outputs :=
  foldl_keeps (fun t => t.lio.outputs) f h l s
@[simp] theorem foldl_lnk (h : ∀ t a, (f t a).lnk = t.lnk) : (l.foldl f s).lnk = s.lnk :=
  foldl_keeps (fun t => t.lnk) f h l s
@[simp] theorem foldl_lnk_inService (h : ∀ t a, (f t a).lnk.inService = t.lnk.inService) : (l.foldl f s).lnk.inService = s.lnk.inService :=
  foldl_keeps (fun t => t.lnk.inService) f h l s
@[simp] theorem foldl_lnk_parser (h : ∀ t a, (f t a).lnk.parser = t.lnk.parser) : (l.foldl f s).lnk.parser = s.lnk.parser :=
  foldl_keeps (fun t => t.lnk.parser) f h l s
@[simp] theorem foldl_lnk_rx (h : ∀ t a, (f t a).lnk.rx = t.lnk.rx) : (l.foldl f s).lnk.rx = s.lnk.rx :=
  foldl_keeps (fun t => t.lnk.rx) f h l s
@[simp] theorem foldl_lnk_tx (h : ∀ t a, (f t a).lnk.tx = t.lnk.tx) : (l.foldl f s).lnk.tx = s.lnk.tx :=
  foldl_keeps (fun t => t.lnk.tx) f h l s
@[simp] theorem foldl_lnk_watchdog (h : ∀ t a, (f t a).lnk.watchdog = t.lnk.watchdog) : (l.foldl f s).lnk.watchdog = s.lnk.watchdog :=
  foldl_keeps (fun t => t.lnk.watchdog) f h l s
@[simp] theorem foldl_pending (h : ∀ t a, (f t a).pending = t.pending) : (l.foldl f s).pending = s.pending :=
  foldl_keeps (fun t => t.pending) f h l s
@[simp] theorem foldl_powered (h : ∀ t a, (f t a).powered = t.powered) : (l.foldl f s).powered = s.powered :=
  foldl_keeps (fun t => t.powered) f h l s
@[simp] theorem foldl_ptb (h : ∀ t a, (f t a).ptb = t.ptb) : (l.foldl f s).ptb = s.ptb :=
  foldl_keeps (fun t => t.ptb) f h l s
@[simp] theorem foldl_ptb_lastUnmatched (h : ∀ t a, (f t a).ptb.lastUnmatched = t.ptb.lastUnmatched) : (l.foldl f s).ptb.lastUnmatched = s.ptb.lastUnmatched :=
  foldl_keeps (fun t => t.ptb.lastUnmatched) f h l s
@[simp] theorem foldl_ptb_plates (h : ∀ t a, (f t a).ptb.plates = t.ptb.plates) : (l.foldl f s).ptb.plates = s.ptb.plates :=
  foldl_keeps (fun t => t.ptb.plates) f h l s
@[simp] theorem foldl_ptb_queue (h : ∀ t a, (f t a).ptb.queue = t.ptb.queue) : (l.foldl f s).ptb.queue = s.ptb.queue :=
  foldl_keeps (fun t => t.ptb.queue) f h l s
@[simp] theorem foldl_rss (h : ∀ t a, (f t a).rss = t.rss) : (l.foldl f s).rss = s.rss :=
  foldl_keeps (fun t => t.rss) f h l s
@[simp] theorem foldl_rss_bankA (h : ∀ t a, (f t a).rss.bankA = t.rss.bankA) : (l.foldl f s).rss.bankA = s.rss.bankA :=
  foldl_keeps (fun t => t.rss.bankA) f h l s
@[simp] theorem foldl_rss_bankB (h : ∀ t a, (f t a).rss.bankB = t.rss.bankB) : (l.foldl f s).rss.bankB = s.rss.bankB :=
  foldl_keeps (fun t => t.rss.bankB) f h l s
@[simp] theorem foldl_rss_counters (h : ∀ t a, (f t a).rss.counters = t.rss.counters) : (l.foldl f s).rss.counters = s.rss.counters :=
  foldl_keeps (fun t => t.rss.counters) f h l s
@[simp] theorem foldl_rss_save (h : ∀ t a, (f t a).rss.save = t.rss.save) : (l.foldl f s).rss.save = s.rss.save :=
  foldl_keeps (fun t => t.rss.save) f h l s
@[simp] theorem foldl_rss_unsaved (h : ∀ t a, (f t a).rss.unsaved = t.rss.unsaved) : (l.foldl f s).rss.unsaved = s.rss.unsaved :=
  foldl_keeps (fun t => t.rss.unsaved) f h l s
@[simp] theorem foldl_rss_working (h : ∀ t a, (f t a).rss.working = t.rss.working) : (l.foldl f s).rss.working = s.rss.working :=
  foldl_keeps (fun t => t.rss.working) f h l s
@[simp] theorem foldl_trc (h : ∀ t a, (f t a).trc = t.trc) : (l.foldl f s).trc = s.trc :=
  foldl_keeps (fun t => t.trc) f h l s
@[simp] theorem foldl_trc_elevator (h : ∀ t a, (f t a).trc.elevator = t.trc.elevator) : (l.foldl f s).trc.elevator = s.trc.elevator :=
  foldl_keeps (fun t => t.trc.elevator) f h l s
@[simp] theorem foldl_trc_handoff (h : ∀ t a, (f t a).trc.handoff = t.trc.handoff) : (l.foldl f s).trc.handoff = s.trc.handoff :=
  foldl_keeps (fun t => t.trc.handoff) f h l s
@[simp] theorem foldl_trc_level (h : ∀ t a, (f t a).trc.level = t.trc.level) : (l.foldl f s).trc.level = s.trc.level :=
  foldl_keeps (fun t => t.trc.level) f h l s
@[simp] theorem foldl_trc_request (h : ∀ t a, (f t a).trc.request = t.trc.request) : (l.foldl f s).trc.request = s.trc.request :=
  foldl_keeps (fun t => t.trc.request) f h l s
@[simp] theorem foldl_trc_table (h : ∀ t a, (f t a).trc.table = t.trc.table) : (l.foldl f s).trc.table = s.trc.table :=
  foldl_keeps (fun t => t.trc.table) f h l s
@[simp] theorem foldl_wou (h : ∀ t a, (f t a).wou = t.wou) : (l.foldl f s).wou = s.wou :=
  foldl_keeps (fun t => t.wou) f h l s
@[simp] theorem foldl_wou_committed (h : ∀ t a, (f t a).wou.committed = t.wou.committed) : (l.foldl f s).wou.committed = s.wou.committed :=
  foldl_keeps (fun t => t.wou.committed) f h l s
@[simp] theorem foldl_wou_lambda (h : ∀ t a, (f t a).wou.lambda = t.wou.lambda) : (l.foldl f s).wou.lambda = s.wou.lambda :=
  foldl_keeps (fun t => t.wou.lambda) f h l s
@[simp] theorem foldl_wou_list (h : ∀ t a, (f t a).wou.list = t.wou.list) : (l.foldl f s).wou.list = s.wou.list :=
  foldl_keeps (fun t => t.wou.list) f h l s
@[simp] theorem foldl_wou_replenish (h : ∀ t a, (f t a).wou.replenish = t.wou.replenish) : (l.foldl f s).wou.replenish = s.wou.replenish :=
  foldl_keeps (fun t => t.wou.replenish) f h l s
@[simp] theorem foldl_wou_transport (h : ∀ t a, (f t a).wou.transport = t.wou.transport) : (l.foldl f s).wou.transport = s.wou.transport :=
  foldl_keeps (fun t => t.wou.transport) f h l s
end Folds

/-! ### Ops -/

@[simp] theorem raiseAttn_frame (a : AttnItem) (s : State) :
    (raiseAttn a s).pending = s.pending ∧ (raiseAttn a s).powered = s.powered ∧ (raiseAttn a s).ptb = s.ptb
    ∧ (raiseAttn a s).rss = s.rss ∧ (raiseAttn a s).din = s.din ∧ (raiseAttn a s).exu = s.exu
    ∧ (raiseAttn a s).wou = s.wou ∧ (raiseAttn a s).dry = s.dry ∧ (raiseAttn a s).lfn = s.lfn
    ∧ (raiseAttn a s).trc = s.trc ∧ (raiseAttn a s).lio = s.lio ∧ (raiseAttn a s).flt = s.flt
    ∧ (raiseAttn a s).lnk.parser = s.lnk.parser ∧ (raiseAttn a s).lnk.inService = s.lnk.inService
    ∧ (raiseAttn a s).lnk.rx = s.lnk.rx ∧ (raiseAttn a s).lnk.tx = s.lnk.tx
    ∧ (raiseAttn a s).lnk.watchdog = s.lnk.watchdog := by
  unfold raiseAttn
  (repeat' split) <;> simp

@[simp] theorem setPlate_frame (k : Slot) (r : Option PlateRecord) (s : State) :
    (setPlate k r s).pending = s.pending ∧ (setPlate k r s).powered = s.powered ∧ (setPlate k r s).ptb.queue = s.ptb.queue
    ∧ (setPlate k r s).ptb.lastUnmatched = s.ptb.lastUnmatched ∧ (setPlate k r s).rss = s.rss
    ∧ (setPlate k r s).din = s.din ∧ (setPlate k r s).exu = s.exu ∧ (setPlate k r s).wou = s.wou
    ∧ (setPlate k r s).dry = s.dry ∧ (setPlate k r s).lfn = s.lfn ∧ (setPlate k r s).trc = s.trc
    ∧ (setPlate k r s).lio = s.lio ∧ (setPlate k r s).flt = s.flt ∧ (setPlate k r s).lnk = s.lnk := by
  unfold setPlate
  simp

@[simp] theorem modPlate_frame (k : Slot) (f : PlateRecord → PlateRecord) (s : State) :
    (modPlate k f s).pending = s.pending ∧ (modPlate k f s).powered = s.powered ∧ (modPlate k f s).ptb.queue = s.ptb.queue
    ∧ (modPlate k f s).ptb.lastUnmatched = s.ptb.lastUnmatched ∧ (modPlate k f s).rss = s.rss
    ∧ (modPlate k f s).din = s.din ∧ (modPlate k f s).exu = s.exu ∧ (modPlate k f s).wou = s.wou
    ∧ (modPlate k f s).dry = s.dry ∧ (modPlate k f s).lfn = s.lfn ∧ (modPlate k f s).trc = s.trc
    ∧ (modPlate k f s).lio = s.lio ∧ (modPlate k f s).flt = s.flt ∧ (modPlate k f s).lnk = s.lnk := by
  unfold modPlate
  (repeat' split) <;> simp

@[simp] theorem movePlate_frame (k : Slot) (src dst : PlateState) (f : PlateRecord → PlateRecord) (s : State) :
    (movePlate k src dst f s).pending = s.pending ∧ (movePlate k src dst f s).powered = s.powered
    ∧ (movePlate k src dst f s).ptb.queue = s.ptb.queue
    ∧ (movePlate k src dst f s).ptb.lastUnmatched = s.ptb.lastUnmatched ∧ (movePlate k src dst f s).rss = s.rss
    ∧ (movePlate k src dst f s).din = s.din ∧ (movePlate k src dst f s).exu = s.exu
    ∧ (movePlate k src dst f s).wou = s.wou ∧ (movePlate k src dst f s).dry = s.dry
    ∧ (movePlate k src dst f s).lfn = s.lfn ∧ (movePlate k src dst f s).trc = s.trc
    ∧ (movePlate k src dst f s).lio = s.lio ∧ (movePlate k src dst f s).flt = s.flt
    ∧ (movePlate k src dst f s).lnk = s.lnk := by
  unfold movePlate
  (repeat' split) <;> simp

@[simp] theorem addNotice_frame (k : Slot) (n : Notice) (s : State) :
    (addNotice k n s).pending = s.pending ∧ (addNotice k n s).powered = s.powered
    ∧ (addNotice k n s).ptb.queue = s.ptb.queue ∧ (addNotice k n s).ptb.lastUnmatched = s.ptb.lastUnmatched
    ∧ (addNotice k n s).rss = s.rss ∧ (addNotice k n s).din = s.din ∧ (addNotice k n s).exu = s.exu
    ∧ (addNotice k n s).wou = s.wou ∧ (addNotice k n s).dry = s.dry ∧ (addNotice k n s).lfn = s.lfn
    ∧ (addNotice k n s).trc = s.trc ∧ (addNotice k n s).lio = s.lio ∧ (addNotice k n s).flt = s.flt
    ∧ (addNotice k n s).lnk = s.lnk := by
  unfold addNotice
  simp

@[simp] theorem holdPlate_frame (k : Slot) (at_ : Station) (reason : HoldReason) (s : State) :
    (holdPlate k at_ reason s).pending = s.pending ∧ (holdPlate k at_ reason s).powered = s.powered
    ∧ (holdPlate k at_ reason s).ptb.queue = s.ptb.queue
    ∧ (holdPlate k at_ reason s).ptb.lastUnmatched = s.ptb.lastUnmatched ∧ (holdPlate k at_ reason s).rss = s.rss
    ∧ (holdPlate k at_ reason s).din = s.din ∧ (holdPlate k at_ reason s).exu = s.exu
    ∧ (holdPlate k at_ reason s).wou = s.wou ∧ (holdPlate k at_ reason s).dry = s.dry
    ∧ (holdPlate k at_ reason s).lfn = s.lfn ∧ (holdPlate k at_ reason s).trc = s.trc
    ∧ (holdPlate k at_ reason s).lio = s.lio ∧ (holdPlate k at_ reason s).flt = s.flt
    ∧ (holdPlate k at_ reason s).lnk.parser = s.lnk.parser ∧ (holdPlate k at_ reason s).lnk.inService = s.lnk.inService
    ∧ (holdPlate k at_ reason s).lnk.rx = s.lnk.rx ∧ (holdPlate k at_ reason s).lnk.tx = s.lnk.tx
    ∧ (holdPlate k at_ reason s).lnk.watchdog = s.lnk.watchdog := by
  unfold holdPlate
  (repeat' split) <;> simp

@[simp] theorem closeDone_frame (k : Slot) (s : State) :
    (closeDone k s).pending = s.pending ∧ (closeDone k s).powered = s.powered ∧ (closeDone k s).ptb.queue = s.ptb.queue
    ∧ (closeDone k s).ptb.lastUnmatched = s.ptb.lastUnmatched ∧ (closeDone k s).rss = s.rss ∧ (closeDone k s).din = s.din
    ∧ (closeDone k s).exu = s.exu ∧ (closeDone k s).wou = s.wou ∧ (closeDone k s).dry = s.dry
    ∧ (closeDone k s).lfn = s.lfn ∧ (closeDone k s).trc = s.trc ∧ (closeDone k s).lio = s.lio
    ∧ (closeDone k s).flt = s.flt ∧ (closeDone k s).lnk.parser = s.lnk.parser
    ∧ (closeDone k s).lnk.inService = s.lnk.inService ∧ (closeDone k s).lnk.rx = s.lnk.rx
    ∧ (closeDone k s).lnk.tx = s.lnk.tx ∧ (closeDone k s).lnk.watchdog = s.lnk.watchdog := by
  unfold closeDone
  (repeat' split) <;> simp

@[simp] theorem closeScrapped_frame (k : Slot) (s : State) :
    (closeScrapped k s).pending = s.pending ∧ (closeScrapped k s).powered = s.powered
    ∧ (closeScrapped k s).ptb.queue = s.ptb.queue ∧ (closeScrapped k s).ptb.lastUnmatched = s.ptb.lastUnmatched
    ∧ (closeScrapped k s).rss = s.rss ∧ (closeScrapped k s).din = s.din ∧ (closeScrapped k s).exu = s.exu
    ∧ (closeScrapped k s).wou = s.wou ∧ (closeScrapped k s).dry = s.dry ∧ (closeScrapped k s).lfn = s.lfn
    ∧ (closeScrapped k s).trc = s.trc ∧ (closeScrapped k s).lio = s.lio ∧ (closeScrapped k s).flt = s.flt
    ∧ (closeScrapped k s).lnk.parser = s.lnk.parser ∧ (closeScrapped k s).lnk.inService = s.lnk.inService
    ∧ (closeScrapped k s).lnk.rx = s.lnk.rx ∧ (closeScrapped k s).lnk.tx = s.lnk.tx
    ∧ (closeScrapped k s).lnk.watchdog = s.lnk.watchdog := by
  unfold closeScrapped
  (repeat' split) <;> simp

@[simp] theorem leaveQueue_frame (k : Slot) (s : State) :
    (leaveQueue k s).pending = s.pending ∧ (leaveQueue k s).powered = s.powered
    ∧ (leaveQueue k s).ptb.plates = s.ptb.plates ∧ (leaveQueue k s).ptb.lastUnmatched = s.ptb.lastUnmatched
    ∧ (leaveQueue k s).rss = s.rss ∧ (leaveQueue k s).din = s.din ∧ (leaveQueue k s).exu = s.exu
    ∧ (leaveQueue k s).wou = s.wou ∧ (leaveQueue k s).dry = s.dry ∧ (leaveQueue k s).lfn = s.lfn
    ∧ (leaveQueue k s).trc = s.trc ∧ (leaveQueue k s).lio = s.lio ∧ (leaveQueue k s).flt = s.flt
    ∧ (leaveQueue k s).lnk = s.lnk := by
  unfold leaveQueue
  simp

@[simp] theorem reportQueueEmpty_frame (s : State) :
    (reportQueueEmpty s).pending = s.pending ∧ (reportQueueEmpty s).powered = s.powered ∧ (reportQueueEmpty s).ptb = s.ptb
    ∧ (reportQueueEmpty s).rss = s.rss ∧ (reportQueueEmpty s).din = s.din ∧ (reportQueueEmpty s).exu = s.exu
    ∧ (reportQueueEmpty s).wou = s.wou ∧ (reportQueueEmpty s).dry = s.dry ∧ (reportQueueEmpty s).lfn = s.lfn
    ∧ (reportQueueEmpty s).trc = s.trc ∧ (reportQueueEmpty s).lio = s.lio ∧ (reportQueueEmpty s).flt = s.flt
    ∧ (reportQueueEmpty s).lnk.parser = s.lnk.parser ∧ (reportQueueEmpty s).lnk.inService = s.lnk.inService
    ∧ (reportQueueEmpty s).lnk.rx = s.lnk.rx ∧ (reportQueueEmpty s).lnk.tx = s.lnk.tx
    ∧ (reportQueueEmpty s).lnk.watchdog = s.lnk.watchdog := by
  unfold reportQueueEmpty
  (repeat' split) <;> simp

/-! ### LineIo -/

@[simp] theorem setInput_frame (i : Fin 12) (v : InputLine) (s : State) :
    (setInput i v s).pending = s.pending ∧ (setInput i v s).powered = s.powered ∧ (setInput i v s).ptb = s.ptb
    ∧ (setInput i v s).rss = s.rss ∧ (setInput i v s).din = s.din ∧ (setInput i v s).exu = s.exu
    ∧ (setInput i v s).wou = s.wou ∧ (setInput i v s).dry = s.dry ∧ (setInput i v s).lfn = s.lfn
    ∧ (setInput i v s).trc = s.trc ∧ (setInput i v s).lio.outputs = s.lio.outputs
    ∧ (setInput i v s).lio.drives = s.lio.drives ∧ (setInput i v s).lio.lamps = s.lio.lamps ∧ (setInput i v s).flt = s.flt
    ∧ (setInput i v s).lnk = s.lnk := by
  unfold setInput
  simp

@[simp] theorem setOutput_frame (i : Fin 8) (v : OutputLine) (s : State) :
    (setOutput i v s).pending = s.pending ∧ (setOutput i v s).powered = s.powered ∧ (setOutput i v s).ptb = s.ptb
    ∧ (setOutput i v s).rss = s.rss ∧ (setOutput i v s).din = s.din ∧ (setOutput i v s).exu = s.exu
    ∧ (setOutput i v s).wou = s.wou ∧ (setOutput i v s).dry = s.dry ∧ (setOutput i v s).lfn = s.lfn
    ∧ (setOutput i v s).trc = s.trc ∧ (setOutput i v s).lio.inputs = s.lio.inputs
    ∧ (setOutput i v s).lio.drives = s.lio.drives ∧ (setOutput i v s).lio.lamps = s.lio.lamps
    ∧ (setOutput i v s).flt = s.flt ∧ (setOutput i v s).lnk = s.lnk := by
  unfold setOutput
  simp

@[simp] theorem setDrawer_frame (d : DrawerNo) (v : Drawer) (s : State) :
    (setDrawer d v s).pending = s.pending ∧ (setDrawer d v s).powered = s.powered ∧ (setDrawer d v s).ptb = s.ptb
    ∧ (setDrawer d v s).rss = s.rss ∧ (setDrawer d v s).din = s.din ∧ (setDrawer d v s).exu = s.exu
    ∧ (setDrawer d v s).wou = s.wou ∧ (setDrawer d v s).dry.clock = s.dry.clock ∧ (setDrawer d v s).lfn = s.lfn
    ∧ (setDrawer d v s).trc = s.trc ∧ (setDrawer d v s).lio = s.lio ∧ (setDrawer d v s).flt = s.flt
    ∧ (setDrawer d v s).lnk = s.lnk := by
  unfold setDrawer
  simp

@[simp] theorem refreshOutput_frame (s : State) (i : Fin 8) :
    (refreshOutput s i).pending = s.pending ∧ (refreshOutput s i).powered = s.powered ∧ (refreshOutput s i).ptb = s.ptb
    ∧ (refreshOutput s i).rss = s.rss ∧ (refreshOutput s i).din = s.din ∧ (refreshOutput s i).exu = s.exu
    ∧ (refreshOutput s i).wou = s.wou ∧ (refreshOutput s i).dry = s.dry ∧ (refreshOutput s i).lfn = s.lfn
    ∧ (refreshOutput s i).trc = s.trc ∧ (refreshOutput s i).lio.inputs = s.lio.inputs
    ∧ (refreshOutput s i).lio.drives = s.lio.drives ∧ (refreshOutput s i).lio.lamps = s.lio.lamps
    ∧ (refreshOutput s i).flt = s.flt ∧ (refreshOutput s i).lnk = s.lnk := by
  unfold refreshOutput
  simp

@[simp] theorem refreshOutputs_frame (s : State) :
    (refreshOutputs s).pending = s.pending ∧ (refreshOutputs s).powered = s.powered ∧ (refreshOutputs s).ptb = s.ptb
    ∧ (refreshOutputs s).rss = s.rss ∧ (refreshOutputs s).din = s.din ∧ (refreshOutputs s).exu = s.exu
    ∧ (refreshOutputs s).wou = s.wou ∧ (refreshOutputs s).dry = s.dry ∧ (refreshOutputs s).lfn = s.lfn
    ∧ (refreshOutputs s).trc = s.trc ∧ (refreshOutputs s).lio.inputs = s.lio.inputs
    ∧ (refreshOutputs s).lio.drives = s.lio.drives ∧ (refreshOutputs s).lio.lamps = s.lio.lamps
    ∧ (refreshOutputs s).flt = s.flt ∧ (refreshOutputs s).lnk = s.lnk := by
  unfold refreshOutputs
  (repeat' split) <;> simp

@[simp] theorem setFlag_frame (f : Flag) (s : State) :
    (setFlag f s).pending = s.pending ∧ (setFlag f s).powered = s.powered ∧ (setFlag f s).ptb = s.ptb
    ∧ (setFlag f s).rss = s.rss ∧ (setFlag f s).din = s.din ∧ (setFlag f s).exu = s.exu ∧ (setFlag f s).wou = s.wou
    ∧ (setFlag f s).dry = s.dry ∧ (setFlag f s).lfn = s.lfn ∧ (setFlag f s).trc = s.trc
    ∧ (setFlag f s).lio.inputs = s.lio.inputs ∧ (setFlag f s).lio.drives = s.lio.drives
    ∧ (setFlag f s).lio.lamps = s.lio.lamps ∧ (setFlag f s).flt.lineState = s.flt.lineState
    ∧ (setFlag f s).flt.cause = s.flt.cause ∧ (setFlag f s).flt.masks = s.flt.masks
    ∧ (setFlag f s).lnk.parser = s.lnk.parser ∧ (setFlag f s).lnk.inService = s.lnk.inService
    ∧ (setFlag f s).lnk.rx = s.lnk.rx ∧ (setFlag f s).lnk.tx = s.lnk.tx ∧ (setFlag f s).lnk.watchdog = s.lnk.watchdog := by
  unfold setFlag
  dsimp only
  (repeat' split) <;> simp

@[simp] theorem clearFlag_frame (f : Flag) (s : State) :
    (clearFlag f s).pending = s.pending ∧ (clearFlag f s).powered = s.powered ∧ (clearFlag f s).ptb = s.ptb
    ∧ (clearFlag f s).rss = s.rss ∧ (clearFlag f s).din = s.din ∧ (clearFlag f s).exu = s.exu
    ∧ (clearFlag f s).wou = s.wou ∧ (clearFlag f s).dry = s.dry ∧ (clearFlag f s).lfn = s.lfn
    ∧ (clearFlag f s).trc = s.trc ∧ (clearFlag f s).lio.inputs = s.lio.inputs ∧ (clearFlag f s).lio.drives = s.lio.drives
    ∧ (clearFlag f s).lio.lamps = s.lio.lamps ∧ (clearFlag f s).flt.lineState = s.flt.lineState
    ∧ (clearFlag f s).flt.cause = s.flt.cause ∧ (clearFlag f s).flt.masks = s.flt.masks ∧ (clearFlag f s).lnk = s.lnk := by
  unfold clearFlag
  simp

@[simp] theorem setDrive_frame (c : DriveChannel) (v : Drive) (s : State) :
    (setDrive c v s).pending = s.pending ∧ (setDrive c v s).powered = s.powered ∧ (setDrive c v s).ptb = s.ptb
    ∧ (setDrive c v s).rss = s.rss ∧ (setDrive c v s).din = s.din ∧ (setDrive c v s).exu = s.exu
    ∧ (setDrive c v s).wou = s.wou ∧ (setDrive c v s).dry = s.dry ∧ (setDrive c v s).lfn = s.lfn
    ∧ (setDrive c v s).trc = s.trc ∧ (setDrive c v s).lio.inputs = s.lio.inputs
    ∧ (setDrive c v s).lio.outputs = s.lio.outputs ∧ (setDrive c v s).lio.lamps = s.lio.lamps
    ∧ (setDrive c v s).flt = s.flt ∧ (setDrive c v s).lnk = s.lnk := by
  unfold setDrive
  simp

@[simp] theorem setLamp_frame (c : LampChannel) (v : Lamp) (s : State) :
    (setLamp c v s).pending = s.pending ∧ (setLamp c v s).powered = s.powered ∧ (setLamp c v s).ptb = s.ptb
    ∧ (setLamp c v s).rss = s.rss ∧ (setLamp c v s).din = s.din ∧ (setLamp c v s).exu = s.exu
    ∧ (setLamp c v s).wou = s.wou ∧ (setLamp c v s).dry = s.dry ∧ (setLamp c v s).lfn = s.lfn
    ∧ (setLamp c v s).trc = s.trc ∧ (setLamp c v s).lio.inputs = s.lio.inputs
    ∧ (setLamp c v s).lio.outputs = s.lio.outputs ∧ (setLamp c v s).lio.drives = s.lio.drives
    ∧ (setLamp c v s).flt = s.flt ∧ (setLamp c v s).lnk = s.lnk := by
  unfold setLamp
  simp

@[simp] theorem driveOn_frame (c : DriveChannel) (sp : Setpoint) (s : State) :
    (driveOn c sp s).pending = s.pending ∧ (driveOn c sp s).powered = s.powered ∧ (driveOn c sp s).ptb = s.ptb
    ∧ (driveOn c sp s).rss = s.rss ∧ (driveOn c sp s).din = s.din ∧ (driveOn c sp s).exu = s.exu
    ∧ (driveOn c sp s).wou = s.wou ∧ (driveOn c sp s).dry = s.dry ∧ (driveOn c sp s).lfn = s.lfn
    ∧ (driveOn c sp s).trc = s.trc ∧ (driveOn c sp s).lio.inputs = s.lio.inputs
    ∧ (driveOn c sp s).lio.outputs = s.lio.outputs ∧ (driveOn c sp s).lio.lamps = s.lio.lamps
    ∧ (driveOn c sp s).flt = s.flt ∧ (driveOn c sp s).lnk = s.lnk := by
  unfold driveOn
  (repeat' split) <;> simp

@[simp] theorem driveOff_frame (c : DriveChannel) (s : State) :
    (driveOff c s).pending = s.pending ∧ (driveOff c s).powered = s.powered ∧ (driveOff c s).ptb = s.ptb
    ∧ (driveOff c s).rss = s.rss ∧ (driveOff c s).din = s.din ∧ (driveOff c s).exu = s.exu ∧ (driveOff c s).wou = s.wou
    ∧ (driveOff c s).dry = s.dry ∧ (driveOff c s).lfn = s.lfn ∧ (driveOff c s).trc = s.trc
    ∧ (driveOff c s).lio.inputs = s.lio.inputs ∧ (driveOff c s).lio.outputs = s.lio.outputs
    ∧ (driveOff c s).lio.lamps = s.lio.lamps ∧ (driveOff c s).flt = s.flt ∧ (driveOff c s).lnk = s.lnk := by
  unfold driveOff
  (repeat' split) <;> simp

@[simp] theorem driveSet_frame (c : DriveChannel) (sp : Setpoint) (s : State) :
    (driveSet c sp s).pending = s.pending ∧ (driveSet c sp s).powered = s.powered ∧ (driveSet c sp s).ptb = s.ptb
    ∧ (driveSet c sp s).rss = s.rss ∧ (driveSet c sp s).din = s.din ∧ (driveSet c sp s).exu = s.exu
    ∧ (driveSet c sp s).wou = s.wou ∧ (driveSet c sp s).dry = s.dry ∧ (driveSet c sp s).lfn = s.lfn
    ∧ (driveSet c sp s).trc = s.trc ∧ (driveSet c sp s).lio.inputs = s.lio.inputs
    ∧ (driveSet c sp s).lio.outputs = s.lio.outputs ∧ (driveSet c sp s).lio.lamps = s.lio.lamps
    ∧ (driveSet c sp s).flt = s.flt ∧ (driveSet c sp s).lnk = s.lnk := by
  unfold driveSet
  (repeat' split) <;> simp

@[simp] theorem lampOn_frame (c : LampChannel) (level : Nat) (s : State) :
    (lampOn c level s).pending = s.pending ∧ (lampOn c level s).powered = s.powered ∧ (lampOn c level s).ptb = s.ptb
    ∧ (lampOn c level s).rss = s.rss ∧ (lampOn c level s).din = s.din ∧ (lampOn c level s).exu = s.exu
    ∧ (lampOn c level s).wou = s.wou ∧ (lampOn c level s).dry = s.dry ∧ (lampOn c level s).lfn = s.lfn
    ∧ (lampOn c level s).trc = s.trc ∧ (lampOn c level s).lio.inputs = s.lio.inputs
    ∧ (lampOn c level s).lio.drives = s.lio.drives ∧ (lampOn c level s).flt = s.flt ∧ (lampOn c level s).lnk = s.lnk := by
  unfold lampOn
  (repeat' split) <;> simp

@[simp] theorem lampOff_frame (c : LampChannel) (s : State) :
    (lampOff c s).pending = s.pending ∧ (lampOff c s).powered = s.powered ∧ (lampOff c s).ptb = s.ptb
    ∧ (lampOff c s).rss = s.rss ∧ (lampOff c s).din = s.din ∧ (lampOff c s).exu = s.exu ∧ (lampOff c s).wou = s.wou
    ∧ (lampOff c s).dry = s.dry ∧ (lampOff c s).lfn = s.lfn ∧ (lampOff c s).trc = s.trc
    ∧ (lampOff c s).lio.inputs = s.lio.inputs ∧ (lampOff c s).lio.drives = s.lio.drives ∧ (lampOff c s).flt = s.flt
    ∧ (lampOff c s).lnk = s.lnk := by
  unfold lampOff
  (repeat' split) <;> simp

@[simp] theorem lampSet_frame (c : LampChannel) (level : Nat) (s : State) :
    (lampSet c level s).pending = s.pending ∧ (lampSet c level s).powered = s.powered ∧ (lampSet c level s).ptb = s.ptb
    ∧ (lampSet c level s).rss = s.rss ∧ (lampSet c level s).din = s.din ∧ (lampSet c level s).exu = s.exu
    ∧ (lampSet c level s).wou = s.wou ∧ (lampSet c level s).dry = s.dry ∧ (lampSet c level s).lfn = s.lfn
    ∧ (lampSet c level s).trc = s.trc ∧ (lampSet c level s).lio.inputs = s.lio.inputs
    ∧ (lampSet c level s).lio.outputs = s.lio.outputs ∧ (lampSet c level s).lio.drives = s.lio.drives
    ∧ (lampSet c level s).flt = s.flt ∧ (lampSet c level s).lnk = s.lnk := by
  unfold lampSet
  (repeat' split) <;> simp

/-! ### Store -/

@[simp] theorem beginCountersWrite_frame (s : State) :
    (beginCountersWrite s).pending = s.pending ∧ (beginCountersWrite s).powered = s.powered
    ∧ (beginCountersWrite s).ptb = s.ptb ∧ (beginCountersWrite s).rss.working = s.rss.working
    ∧ (beginCountersWrite s).rss.unsaved = s.rss.unsaved ∧ (beginCountersWrite s).rss.bankA = s.rss.bankA
    ∧ (beginCountersWrite s).rss.bankB = s.rss.bankB ∧ (beginCountersWrite s).rss.save = s.rss.save
    ∧ (beginCountersWrite s).din = s.din ∧ (beginCountersWrite s).exu = s.exu ∧ (beginCountersWrite s).wou = s.wou
    ∧ (beginCountersWrite s).dry = s.dry ∧ (beginCountersWrite s).lfn = s.lfn ∧ (beginCountersWrite s).trc = s.trc
    ∧ (beginCountersWrite s).lio = s.lio ∧ (beginCountersWrite s).flt = s.flt ∧ (beginCountersWrite s).lnk = s.lnk := by
  unfold beginCountersWrite
  simp

@[simp] theorem askCountersWrite_frame (s : State) :
    (askCountersWrite s).pending = s.pending ∧ (askCountersWrite s).powered = s.powered ∧ (askCountersWrite s).ptb = s.ptb
    ∧ (askCountersWrite s).rss.working = s.rss.working ∧ (askCountersWrite s).rss.unsaved = s.rss.unsaved
    ∧ (askCountersWrite s).rss.bankA = s.rss.bankA ∧ (askCountersWrite s).rss.bankB = s.rss.bankB
    ∧ (askCountersWrite s).rss.save = s.rss.save ∧ (askCountersWrite s).din = s.din ∧ (askCountersWrite s).exu = s.exu
    ∧ (askCountersWrite s).wou = s.wou ∧ (askCountersWrite s).dry = s.dry ∧ (askCountersWrite s).lfn = s.lfn
    ∧ (askCountersWrite s).trc = s.trc ∧ (askCountersWrite s).lio = s.lio ∧ (askCountersWrite s).flt = s.flt
    ∧ (askCountersWrite s).lnk = s.lnk := by
  unfold askCountersWrite
  (repeat' split) <;> simp

@[simp] theorem startWaitingCounters_frame (s : State) :
    (startWaitingCounters s).pending = s.pending ∧ (startWaitingCounters s).powered = s.powered
    ∧ (startWaitingCounters s).ptb = s.ptb ∧ (startWaitingCounters s).rss.working = s.rss.working
    ∧ (startWaitingCounters s).rss.unsaved = s.rss.unsaved ∧ (startWaitingCounters s).rss.bankA = s.rss.bankA
    ∧ (startWaitingCounters s).rss.bankB = s.rss.bankB ∧ (startWaitingCounters s).rss.save = s.rss.save
    ∧ (startWaitingCounters s).din = s.din ∧ (startWaitingCounters s).exu = s.exu ∧ (startWaitingCounters s).wou = s.wou
    ∧ (startWaitingCounters s).dry = s.dry ∧ (startWaitingCounters s).lfn = s.lfn ∧ (startWaitingCounters s).trc = s.trc
    ∧ (startWaitingCounters s).lio = s.lio ∧ (startWaitingCounters s).flt = s.flt ∧ (startWaitingCounters s).lnk = s.lnk := by
  unfold startWaitingCounters
  (repeat' split) <;> simp

@[simp] theorem endCountersWrite_frame (verified : Bool) (s : State) :
    (endCountersWrite verified s).pending = s.pending ∧ (endCountersWrite verified s).powered = s.powered
    ∧ (endCountersWrite verified s).ptb = s.ptb ∧ (endCountersWrite verified s).rss.working = s.rss.working
    ∧ (endCountersWrite verified s).rss.unsaved = s.rss.unsaved ∧ (endCountersWrite verified s).rss.bankA = s.rss.bankA
    ∧ (endCountersWrite verified s).rss.bankB = s.rss.bankB ∧ (endCountersWrite verified s).rss.save = s.rss.save
    ∧ (endCountersWrite verified s).din = s.din ∧ (endCountersWrite verified s).exu = s.exu
    ∧ (endCountersWrite verified s).wou = s.wou ∧ (endCountersWrite verified s).dry = s.dry
    ∧ (endCountersWrite verified s).lfn = s.lfn ∧ (endCountersWrite verified s).trc = s.trc
    ∧ (endCountersWrite verified s).lio.inputs = s.lio.inputs ∧ (endCountersWrite verified s).lio.drives = s.lio.drives
    ∧ (endCountersWrite verified s).lio.lamps = s.lio.lamps
    ∧ (endCountersWrite verified s).flt.lineState = s.flt.lineState
    ∧ (endCountersWrite verified s).flt.cause = s.flt.cause ∧ (endCountersWrite verified s).flt.masks = s.flt.masks
    ∧ (endCountersWrite verified s).lnk.parser = s.lnk.parser
    ∧ (endCountersWrite verified s).lnk.inService = s.lnk.inService ∧ (endCountersWrite verified s).lnk.rx = s.lnk.rx
    ∧ (endCountersWrite verified s).lnk.tx = s.lnk.tx ∧ (endCountersWrite verified s).lnk.watchdog = s.lnk.watchdog := by
  unfold endCountersWrite
  dsimp only
  (repeat' split) <;> simp

@[simp] theorem markUnsaved_frame (s : State) :
    (markUnsaved s).pending = s.pending ∧ (markUnsaved s).powered = s.powered ∧ (markUnsaved s).ptb = s.ptb
    ∧ (markUnsaved s).rss.working = s.rss.working ∧ (markUnsaved s).rss.bankA = s.rss.bankA
    ∧ (markUnsaved s).rss.bankB = s.rss.bankB ∧ (markUnsaved s).rss.save = s.rss.save
    ∧ (markUnsaved s).rss.counters = s.rss.counters ∧ (markUnsaved s).din = s.din ∧ (markUnsaved s).exu = s.exu
    ∧ (markUnsaved s).wou = s.wou ∧ (markUnsaved s).dry = s.dry ∧ (markUnsaved s).lfn = s.lfn
    ∧ (markUnsaved s).trc = s.trc ∧ (markUnsaved s).lio = s.lio ∧ (markUnsaved s).flt = s.flt
    ∧ (markUnsaved s).lnk = s.lnk := by
  unfold markUnsaved
  simp

@[simp] theorem testLampLife_frame (s : State) :
    (testLampLife s).pending = s.pending ∧ (testLampLife s).powered = s.powered ∧ (testLampLife s).ptb = s.ptb
    ∧ (testLampLife s).rss = s.rss ∧ (testLampLife s).din = s.din ∧ (testLampLife s).exu = s.exu
    ∧ (testLampLife s).wou = s.wou ∧ (testLampLife s).dry = s.dry ∧ (testLampLife s).lfn = s.lfn
    ∧ (testLampLife s).trc = s.trc ∧ (testLampLife s).lio.inputs = s.lio.inputs
    ∧ (testLampLife s).lio.drives = s.lio.drives ∧ (testLampLife s).lio.lamps = s.lio.lamps
    ∧ (testLampLife s).flt.lineState = s.flt.lineState ∧ (testLampLife s).flt.cause = s.flt.cause
    ∧ (testLampLife s).flt.masks = s.flt.masks ∧ (testLampLife s).lnk.parser = s.lnk.parser
    ∧ (testLampLife s).lnk.inService = s.lnk.inService ∧ (testLampLife s).lnk.rx = s.lnk.rx
    ∧ (testLampLife s).lnk.tx = s.lnk.tx ∧ (testLampLife s).lnk.watchdog = s.lnk.watchdog := by
  unfold testLampLife
  (repeat' split) <;> simp

/-! ### Dose -/

@[simp] theorem setChannel_frame (ch : LampChannel) (c : Channel) (s : State) :
    (setChannel ch c s).pending = s.pending ∧ (setChannel ch c s).powered = s.powered ∧ (setChannel ch c s).ptb = s.ptb
    ∧ (setChannel ch c s).rss = s.rss ∧ (setChannel ch c s).din.lampOn = s.din.lampOn
    ∧ (setChannel ch c s).din.trace = s.din.trace ∧ (setChannel ch c s).exu = s.exu ∧ (setChannel ch c s).wou = s.wou
    ∧ (setChannel ch c s).dry = s.dry ∧ (setChannel ch c s).lfn = s.lfn ∧ (setChannel ch c s).trc = s.trc
    ∧ (setChannel ch c s).lio = s.lio ∧ (setChannel ch c s).flt = s.flt ∧ (setChannel ch c s).lnk = s.lnk := by
  unfold setChannel
  simp

@[simp] theorem modRun_frame (ch : LampChannel) (f : RunRecord → RunRecord) (s : State) :
    (modRun ch f s).pending = s.pending ∧ (modRun ch f s).powered = s.powered ∧ (modRun ch f s).ptb = s.ptb
    ∧ (modRun ch f s).rss = s.rss ∧ (modRun ch f s).din.lampOn = s.din.lampOn ∧ (modRun ch f s).din.trace = s.din.trace
    ∧ (modRun ch f s).exu = s.exu ∧ (modRun ch f s).wou = s.wou ∧ (modRun ch f s).dry = s.dry
    ∧ (modRun ch f s).lfn = s.lfn ∧ (modRun ch f s).trc = s.trc ∧ (modRun ch f s).lio = s.lio
    ∧ (modRun ch f s).flt = s.flt ∧ (modRun ch f s).lnk = s.lnk := by
  unfold modRun
  (repeat' split) <;> simp

@[simp] theorem modResult_frame (k : Slot) (ch : LampChannel) (f : RunResult → RunResult) (s : State) :
    (modResult k ch f s).pending = s.pending ∧ (modResult k ch f s).powered = s.powered
    ∧ (modResult k ch f s).ptb.queue = s.ptb.queue ∧ (modResult k ch f s).ptb.lastUnmatched = s.ptb.lastUnmatched
    ∧ (modResult k ch f s).rss = s.rss ∧ (modResult k ch f s).din = s.din ∧ (modResult k ch f s).exu = s.exu
    ∧ (modResult k ch f s).wou = s.wou ∧ (modResult k ch f s).dry = s.dry ∧ (modResult k ch f s).lfn = s.lfn
    ∧ (modResult k ch f s).trc = s.trc ∧ (modResult k ch f s).lio = s.lio ∧ (modResult k ch f s).flt = s.flt
    ∧ (modResult k ch f s).lnk = s.lnk := by
  unfold modResult
  simp

@[simp] theorem suspendRecording_frame (s : State) :
    (suspendRecording s).pending = s.pending ∧ (suspendRecording s).powered = s.powered ∧ (suspendRecording s).ptb = s.ptb
    ∧ (suspendRecording s).rss = s.rss ∧ (suspendRecording s).din.lampOn = s.din.lampOn
    ∧ (suspendRecording s).din.trace = s.din.trace ∧ (suspendRecording s).exu = s.exu ∧ (suspendRecording s).wou = s.wou
    ∧ (suspendRecording s).dry = s.dry ∧ (suspendRecording s).lfn = s.lfn ∧ (suspendRecording s).trc = s.trc
    ∧ (suspendRecording s).lio = s.lio ∧ (suspendRecording s).flt = s.flt ∧ (suspendRecording s).lnk = s.lnk := by
  unfold suspendRecording
  simp

@[simp] theorem writeTrace_frame (ch : LampChannel) (r : RunRecord) (s : State) :
    (writeTrace ch r s).pending = s.pending ∧ (writeTrace ch r s).powered = s.powered
    ∧ (writeTrace ch r s).ptb.queue = s.ptb.queue ∧ (writeTrace ch r s).ptb.lastUnmatched = s.ptb.lastUnmatched
    ∧ (writeTrace ch r s).rss = s.rss ∧ (writeTrace ch r s).exu = s.exu ∧ (writeTrace ch r s).wou = s.wou
    ∧ (writeTrace ch r s).dry = s.dry ∧ (writeTrace ch r s).lfn = s.lfn ∧ (writeTrace ch r s).trc = s.trc
    ∧ (writeTrace ch r s).lio.inputs = s.lio.inputs ∧ (writeTrace ch r s).lio.drives = s.lio.drives
    ∧ (writeTrace ch r s).lio.lamps = s.lio.lamps ∧ (writeTrace ch r s).flt.lineState = s.flt.lineState
    ∧ (writeTrace ch r s).flt.cause = s.flt.cause ∧ (writeTrace ch r s).flt.masks = s.flt.masks
    ∧ (writeTrace ch r s).lnk.parser = s.lnk.parser ∧ (writeTrace ch r s).lnk.inService = s.lnk.inService
    ∧ (writeTrace ch r s).lnk.rx = s.lnk.rx ∧ (writeTrace ch r s).lnk.tx = s.lnk.tx
    ∧ (writeTrace ch r s).lnk.watchdog = s.lnk.watchdog := by
  unfold writeTrace
  dsimp only
  (repeat' split) <;> simp

@[simp] theorem testWeak_frame (ch : LampChannel) (r : RunRecord) (mean : Nat) (s : State) :
    (testWeak ch r mean s).pending = s.pending ∧ (testWeak ch r mean s).powered = s.powered
    ∧ (testWeak ch r mean s).ptb.queue = s.ptb.queue ∧ (testWeak ch r mean s).ptb.lastUnmatched = s.ptb.lastUnmatched
    ∧ (testWeak ch r mean s).rss = s.rss ∧ (testWeak ch r mean s).din.lampOn = s.din.lampOn
    ∧ (testWeak ch r mean s).din.trace = s.din.trace ∧ (testWeak ch r mean s).exu = s.exu
    ∧ (testWeak ch r mean s).wou = s.wou ∧ (testWeak ch r mean s).dry = s.dry ∧ (testWeak ch r mean s).lfn = s.lfn
    ∧ (testWeak ch r mean s).trc = s.trc ∧ (testWeak ch r mean s).lio.inputs = s.lio.inputs
    ∧ (testWeak ch r mean s).lio.drives = s.lio.drives ∧ (testWeak ch r mean s).lio.lamps = s.lio.lamps
    ∧ (testWeak ch r mean s).flt.lineState = s.flt.lineState ∧ (testWeak ch r mean s).flt.cause = s.flt.cause
    ∧ (testWeak ch r mean s).flt.masks = s.flt.masks ∧ (testWeak ch r mean s).lnk.parser = s.lnk.parser
    ∧ (testWeak ch r mean s).lnk.inService = s.lnk.inService ∧ (testWeak ch r mean s).lnk.rx = s.lnk.rx
    ∧ (testWeak ch r mean s).lnk.tx = s.lnk.tx ∧ (testWeak ch r mean s).lnk.watchdog = s.lnk.watchdog := by
  unfold testWeak
  (repeat' split) <;> simp

@[simp] theorem regulate_frame (ch : LampChannel) (r : RunRecord) (mean : Nat) (s : State) :
    (regulate ch r mean s).pending = s.pending ∧ (regulate ch r mean s).powered = s.powered
    ∧ (regulate ch r mean s).ptb.queue = s.ptb.queue ∧ (regulate ch r mean s).ptb.lastUnmatched = s.ptb.lastUnmatched
    ∧ (regulate ch r mean s).rss = s.rss ∧ (regulate ch r mean s).din.lampOn = s.din.lampOn
    ∧ (regulate ch r mean s).din.trace = s.din.trace ∧ (regulate ch r mean s).exu = s.exu
    ∧ (regulate ch r mean s).wou = s.wou ∧ (regulate ch r mean s).dry = s.dry ∧ (regulate ch r mean s).lfn = s.lfn
    ∧ (regulate ch r mean s).trc = s.trc ∧ (regulate ch r mean s).lio.inputs = s.lio.inputs
    ∧ (regulate ch r mean s).lio.drives = s.lio.drives ∧ (regulate ch r mean s).flt.lineState = s.flt.lineState
    ∧ (regulate ch r mean s).flt.cause = s.flt.cause ∧ (regulate ch r mean s).flt.masks = s.flt.masks
    ∧ (regulate ch r mean s).lnk.parser = s.lnk.parser ∧ (regulate ch r mean s).lnk.inService = s.lnk.inService
    ∧ (regulate ch r mean s).lnk.rx = s.lnk.rx ∧ (regulate ch r mean s).lnk.tx = s.lnk.tx
    ∧ (regulate ch r mean s).lnk.watchdog = s.lnk.watchdog := by
  unfold regulate
  dsimp only
  (repeat' split) <;> simp

@[simp] theorem closeFinalWindow_frame (ch : LampChannel) (s : State) :
    (closeFinalWindow ch s).pending = s.pending ∧ (closeFinalWindow ch s).powered = s.powered
    ∧ (closeFinalWindow ch s).ptb.queue = s.ptb.queue ∧ (closeFinalWindow ch s).ptb.lastUnmatched = s.ptb.lastUnmatched
    ∧ (closeFinalWindow ch s).rss = s.rss ∧ (closeFinalWindow ch s).exu = s.exu ∧ (closeFinalWindow ch s).wou = s.wou
    ∧ (closeFinalWindow ch s).dry = s.dry ∧ (closeFinalWindow ch s).lfn = s.lfn ∧ (closeFinalWindow ch s).trc = s.trc
    ∧ (closeFinalWindow ch s).lio.inputs = s.lio.inputs ∧ (closeFinalWindow ch s).lio.drives = s.lio.drives
    ∧ (closeFinalWindow ch s).lio.lamps = s.lio.lamps ∧ (closeFinalWindow ch s).flt.lineState = s.flt.lineState
    ∧ (closeFinalWindow ch s).flt.cause = s.flt.cause ∧ (closeFinalWindow ch s).flt.masks = s.flt.masks
    ∧ (closeFinalWindow ch s).lnk.parser = s.lnk.parser ∧ (closeFinalWindow ch s).lnk.inService = s.lnk.inService
    ∧ (closeFinalWindow ch s).lnk.rx = s.lnk.rx ∧ (closeFinalWindow ch s).lnk.tx = s.lnk.tx
    ∧ (closeFinalWindow ch s).lnk.watchdog = s.lnk.watchdog := by
  unfold closeFinalWindow
  (repeat' split) <;> simp

@[simp] theorem closeFullWindow_frame (ch : LampChannel) (s : State) :
    (closeFullWindow ch s).pending = s.pending ∧ (closeFullWindow ch s).powered = s.powered
    ∧ (closeFullWindow ch s).ptb.queue = s.ptb.queue ∧ (closeFullWindow ch s).ptb.lastUnmatched = s.ptb.lastUnmatched
    ∧ (closeFullWindow ch s).rss = s.rss ∧ (closeFullWindow ch s).exu = s.exu ∧ (closeFullWindow ch s).wou = s.wou
    ∧ (closeFullWindow ch s).dry = s.dry ∧ (closeFullWindow ch s).lfn = s.lfn ∧ (closeFullWindow ch s).trc = s.trc
    ∧ (closeFullWindow ch s).lio.inputs = s.lio.inputs ∧ (closeFullWindow ch s).lio.drives = s.lio.drives
    ∧ (closeFullWindow ch s).flt.lineState = s.flt.lineState ∧ (closeFullWindow ch s).flt.cause = s.flt.cause
    ∧ (closeFullWindow ch s).flt.masks = s.flt.masks ∧ (closeFullWindow ch s).lnk.parser = s.lnk.parser
    ∧ (closeFullWindow ch s).lnk.inService = s.lnk.inService ∧ (closeFullWindow ch s).lnk.rx = s.lnk.rx
    ∧ (closeFullWindow ch s).lnk.tx = s.lnk.tx ∧ (closeFullWindow ch s).lnk.watchdog = s.lnk.watchdog := by
  unfold closeFullWindow
  (repeat' split) <;> simp

@[simp] theorem addLampTime_frame (ch : LampChannel) (samples : Nat) (s : State) :
    (addLampTime ch samples s).pending = s.pending ∧ (addLampTime ch samples s).powered = s.powered
    ∧ (addLampTime ch samples s).ptb = s.ptb ∧ (addLampTime ch samples s).rss.working = s.rss.working
    ∧ (addLampTime ch samples s).rss.unsaved = s.rss.unsaved ∧ (addLampTime ch samples s).rss.bankA = s.rss.bankA
    ∧ (addLampTime ch samples s).rss.bankB = s.rss.bankB ∧ (addLampTime ch samples s).rss.save = s.rss.save
    ∧ (addLampTime ch samples s).din.channels = s.din.channels ∧ (addLampTime ch samples s).din.trace = s.din.trace
    ∧ (addLampTime ch samples s).exu = s.exu ∧ (addLampTime ch samples s).wou = s.wou
    ∧ (addLampTime ch samples s).dry = s.dry ∧ (addLampTime ch samples s).lfn = s.lfn
    ∧ (addLampTime ch samples s).trc = s.trc ∧ (addLampTime ch samples s).lio.inputs = s.lio.inputs
    ∧ (addLampTime ch samples s).lio.drives = s.lio.drives ∧ (addLampTime ch samples s).lio.lamps = s.lio.lamps
    ∧ (addLampTime ch samples s).flt.lineState = s.flt.lineState ∧ (addLampTime ch samples s).flt.cause = s.flt.cause
    ∧ (addLampTime ch samples s).flt.masks = s.flt.masks ∧ (addLampTime ch samples s).lnk.parser = s.lnk.parser
    ∧ (addLampTime ch samples s).lnk.inService = s.lnk.inService ∧ (addLampTime ch samples s).lnk.rx = s.lnk.rx
    ∧ (addLampTime ch samples s).lnk.tx = s.lnk.tx ∧ (addLampTime ch samples s).lnk.watchdog = s.lnk.watchdog := by
  unfold addLampTime
  simp

@[simp] theorem endSegment_frame (ch : LampChannel) (samples : Nat) (s : State) :
    (endSegment ch samples s).pending = s.pending ∧ (endSegment ch samples s).powered = s.powered
    ∧ (endSegment ch samples s).ptb.queue = s.ptb.queue
    ∧ (endSegment ch samples s).ptb.lastUnmatched = s.ptb.lastUnmatched
    ∧ (endSegment ch samples s).rss.working = s.rss.working ∧ (endSegment ch samples s).rss.unsaved = s.rss.unsaved
    ∧ (endSegment ch samples s).rss.bankA = s.rss.bankA ∧ (endSegment ch samples s).rss.bankB = s.rss.bankB
    ∧ (endSegment ch samples s).rss.save = s.rss.save ∧ (endSegment ch samples s).exu = s.exu
    ∧ (endSegment ch samples s).wou = s.wou ∧ (endSegment ch samples s).dry = s.dry
    ∧ (endSegment ch samples s).lfn = s.lfn ∧ (endSegment ch samples s).trc = s.trc
    ∧ (endSegment ch samples s).lio.inputs = s.lio.inputs ∧ (endSegment ch samples s).lio.drives = s.lio.drives
    ∧ (endSegment ch samples s).flt.lineState = s.flt.lineState ∧ (endSegment ch samples s).flt.cause = s.flt.cause
    ∧ (endSegment ch samples s).flt.masks = s.flt.masks ∧ (endSegment ch samples s).lnk.parser = s.lnk.parser
    ∧ (endSegment ch samples s).lnk.inService = s.lnk.inService ∧ (endSegment ch samples s).lnk.rx = s.lnk.rx
    ∧ (endSegment ch samples s).lnk.tx = s.lnk.tx ∧ (endSegment ch samples s).lnk.watchdog = s.lnk.watchdog := by
  unfold endSegment
  simp

@[simp] theorem endRun_frame (ch : LampChannel) (ending : RunEnding) (s : State) :
    (endRun ch ending s).pending = s.pending ∧ (endRun ch ending s).powered = s.powered
    ∧ (endRun ch ending s).ptb.queue = s.ptb.queue ∧ (endRun ch ending s).ptb.lastUnmatched = s.ptb.lastUnmatched
    ∧ (endRun ch ending s).rss.working = s.rss.working ∧ (endRun ch ending s).rss.unsaved = s.rss.unsaved
    ∧ (endRun ch ending s).rss.bankA = s.rss.bankA ∧ (endRun ch ending s).rss.bankB = s.rss.bankB
    ∧ (endRun ch ending s).rss.save = s.rss.save ∧ (endRun ch ending s).exu = s.exu ∧ (endRun ch ending s).wou = s.wou
    ∧ (endRun ch ending s).dry = s.dry ∧ (endRun ch ending s).lfn = s.lfn ∧ (endRun ch ending s).trc = s.trc
    ∧ (endRun ch ending s).lio.inputs = s.lio.inputs ∧ (endRun ch ending s).lio.drives = s.lio.drives
    ∧ (endRun ch ending s).flt.lineState = s.flt.lineState ∧ (endRun ch ending s).flt.cause = s.flt.cause
    ∧ (endRun ch ending s).flt.masks = s.flt.masks ∧ (endRun ch ending s).lnk.parser = s.lnk.parser
    ∧ (endRun ch ending s).lnk.inService = s.lnk.inService ∧ (endRun ch ending s).lnk.rx = s.lnk.rx
    ∧ (endRun ch ending s).lnk.tx = s.lnk.tx ∧ (endRun ch ending s).lnk.watchdog = s.lnk.watchdog := by
  unfold endRun
  dsimp only
  (repeat' split) <;> simp

@[simp] theorem pauseChannel_frame (ch : LampChannel) (s : State) :
    (pauseChannel ch s).pending = s.pending ∧ (pauseChannel ch s).powered = s.powered
    ∧ (pauseChannel ch s).ptb.queue = s.ptb.queue ∧ (pauseChannel ch s).ptb.lastUnmatched = s.ptb.lastUnmatched
    ∧ (pauseChannel ch s).rss.working = s.rss.working ∧ (pauseChannel ch s).rss.unsaved = s.rss.unsaved
    ∧ (pauseChannel ch s).rss.bankA = s.rss.bankA ∧ (pauseChannel ch s).rss.bankB = s.rss.bankB
    ∧ (pauseChannel ch s).rss.save = s.rss.save ∧ (pauseChannel ch s).exu = s.exu ∧ (pauseChannel ch s).wou = s.wou
    ∧ (pauseChannel ch s).dry = s.dry ∧ (pauseChannel ch s).lfn = s.lfn ∧ (pauseChannel ch s).trc = s.trc
    ∧ (pauseChannel ch s).lio.inputs = s.lio.inputs ∧ (pauseChannel ch s).lio.drives = s.lio.drives
    ∧ (pauseChannel ch s).flt.lineState = s.flt.lineState ∧ (pauseChannel ch s).flt.cause = s.flt.cause
    ∧ (pauseChannel ch s).flt.masks = s.flt.masks ∧ (pauseChannel ch s).lnk.parser = s.lnk.parser
    ∧ (pauseChannel ch s).lnk.inService = s.lnk.inService ∧ (pauseChannel ch s).lnk.rx = s.lnk.rx
    ∧ (pauseChannel ch s).lnk.tx = s.lnk.tx ∧ (pauseChannel ch s).lnk.watchdog = s.lnk.watchdog := by
  unfold pauseChannel
  dsimp only
  (repeat' split) <;> simp

@[simp] theorem storeSample_frame (ch : LampChannel) (r1 : RunRecord) (s : State) :
    (storeSample ch r1 s).pending = s.pending ∧ (storeSample ch r1 s).powered = s.powered
    ∧ (storeSample ch r1 s).ptb.queue = s.ptb.queue ∧ (storeSample ch r1 s).ptb.lastUnmatched = s.ptb.lastUnmatched
    ∧ (storeSample ch r1 s).rss = s.rss ∧ (storeSample ch r1 s).din.lampOn = s.din.lampOn
    ∧ (storeSample ch r1 s).din.trace = s.din.trace ∧ (storeSample ch r1 s).exu = s.exu
    ∧ (storeSample ch r1 s).wou = s.wou ∧ (storeSample ch r1 s).dry = s.dry ∧ (storeSample ch r1 s).lfn = s.lfn
    ∧ (storeSample ch r1 s).trc = s.trc ∧ (storeSample ch r1 s).lio = s.lio ∧ (storeSample ch r1 s).flt = s.flt
    ∧ (storeSample ch r1 s).lnk = s.lnk := by
  unfold storeSample
  simp

@[simp] theorem takeSample_frame (ch : LampChannel) (raw : Nat) (s : State) :
    (takeSample ch raw s).1.pending = s.pending ∧ (takeSample ch raw s).1.powered = s.powered
    ∧ (takeSample ch raw s).1.ptb.queue = s.ptb.queue ∧ (takeSample ch raw s).1.ptb.lastUnmatched = s.ptb.lastUnmatched
    ∧ (takeSample ch raw s).1.rss.working = s.rss.working ∧ (takeSample ch raw s).1.rss.unsaved = s.rss.unsaved
    ∧ (takeSample ch raw s).1.rss.bankA = s.rss.bankA ∧ (takeSample ch raw s).1.rss.bankB = s.rss.bankB
    ∧ (takeSample ch raw s).1.rss.save = s.rss.save ∧ (takeSample ch raw s).1.exu = s.exu
    ∧ (takeSample ch raw s).1.wou = s.wou ∧ (takeSample ch raw s).1.dry = s.dry ∧ (takeSample ch raw s).1.lfn = s.lfn
    ∧ (takeSample ch raw s).1.trc = s.trc ∧ (takeSample ch raw s).1.lio.inputs = s.lio.inputs
    ∧ (takeSample ch raw s).1.lio.drives = s.lio.drives ∧ (takeSample ch raw s).1.flt.lineState = s.flt.lineState
    ∧ (takeSample ch raw s).1.flt.cause = s.flt.cause ∧ (takeSample ch raw s).1.flt.masks = s.flt.masks
    ∧ (takeSample ch raw s).1.lnk.parser = s.lnk.parser ∧ (takeSample ch raw s).1.lnk.inService = s.lnk.inService
    ∧ (takeSample ch raw s).1.lnk.rx = s.lnk.rx ∧ (takeSample ch raw s).1.lnk.tx = s.lnk.tx
    ∧ (takeSample ch raw s).1.lnk.watchdog = s.lnk.watchdog := by
  unfold takeSample
  dsimp only
  (repeat' split) <;> simp

@[simp] theorem startSegment_frame (ch : LampChannel) (r : RunRecord) (s : State) :
    (startSegment ch r s).1.pending = s.pending ∧ (startSegment ch r s).1.powered = s.powered
    ∧ (startSegment ch r s).1.ptb.queue = s.ptb.queue ∧ (startSegment ch r s).1.ptb.lastUnmatched = s.ptb.lastUnmatched
    ∧ (startSegment ch r s).1.rss = s.rss ∧ (startSegment ch r s).1.exu = s.exu ∧ (startSegment ch r s).1.wou = s.wou
    ∧ (startSegment ch r s).1.dry = s.dry ∧ (startSegment ch r s).1.lfn = s.lfn ∧ (startSegment ch r s).1.trc = s.trc
    ∧ (startSegment ch r s).1.lio.inputs = s.lio.inputs ∧ (startSegment ch r s).1.lio.drives = s.lio.drives
    ∧ (startSegment ch r s).1.flt = s.flt ∧ (startSegment ch r s).1.lnk = s.lnk := by
  unfold startSegment
  dsimp only
  (repeat' split) <;> simp

@[simp] theorem startRun_frame (ch : LampChannel) (k : Slot) (s : State) :
    (startRun ch k s).1.pending = s.pending ∧ (startRun ch k s).1.powered = s.powered
    ∧ (startRun ch k s).1.ptb.queue = s.ptb.queue ∧ (startRun ch k s).1.ptb.lastUnmatched = s.ptb.lastUnmatched
    ∧ (startRun ch k s).1.rss = s.rss ∧ (startRun ch k s).1.exu = s.exu ∧ (startRun ch k s).1.wou = s.wou
    ∧ (startRun ch k s).1.dry = s.dry ∧ (startRun ch k s).1.lfn = s.lfn ∧ (startRun ch k s).1.trc = s.trc
    ∧ (startRun ch k s).1.lio.inputs = s.lio.inputs ∧ (startRun ch k s).1.lio.drives = s.lio.drives
    ∧ (startRun ch k s).1.flt = s.flt ∧ (startRun ch k s).1.lnk = s.lnk := by
  unfold startRun
  (try dsimp only)
  (repeat' split) <;> first
    | (simp; done)
    | (rename_i heq; have e := (congrArg Prod.fst heq).symm; dsimp only at e; subst e; simp; done)

@[simp] theorem continueRun_frame (ch : LampChannel) (k : Slot) (extension : Nat) (s : State) :
    (continueRun ch k extension s).1.pending = s.pending ∧ (continueRun ch k extension s).1.powered = s.powered
    ∧ (continueRun ch k extension s).1.ptb.queue = s.ptb.queue
    ∧ (continueRun ch k extension s).1.ptb.lastUnmatched = s.ptb.lastUnmatched
    ∧ (continueRun ch k extension s).1.rss = s.rss ∧ (continueRun ch k extension s).1.exu = s.exu
    ∧ (continueRun ch k extension s).1.wou = s.wou ∧ (continueRun ch k extension s).1.dry = s.dry
    ∧ (continueRun ch k extension s).1.lfn = s.lfn ∧ (continueRun ch k extension s).1.trc = s.trc
    ∧ (continueRun ch k extension s).1.lio.inputs = s.lio.inputs
    ∧ (continueRun ch k extension s).1.lio.drives = s.lio.drives ∧ (continueRun ch k extension s).1.flt = s.flt
    ∧ (continueRun ch k extension s).1.lnk = s.lnk := by
  unfold continueRun
  (try dsimp only)
  (repeat' split) <;> first
    | (simp; done)
    | (rename_i heq; have e := (congrArg Prod.fst heq).symm; dsimp only at e; subst e; simp; done)

@[simp] theorem releaseEnded_frame (ch : LampChannel) (s : State) :
    (releaseEnded ch s).pending = s.pending ∧ (releaseEnded ch s).powered = s.powered ∧ (releaseEnded ch s).ptb = s.ptb
    ∧ (releaseEnded ch s).rss = s.rss ∧ (releaseEnded ch s).din.lampOn = s.din.lampOn
    ∧ (releaseEnded ch s).din.trace = s.din.trace ∧ (releaseEnded ch s).exu = s.exu ∧ (releaseEnded ch s).wou = s.wou
    ∧ (releaseEnded ch s).dry = s.dry ∧ (releaseEnded ch s).lfn = s.lfn ∧ (releaseEnded ch s).trc = s.trc
    ∧ (releaseEnded ch s).lio = s.lio ∧ (releaseEnded ch s).flt = s.flt ∧ (releaseEnded ch s).lnk = s.lnk := by
  unfold releaseEnded
  (repeat' split) <;> simp

@[simp] theorem releaseChannel_frame (ch : LampChannel) (s : State) :
    (releaseChannel ch s).pending = s.pending ∧ (releaseChannel ch s).powered = s.powered
    ∧ (releaseChannel ch s).ptb.queue = s.ptb.queue ∧ (releaseChannel ch s).ptb.lastUnmatched = s.ptb.lastUnmatched
    ∧ (releaseChannel ch s).rss.working = s.rss.working ∧ (releaseChannel ch s).rss.unsaved = s.rss.unsaved
    ∧ (releaseChannel ch s).rss.bankA = s.rss.bankA ∧ (releaseChannel ch s).rss.bankB = s.rss.bankB
    ∧ (releaseChannel ch s).rss.save = s.rss.save ∧ (releaseChannel ch s).exu = s.exu ∧ (releaseChannel ch s).wou = s.wou
    ∧ (releaseChannel ch s).dry = s.dry ∧ (releaseChannel ch s).lfn = s.lfn ∧ (releaseChannel ch s).trc = s.trc
    ∧ (releaseChannel ch s).lio.inputs = s.lio.inputs ∧ (releaseChannel ch s).lio.drives = s.lio.drives
    ∧ (releaseChannel ch s).flt.lineState = s.flt.lineState ∧ (releaseChannel ch s).flt.cause = s.flt.cause
    ∧ (releaseChannel ch s).flt.masks = s.flt.masks ∧ (releaseChannel ch s).lnk.parser = s.lnk.parser
    ∧ (releaseChannel ch s).lnk.inService = s.lnk.inService ∧ (releaseChannel ch s).lnk.rx = s.lnk.rx
    ∧ (releaseChannel ch s).lnk.tx = s.lnk.tx ∧ (releaseChannel ch s).lnk.watchdog = s.lnk.watchdog := by
  unfold releaseChannel
  (repeat' split) <;> simp

end Sys2Proof.Machine
end

