-- ==== Sys2Proof/Laws/FramesStations.lean ====
section
/-! SUPPORT. What each operation of the stations (intake, elevator, washout, exposure unit, finisher, exit table, dryer) leaves as it is. -/

namespace Sys2Proof.Machine

/-! ### Intake -/

@[simp] theorem tryIntake_frame (s : State) :
    (tryIntake s).pending = s.pending ∧ (tryIntake s).powered = s.powered ∧ (tryIntake s).ptb = s.ptb
    ∧ (tryIntake s).rss = s.rss ∧ (tryIntake s).din = s.din ∧ (tryIntake s).exu.state = s.exu.state
    ∧ (tryIntake s).exu.plate = s.exu.plate ∧ (tryIntake s).wou = s.wou ∧ (tryIntake s).dry = s.dry
    ∧ (tryIntake s).lfn = s.lfn ∧ (tryIntake s).trc = s.trc ∧ (tryIntake s).lio = s.lio ∧ (tryIntake s).flt = s.flt
    ∧ (tryIntake s).lnk = s.lnk := by
  unfold tryIntake
  (repeat' split) <;> simp

@[simp] theorem exuEnterEmpty_frame (s : State) :
    (exuEnterEmpty s).pending = s.pending ∧ (exuEnterEmpty s).powered = s.powered ∧ (exuEnterEmpty s).ptb = s.ptb
    ∧ (exuEnterEmpty s).rss = s.rss ∧ (exuEnterEmpty s).din = s.din ∧ (exuEnterEmpty s).exu.plate = s.exu.plate
    ∧ (exuEnterEmpty s).wou = s.wou ∧ (exuEnterEmpty s).dry = s.dry ∧ (exuEnterEmpty s).lfn = s.lfn
    ∧ (exuEnterEmpty s).trc = s.trc ∧ (exuEnterEmpty s).lio = s.lio ∧ (exuEnterEmpty s).flt = s.flt
    ∧ (exuEnterEmpty s).lnk = s.lnk := by
  unfold exuEnterEmpty
  simp

@[simp] theorem exuEnterClearWait_frame (s : State) :
    (exuEnterClearWait s).pending = s.pending ∧ (exuEnterClearWait s).powered = s.powered
    ∧ (exuEnterClearWait s).ptb = s.ptb ∧ (exuEnterClearWait s).rss = s.rss ∧ (exuEnterClearWait s).din = s.din
    ∧ (exuEnterClearWait s).wou = s.wou ∧ (exuEnterClearWait s).dry = s.dry ∧ (exuEnterClearWait s).lfn = s.lfn
    ∧ (exuEnterClearWait s).trc = s.trc ∧ (exuEnterClearWait s).lio = s.lio ∧ (exuEnterClearWait s).flt = s.flt
    ∧ (exuEnterClearWait s).lnk = s.lnk := by
  unfold exuEnterClearWait
  dsimp only
  (repeat' split) <;> simp

@[simp] theorem updateRollers_frame (s : State) :
    (updateRollers s).pending = s.pending ∧ (updateRollers s).powered = s.powered ∧ (updateRollers s).ptb = s.ptb
    ∧ (updateRollers s).rss = s.rss ∧ (updateRollers s).din = s.din ∧ (updateRollers s).exu = s.exu
    ∧ (updateRollers s).wou = s.wou ∧ (updateRollers s).dry = s.dry ∧ (updateRollers s).lfn = s.lfn
    ∧ (updateRollers s).trc = s.trc ∧ (updateRollers s).lio.inputs = s.lio.inputs
    ∧ (updateRollers s).lio.outputs = s.lio.outputs ∧ (updateRollers s).lio.lamps = s.lio.lamps
    ∧ (updateRollers s).flt = s.flt ∧ (updateRollers s).lnk = s.lnk := by
  unfold updateRollers
  (repeat' split) <;> simp

/-! ### DryerMap -/

@[simp] theorem testHeater_frame (s : State) :
    (testHeater s).pending = s.pending ∧ (testHeater s).powered = s.powered ∧ (testHeater s).ptb = s.ptb
    ∧ (testHeater s).rss = s.rss ∧ (testHeater s).din = s.din ∧ (testHeater s).exu = s.exu ∧ (testHeater s).wou = s.wou
    ∧ (testHeater s).dry = s.dry ∧ (testHeater s).lfn = s.lfn ∧ (testHeater s).trc = s.trc
    ∧ (testHeater s).lio.inputs = s.lio.inputs ∧ (testHeater s).lio.outputs = s.lio.outputs
    ∧ (testHeater s).lio.lamps = s.lio.lamps ∧ (testHeater s).flt = s.flt ∧ (testHeater s).lnk = s.lnk := by
  unfold testHeater
  (repeat' split) <;> simp

@[simp] theorem carrySetpoint_frame (s : State) :
    (carrySetpoint s).pending = s.pending ∧ (carrySetpoint s).powered = s.powered ∧ (carrySetpoint s).ptb = s.ptb
    ∧ (carrySetpoint s).rss = s.rss ∧ (carrySetpoint s).din = s.din ∧ (carrySetpoint s).exu = s.exu
    ∧ (carrySetpoint s).wou = s.wou ∧ (carrySetpoint s).dry = s.dry ∧ (carrySetpoint s).lfn = s.lfn
    ∧ (carrySetpoint s).trc = s.trc ∧ (carrySetpoint s).lio.inputs = s.lio.inputs
    ∧ (carrySetpoint s).lio.outputs = s.lio.outputs ∧ (carrySetpoint s).lio.lamps = s.lio.lamps
    ∧ (carrySetpoint s).flt = s.flt ∧ (carrySetpoint s).lnk = s.lnk := by
  unfold carrySetpoint
  simp

/-! ### Elevator -/

@[simp] theorem commandPhase_frame (p : Phase) (s : State) :
    (commandPhase p s).pending = s.pending ∧ (commandPhase p s).powered = s.powered ∧ (commandPhase p s).ptb = s.ptb
    ∧ (commandPhase p s).rss = s.rss ∧ (commandPhase p s).din = s.din ∧ (commandPhase p s).exu = s.exu
    ∧ (commandPhase p s).wou = s.wou ∧ (commandPhase p s).dry = s.dry ∧ (commandPhase p s).lfn = s.lfn
    ∧ (commandPhase p s).trc.level = s.trc.level ∧ (commandPhase p s).trc.request = s.trc.request
    ∧ (commandPhase p s).trc.table = s.trc.table ∧ (commandPhase p s).trc.handoff = s.trc.handoff
    ∧ (commandPhase p s).lio.inputs = s.lio.inputs ∧ (commandPhase p s).lio.outputs = s.lio.outputs
    ∧ (commandPhase p s).lio.lamps = s.lio.lamps ∧ (commandPhase p s).flt = s.flt ∧ (commandPhase p s).lnk = s.lnk := by
  unfold commandPhase
  simp

@[simp] theorem travelThen_frame (target : Fin 8) (next : Phase) (s : State) :
    (travelThen target next s).pending = s.pending ∧ (travelThen target next s).powered = s.powered
    ∧ (travelThen target next s).ptb = s.ptb ∧ (travelThen target next s).rss = s.rss
    ∧ (travelThen target next s).din = s.din ∧ (travelThen target next s).exu = s.exu
    ∧ (travelThen target next s).wou = s.wou ∧ (travelThen target next s).dry = s.dry
    ∧ (travelThen target next s).lfn = s.lfn ∧ (travelThen target next s).trc.level = s.trc.level
    ∧ (travelThen target next s).trc.request = s.trc.request ∧ (travelThen target next s).trc.table = s.trc.table
    ∧ (travelThen target next s).trc.handoff = s.trc.handoff ∧ (travelThen target next s).lio.inputs = s.lio.inputs
    ∧ (travelThen target next s).lio.outputs = s.lio.outputs ∧ (travelThen target next s).lio.lamps = s.lio.lamps
    ∧ (travelThen target next s).flt = s.flt ∧ (travelThen target next s).lnk = s.lnk := by
  unfold travelThen
  (repeat' split) <;> simp

@[simp] theorem beginPut_frame (k : Slot) (s : State) :
    (beginPut k s).pending = s.pending ∧ (beginPut k s).powered = s.powered ∧ (beginPut k s).ptb = s.ptb
    ∧ (beginPut k s).rss = s.rss ∧ (beginPut k s).din = s.din ∧ (beginPut k s).exu = s.exu ∧ (beginPut k s).wou = s.wou
    ∧ (beginPut k s).dry = s.dry ∧ (beginPut k s).lfn = s.lfn ∧ (beginPut k s).trc.level = s.trc.level
    ∧ (beginPut k s).trc.handoff = s.trc.handoff ∧ (beginPut k s).lio.inputs = s.lio.inputs
    ∧ (beginPut k s).lio.outputs = s.lio.outputs ∧ (beginPut k s).lio.lamps = s.lio.lamps ∧ (beginPut k s).flt = s.flt
    ∧ (beginPut k s).lnk = s.lnk := by
  unfold beginPut
  (repeat' split) <;> simp

@[simp] theorem beginTake_frame (d : DrawerNo) (k : Slot) (s : State) :
    (beginTake d k s).pending = s.pending ∧ (beginTake d k s).powered = s.powered ∧ (beginTake d k s).ptb = s.ptb
    ∧ (beginTake d k s).rss = s.rss ∧ (beginTake d k s).din = s.din ∧ (beginTake d k s).exu = s.exu
    ∧ (beginTake d k s).wou = s.wou ∧ (beginTake d k s).dry = s.dry ∧ (beginTake d k s).lfn.state = s.lfn.state
    ∧ (beginTake d k s).lfn.plate = s.lfn.plate ∧ (beginTake d k s).trc.level = s.trc.level
    ∧ (beginTake d k s).trc.table = s.trc.table ∧ (beginTake d k s).trc.handoff = s.trc.handoff
    ∧ (beginTake d k s).lio.inputs = s.lio.inputs ∧ (beginTake d k s).lio.outputs = s.lio.outputs
    ∧ (beginTake d k s).lio.lamps = s.lio.lamps ∧ (beginTake d k s).flt = s.flt ∧ (beginTake d k s).lnk = s.lnk := by
  unfold beginTake
  simp

@[simp] theorem arbiter_frame (s : State) :
    (arbiter s).pending = s.pending ∧ (arbiter s).powered = s.powered ∧ (arbiter s).ptb = s.ptb ∧ (arbiter s).rss = s.rss
    ∧ (arbiter s).din = s.din ∧ (arbiter s).exu = s.exu ∧ (arbiter s).wou = s.wou ∧ (arbiter s).dry = s.dry
    ∧ (arbiter s).lfn.state = s.lfn.state ∧ (arbiter s).lfn.plate = s.lfn.plate ∧ (arbiter s).trc.level = s.trc.level
    ∧ (arbiter s).trc.handoff = s.trc.handoff ∧ (arbiter s).lio.inputs = s.lio.inputs
    ∧ (arbiter s).lio.outputs = s.lio.outputs ∧ (arbiter s).lio.lamps = s.lio.lamps ∧ (arbiter s).flt = s.flt
    ∧ (arbiter s).lnk = s.lnk := by
  unfold arbiter
  (repeat' split) <;> simp

@[simp] theorem elevatorToIdle_frame (s : State) :
    (elevatorToIdle s).pending = s.pending ∧ (elevatorToIdle s).powered = s.powered ∧ (elevatorToIdle s).ptb = s.ptb
    ∧ (elevatorToIdle s).rss = s.rss ∧ (elevatorToIdle s).din = s.din ∧ (elevatorToIdle s).exu = s.exu
    ∧ (elevatorToIdle s).wou = s.wou ∧ (elevatorToIdle s).dry = s.dry ∧ (elevatorToIdle s).lfn.state = s.lfn.state
    ∧ (elevatorToIdle s).lfn.plate = s.lfn.plate ∧ (elevatorToIdle s).trc.level = s.trc.level
    ∧ (elevatorToIdle s).trc.handoff = s.trc.handoff ∧ (elevatorToIdle s).lio.inputs = s.lio.inputs
    ∧ (elevatorToIdle s).lio.outputs = s.lio.outputs ∧ (elevatorToIdle s).lio.lamps = s.lio.lamps
    ∧ (elevatorToIdle s).flt = s.flt ∧ (elevatorToIdle s).lnk = s.lnk := by
  unfold elevatorToIdle
  simp

@[simp] theorem beginHoming_frame (s : State) :
    (beginHoming s).pending = s.pending ∧ (beginHoming s).powered = s.powered ∧ (beginHoming s).ptb = s.ptb
    ∧ (beginHoming s).rss = s.rss ∧ (beginHoming s).din = s.din ∧ (beginHoming s).exu = s.exu
    ∧ (beginHoming s).wou = s.wou ∧ (beginHoming s).dry = s.dry ∧ (beginHoming s).lfn.state = s.lfn.state
    ∧ (beginHoming s).lfn.plate = s.lfn.plate ∧ (beginHoming s).lio.inputs = s.lio.inputs
    ∧ (beginHoming s).lio.outputs = s.lio.outputs ∧ (beginHoming s).lio.lamps = s.lio.lamps ∧ (beginHoming s).flt = s.flt
    ∧ (beginHoming s).lnk = s.lnk := by
  unfold beginHoming
  dsimp only
  (repeat' split) <;> simp

@[simp] theorem afterTravel_frame (target : Fin 8) (s : State) :
    (afterTravel target s).pending = s.pending ∧ (afterTravel target s).powered = s.powered
    ∧ (afterTravel target s).ptb = s.ptb ∧ (afterTravel target s).rss = s.rss ∧ (afterTravel target s).din = s.din
    ∧ (afterTravel target s).exu = s.exu ∧ (afterTravel target s).wou = s.wou ∧ (afterTravel target s).dry = s.dry
    ∧ (afterTravel target s).lfn.state = s.lfn.state ∧ (afterTravel target s).lfn.plate = s.lfn.plate
    ∧ (afterTravel target s).trc.level = s.trc.level ∧ (afterTravel target s).trc.handoff = s.trc.handoff
    ∧ (afterTravel target s).lio.inputs = s.lio.inputs ∧ (afterTravel target s).lio.outputs = s.lio.outputs
    ∧ (afterTravel target s).lio.lamps = s.lio.lamps ∧ (afterTravel target s).flt = s.flt
    ∧ (afterTravel target s).lnk = s.lnk := by
  unfold afterTravel
  (repeat' split) <;> simp

@[simp] theorem arrivedReport_frame (s : State) :
    (arrivedReport s).pending = s.pending ∧ (arrivedReport s).powered = s.powered ∧ (arrivedReport s).ptb = s.ptb
    ∧ (arrivedReport s).rss = s.rss ∧ (arrivedReport s).din = s.din ∧ (arrivedReport s).exu = s.exu
    ∧ (arrivedReport s).wou = s.wou ∧ (arrivedReport s).dry = s.dry ∧ (arrivedReport s).lfn.state = s.lfn.state
    ∧ (arrivedReport s).lfn.plate = s.lfn.plate ∧ (arrivedReport s).trc.handoff = s.trc.handoff
    ∧ (arrivedReport s).lio.inputs = s.lio.inputs ∧ (arrivedReport s).lio.outputs = s.lio.outputs
    ∧ (arrivedReport s).lio.lamps = s.lio.lamps ∧ (arrivedReport s).flt = s.flt ∧ (arrivedReport s).lnk = s.lnk := by
  unfold arrivedReport
  (repeat' split) <;> simp

@[simp] theorem raisePut_frame (k : Slot) (s : State) :
    (raisePut k s).pending = s.pending ∧ (raisePut k s).powered = s.powered ∧ (raisePut k s).ptb = s.ptb
    ∧ (raisePut k s).rss = s.rss ∧ (raisePut k s).din = s.din ∧ (raisePut k s).exu = s.exu ∧ (raisePut k s).wou = s.wou
    ∧ (raisePut k s).dry = s.dry ∧ (raisePut k s).lfn.state = s.lfn.state ∧ (raisePut k s).lfn.plate = s.lfn.plate
    ∧ (raisePut k s).trc.level = s.trc.level ∧ (raisePut k s).trc.handoff = s.trc.handoff
    ∧ (raisePut k s).lio.inputs = s.lio.inputs ∧ (raisePut k s).lio.outputs = s.lio.outputs
    ∧ (raisePut k s).lio.lamps = s.lio.lamps ∧ (raisePut k s).flt = s.flt ∧ (raisePut k s).lnk = s.lnk := by
  unfold raisePut
  simp

@[simp] theorem exitSensorChange_frame (active : Bool) (s : State) :
    (exitSensorChange active s).pending = s.pending ∧ (exitSensorChange active s).powered = s.powered
    ∧ (exitSensorChange active s).ptb = s.ptb ∧ (exitSensorChange active s).rss = s.rss
    ∧ (exitSensorChange active s).din = s.din ∧ (exitSensorChange active s).exu = s.exu
    ∧ (exitSensorChange active s).wou = s.wou ∧ (exitSensorChange active s).dry = s.dry
    ∧ (exitSensorChange active s).lfn = s.lfn ∧ (exitSensorChange active s).trc.elevator = s.trc.elevator
    ∧ (exitSensorChange active s).trc.level = s.trc.level ∧ (exitSensorChange active s).trc.request = s.trc.request
    ∧ (exitSensorChange active s).trc.handoff = s.trc.handoff ∧ (exitSensorChange active s).lio = s.lio
    ∧ (exitSensorChange active s).flt = s.flt ∧ (exitSensorChange active s).lnk = s.lnk := by
  unfold exitSensorChange
  (repeat' split) <;> simp

@[simp] theorem readLevel_frame (s : State) :
    (readLevel s).pending = s.pending ∧ (readLevel s).powered = s.powered ∧ (readLevel s).ptb = s.ptb
    ∧ (readLevel s).rss = s.rss ∧ (readLevel s).din = s.din ∧ (readLevel s).exu = s.exu ∧ (readLevel s).wou = s.wou
    ∧ (readLevel s).dry = s.dry ∧ (readLevel s).lfn = s.lfn ∧ (readLevel s).trc.elevator = s.trc.elevator
    ∧ (readLevel s).trc.request = s.trc.request ∧ (readLevel s).trc.table = s.trc.table
    ∧ (readLevel s).trc.handoff = s.trc.handoff ∧ (readLevel s).lio = s.lio ∧ (readLevel s).flt = s.flt
    ∧ (readLevel s).lnk = s.lnk := by
  unfold readLevel
  simp

@[simp] theorem phaseAfresh_frame (s : State) :
    (phaseAfresh s).pending = s.pending ∧ (phaseAfresh s).powered = s.powered ∧ (phaseAfresh s).ptb = s.ptb
    ∧ (phaseAfresh s).rss = s.rss ∧ (phaseAfresh s).din = s.din ∧ (phaseAfresh s).exu = s.exu
    ∧ (phaseAfresh s).wou = s.wou ∧ (phaseAfresh s).dry = s.dry ∧ (phaseAfresh s).lfn.state = s.lfn.state
    ∧ (phaseAfresh s).lfn.plate = s.lfn.plate ∧ (phaseAfresh s).trc.level = s.trc.level
    ∧ (phaseAfresh s).trc.handoff = s.trc.handoff ∧ (phaseAfresh s).lio.inputs = s.lio.inputs
    ∧ (phaseAfresh s).lio.outputs = s.lio.outputs ∧ (phaseAfresh s).lio.lamps = s.lio.lamps ∧ (phaseAfresh s).flt = s.flt
    ∧ (phaseAfresh s).lnk = s.lnk := by
  unfold phaseAfresh
  (repeat' split) <;> simp

@[simp] theorem haltBegins_frame (s : State) :
    (haltBegins s).pending = s.pending ∧ (haltBegins s).powered = s.powered ∧ (haltBegins s).ptb = s.ptb
    ∧ (haltBegins s).rss = s.rss ∧ (haltBegins s).din = s.din ∧ (haltBegins s).exu = s.exu ∧ (haltBegins s).wou = s.wou
    ∧ (haltBegins s).dry = s.dry ∧ (haltBegins s).lfn = s.lfn ∧ (haltBegins s).lio = s.lio ∧ (haltBegins s).flt = s.flt
    ∧ (haltBegins s).lnk = s.lnk := by
  unfold haltBegins
  dsimp only
  (repeat' split) <;> simp

@[simp] theorem updateHalted_frame (s : State) :
    (updateHalted s).pending = s.pending ∧ (updateHalted s).powered = s.powered ∧ (updateHalted s).ptb = s.ptb
    ∧ (updateHalted s).rss = s.rss ∧ (updateHalted s).din = s.din ∧ (updateHalted s).exu = s.exu
    ∧ (updateHalted s).wou = s.wou ∧ (updateHalted s).dry = s.dry ∧ (updateHalted s).lfn.state = s.lfn.state
    ∧ (updateHalted s).lfn.plate = s.lfn.plate ∧ (updateHalted s).lio.inputs = s.lio.inputs
    ∧ (updateHalted s).lio.outputs = s.lio.outputs ∧ (updateHalted s).lio.lamps = s.lio.lamps
    ∧ (updateHalted s).flt = s.flt ∧ (updateHalted s).lnk = s.lnk := by
  unfold updateHalted
  (repeat' split) <;> simp

@[simp] theorem phaseTimeout_frame (s : State) :
    (phaseTimeout s).pending = s.pending ∧ (phaseTimeout s).powered = s.powered ∧ (phaseTimeout s).ptb = s.ptb
    ∧ (phaseTimeout s).rss = s.rss ∧ (phaseTimeout s).din = s.din ∧ (phaseTimeout s).exu = s.exu
    ∧ (phaseTimeout s).wou = s.wou ∧ (phaseTimeout s).dry = s.dry ∧ (phaseTimeout s).lfn = s.lfn
    ∧ (phaseTimeout s).trc.level = s.trc.level ∧ (phaseTimeout s).trc.request = s.trc.request
    ∧ (phaseTimeout s).trc.table = s.trc.table ∧ (phaseTimeout s).trc.handoff = s.trc.handoff
    ∧ (phaseTimeout s).lio.inputs = s.lio.inputs ∧ (phaseTimeout s).lio.lamps = s.lio.lamps
    ∧ (phaseTimeout s).flt.lineState = s.flt.lineState ∧ (phaseTimeout s).flt.cause = s.flt.cause
    ∧ (phaseTimeout s).flt.masks = s.flt.masks ∧ (phaseTimeout s).lnk.parser = s.lnk.parser
    ∧ (phaseTimeout s).lnk.inService = s.lnk.inService ∧ (phaseTimeout s).lnk.rx = s.lnk.rx
    ∧ (phaseTimeout s).lnk.tx = s.lnk.tx ∧ (phaseTimeout s).lnk.watchdog = s.lnk.watchdog := by
  unfold phaseTimeout
  (repeat' split) <;> simp

@[simp] theorem elevatorRecovery_frame (s : State) :
    (elevatorRecovery s).pending = s.pending ∧ (elevatorRecovery s).powered = s.powered ∧ (elevatorRecovery s).ptb = s.ptb
    ∧ (elevatorRecovery s).rss = s.rss ∧ (elevatorRecovery s).din = s.din ∧ (elevatorRecovery s).exu = s.exu
    ∧ (elevatorRecovery s).wou = s.wou ∧ (elevatorRecovery s).dry = s.dry ∧ (elevatorRecovery s).lfn.state = s.lfn.state
    ∧ (elevatorRecovery s).lfn.plate = s.lfn.plate ∧ (elevatorRecovery s).lio.inputs = s.lio.inputs
    ∧ (elevatorRecovery s).lio.outputs = s.lio.outputs ∧ (elevatorRecovery s).lio.lamps = s.lio.lamps
    ∧ (elevatorRecovery s).flt = s.flt ∧ (elevatorRecovery s).lnk = s.lnk := by
  unfold elevatorRecovery
  dsimp only
  (repeat' split) <;> simp

/-! ### Washout -/

@[simp] theorem takeTransport_frame (s : State) :
    (takeTransport s).pending = s.pending ∧ (takeTransport s).powered = s.powered ∧ (takeTransport s).ptb = s.ptb
    ∧ (takeTransport s).rss = s.rss ∧ (takeTransport s).din = s.din ∧ (takeTransport s).exu = s.exu
    ∧ (takeTransport s).dry = s.dry ∧ (takeTransport s).lfn = s.lfn ∧ (takeTransport s).trc = s.trc
    ∧ (takeTransport s).lio.inputs = s.lio.inputs ∧ (takeTransport s).lio.outputs = s.lio.outputs
    ∧ (takeTransport s).lio.lamps = s.lio.lamps ∧ (takeTransport s).flt = s.flt ∧ (takeTransport s).lnk = s.lnk := by
  unfold takeTransport
  dsimp only
  (repeat' split) <;> simp

@[simp] theorem setBlocker_frame (b : Blocker) (s : State) :
    (setBlocker b s).pending = s.pending ∧ (setBlocker b s).powered = s.powered ∧ (setBlocker b s).ptb = s.ptb
    ∧ (setBlocker b s).rss = s.rss ∧ (setBlocker b s).din = s.din ∧ (setBlocker b s).exu = s.exu
    ∧ (setBlocker b s).wou.list = s.wou.list ∧ (setBlocker b s).wou.transport = s.wou.transport
    ∧ (setBlocker b s).wou.lambda = s.wou.lambda ∧ (setBlocker b s).wou.committed = s.wou.committed
    ∧ (setBlocker b s).wou.replenish = s.wou.replenish ∧ (setBlocker b s).dry = s.dry ∧ (setBlocker b s).lfn = s.lfn
    ∧ (setBlocker b s).trc = s.trc ∧ (setBlocker b s).lio = s.lio ∧ (setBlocker b s).flt = s.flt
    ∧ (setBlocker b s).lnk = s.lnk := by
  unfold setBlocker
  simp

@[simp] theorem exuHandOver_frame (k : Slot) (s : State) :
    (exuHandOver k s).pending = s.pending ∧ (exuHandOver k s).powered = s.powered ∧ (exuHandOver k s).ptb = s.ptb
    ∧ (exuHandOver k s).rss = s.rss ∧ (exuHandOver k s).din = s.din ∧ (exuHandOver k s).wou = s.wou
    ∧ (exuHandOver k s).dry = s.dry ∧ (exuHandOver k s).lfn = s.lfn ∧ (exuHandOver k s).trc = s.trc
    ∧ (exuHandOver k s).lio = s.lio ∧ (exuHandOver k s).flt = s.flt ∧ (exuHandOver k s).lnk = s.lnk := by
  unfold exuHandOver
  (repeat' split) <;> simp

@[simp] theorem admitPlate_frame (k : Slot) (p : PlateRecord) (d : DrawerNo) (s : State) :
    (admitPlate k p d s).pending = s.pending ∧ (admitPlate k p d s).powered = s.powered
    ∧ (admitPlate k p d s).ptb.queue = s.ptb.queue ∧ (admitPlate k p d s).ptb.lastUnmatched = s.ptb.lastUnmatched
    ∧ (admitPlate k p d s).rss = s.rss ∧ (admitPlate k p d s).din = s.din ∧ (admitPlate k p d s).dry = s.dry
    ∧ (admitPlate k p d s).lfn = s.lfn ∧ (admitPlate k p d s).trc = s.trc ∧ (admitPlate k p d s).lio.inputs = s.lio.inputs
    ∧ (admitPlate k p d s).lio.lamps = s.lio.lamps ∧ (admitPlate k p d s).flt = s.flt ∧ (admitPlate k p d s).lnk = s.lnk := by
  unfold admitPlate
  dsimp only
  (repeat' split) <;> simp

theorem reserveDrawer_frame {k : Slot} {d : DrawerNo} {s t : State} (h : reserveDrawer k s = some (d, t)) :
    t.pending = s.pending ∧ t.powered = s.powered ∧ t.ptb = s.ptb ∧ t.rss = s.rss ∧ t.din = s.din ∧ t.exu = s.exu
    ∧ t.wou = s.wou ∧ t.dry.clock = s.dry.clock ∧ t.lfn = s.lfn ∧ t.trc = s.trc ∧ t.lio.inputs = s.lio.inputs
    ∧ t.lio.drives = s.lio.drives ∧ t.lio.lamps = s.lio.lamps ∧ t.flt = s.flt ∧ t.lnk = s.lnk := by
  unfold reserveDrawer at h
  (repeat' split at h) <;> simp_all
  obtain ⟨-, rfl⟩ := h
  simp

@[simp] theorem testAdmission_frame (k : Slot) (p : PlateRecord) (s : State) :
    (testAdmission k p s).pending = s.pending ∧ (testAdmission k p s).powered = s.powered
    ∧ (testAdmission k p s).ptb.queue = s.ptb.queue ∧ (testAdmission k p s).ptb.lastUnmatched = s.ptb.lastUnmatched
    ∧ (testAdmission k p s).rss = s.rss ∧ (testAdmission k p s).din = s.din
    ∧ (testAdmission k p s).dry.clock = s.dry.clock ∧ (testAdmission k p s).lfn = s.lfn
    ∧ (testAdmission k p s).trc = s.trc ∧ (testAdmission k p s).lio.inputs = s.lio.inputs
    ∧ (testAdmission k p s).lio.lamps = s.lio.lamps ∧ (testAdmission k p s).flt.lineState = s.flt.lineState
    ∧ (testAdmission k p s).flt.cause = s.flt.cause ∧ (testAdmission k p s).flt.masks = s.flt.masks
    ∧ (testAdmission k p s).lnk.parser = s.lnk.parser ∧ (testAdmission k p s).lnk.inService = s.lnk.inService
    ∧ (testAdmission k p s).lnk.rx = s.lnk.rx ∧ (testAdmission k p s).lnk.tx = s.lnk.tx
    ∧ (testAdmission k p s).lnk.watchdog = s.lnk.watchdog := by
  unfold testAdmission
  (try dsimp only)
  (repeat' split) <;> first
    | (simp; done)
    | (rename_i heq; have e := reserveDrawer_frame heq; simp [e])

@[simp] theorem evalAdmission_frame (s : State) :
    (evalAdmission s).pending = s.pending ∧ (evalAdmission s).powered = s.powered
    ∧ (evalAdmission s).ptb.queue = s.ptb.queue ∧ (evalAdmission s).ptb.lastUnmatched = s.ptb.lastUnmatched
    ∧ (evalAdmission s).rss = s.rss ∧ (evalAdmission s).din = s.din ∧ (evalAdmission s).dry.clock = s.dry.clock
    ∧ (evalAdmission s).lfn = s.lfn ∧ (evalAdmission s).trc = s.trc ∧ (evalAdmission s).lio.inputs = s.lio.inputs
    ∧ (evalAdmission s).lio.lamps = s.lio.lamps ∧ (evalAdmission s).flt.lineState = s.flt.lineState
    ∧ (evalAdmission s).flt.cause = s.flt.cause ∧ (evalAdmission s).flt.masks = s.flt.masks
    ∧ (evalAdmission s).lnk.parser = s.lnk.parser ∧ (evalAdmission s).lnk.inService = s.lnk.inService
    ∧ (evalAdmission s).lnk.rx = s.lnk.rx ∧ (evalAdmission s).lnk.tx = s.lnk.tx
    ∧ (evalAdmission s).lnk.watchdog = s.lnk.watchdog := by
  unfold evalAdmission
  (repeat' split) <;> simp

@[simp] theorem offerPlate_frame (k : Slot) (s : State) :
    (offerPlate k s).pending = s.pending ∧ (offerPlate k s).powered = s.powered ∧ (offerPlate k s).ptb.queue = s.ptb.queue
    ∧ (offerPlate k s).ptb.lastUnmatched = s.ptb.lastUnmatched ∧ (offerPlate k s).rss = s.rss
    ∧ (offerPlate k s).din = s.din ∧ (offerPlate k s).dry.clock = s.dry.clock ∧ (offerPlate k s).lfn = s.lfn
    ∧ (offerPlate k s).trc = s.trc ∧ (offerPlate k s).lio.inputs = s.lio.inputs ∧ (offerPlate k s).lio.lamps = s.lio.lamps
    ∧ (offerPlate k s).flt.lineState = s.flt.lineState ∧ (offerPlate k s).flt.cause = s.flt.cause
    ∧ (offerPlate k s).flt.masks = s.flt.masks ∧ (offerPlate k s).lnk.parser = s.lnk.parser
    ∧ (offerPlate k s).lnk.inService = s.lnk.inService ∧ (offerPlate k s).lnk.rx = s.lnk.rx
    ∧ (offerPlate k s).lnk.tx = s.lnk.tx ∧ (offerPlate k s).lnk.watchdog = s.lnk.watchdog := by
  unfold offerPlate
  simp

@[simp] theorem transportAnew_frame (s : State) :
    (transportAnew s).pending = s.pending ∧ (transportAnew s).powered = s.powered
    ∧ (transportAnew s).ptb.queue = s.ptb.queue ∧ (transportAnew s).ptb.lastUnmatched = s.ptb.lastUnmatched
    ∧ (transportAnew s).rss = s.rss ∧ (transportAnew s).din = s.din ∧ (transportAnew s).dry.clock = s.dry.clock
    ∧ (transportAnew s).lfn = s.lfn ∧ (transportAnew s).trc = s.trc ∧ (transportAnew s).lio.inputs = s.lio.inputs
    ∧ (transportAnew s).lio.lamps = s.lio.lamps ∧ (transportAnew s).flt.lineState = s.flt.lineState
    ∧ (transportAnew s).flt.cause = s.flt.cause ∧ (transportAnew s).flt.masks = s.flt.masks
    ∧ (transportAnew s).lnk.parser = s.lnk.parser ∧ (transportAnew s).lnk.inService = s.lnk.inService
    ∧ (transportAnew s).lnk.rx = s.lnk.rx ∧ (transportAnew s).lnk.tx = s.lnk.tx
    ∧ (transportAnew s).lnk.watchdog = s.lnk.watchdog := by
  unfold transportAnew
  dsimp only
  (repeat' split) <;> simp

@[simp] theorem startReplenish_frame (s : State) :
    (startReplenish s).pending = s.pending ∧ (startReplenish s).powered = s.powered ∧ (startReplenish s).ptb = s.ptb
    ∧ (startReplenish s).rss = s.rss ∧ (startReplenish s).din = s.din ∧ (startReplenish s).exu = s.exu
    ∧ (startReplenish s).wou.list = s.wou.list ∧ (startReplenish s).wou.transport = s.wou.transport
    ∧ (startReplenish s).wou.lambda = s.wou.lambda ∧ (startReplenish s).wou.committed = s.wou.committed
    ∧ (startReplenish s).dry = s.dry ∧ (startReplenish s).lfn = s.lfn ∧ (startReplenish s).trc = s.trc
    ∧ (startReplenish s).lio.inputs = s.lio.inputs ∧ (startReplenish s).lio.lamps = s.lio.lamps
    ∧ (startReplenish s).flt = s.flt ∧ (startReplenish s).lnk = s.lnk := by
  unfold startReplenish
  (repeat' split) <;> simp

@[simp] theorem enterPending_frame (s : State) :
    (enterPending s).pending = s.pending ∧ (enterPending s).powered = s.powered ∧ (enterPending s).ptb = s.ptb
    ∧ (enterPending s).rss = s.rss ∧ (enterPending s).din = s.din ∧ (enterPending s).exu = s.exu
    ∧ (enterPending s).wou.list = s.wou.list ∧ (enterPending s).wou.transport = s.wou.transport
    ∧ (enterPending s).wou.lambda = s.wou.lambda ∧ (enterPending s).wou.committed = s.wou.committed
    ∧ (enterPending s).dry = s.dry ∧ (enterPending s).lfn = s.lfn ∧ (enterPending s).trc = s.trc
    ∧ (enterPending s).lio.inputs = s.lio.inputs ∧ (enterPending s).lio.lamps = s.lio.lamps
    ∧ (enterPending s).flt.lineState = s.flt.lineState ∧ (enterPending s).flt.cause = s.flt.cause
    ∧ (enterPending s).flt.masks = s.flt.masks ∧ (enterPending s).lnk.parser = s.lnk.parser
    ∧ (enterPending s).lnk.inService = s.lnk.inService ∧ (enterPending s).lnk.rx = s.lnk.rx
    ∧ (enterPending s).lnk.tx = s.lnk.tx ∧ (enterPending s).lnk.watchdog = s.lnk.watchdog := by
  unfold enterPending
  (repeat' split) <;> simp

@[simp] theorem tryReplenish_frame (s : State) :
    (tryReplenish s).pending = s.pending ∧ (tryReplenish s).powered = s.powered ∧ (tryReplenish s).ptb.queue = s.ptb.queue
    ∧ (tryReplenish s).ptb.lastUnmatched = s.ptb.lastUnmatched ∧ (tryReplenish s).rss = s.rss
    ∧ (tryReplenish s).din = s.din ∧ (tryReplenish s).dry.clock = s.dry.clock ∧ (tryReplenish s).lfn = s.lfn
    ∧ (tryReplenish s).trc = s.trc ∧ (tryReplenish s).lio.inputs = s.lio.inputs ∧ (tryReplenish s).lio.lamps = s.lio.lamps
    ∧ (tryReplenish s).flt.lineState = s.flt.lineState ∧ (tryReplenish s).flt.cause = s.flt.cause
    ∧ (tryReplenish s).flt.masks = s.flt.masks ∧ (tryReplenish s).lnk.parser = s.lnk.parser
    ∧ (tryReplenish s).lnk.inService = s.lnk.inService ∧ (tryReplenish s).lnk.rx = s.lnk.rx
    ∧ (tryReplenish s).lnk.tx = s.lnk.tx ∧ (tryReplenish s).lnk.watchdog = s.lnk.watchdog := by
  unfold tryReplenish
  dsimp only
  (repeat' split) <;> simp

@[simp] theorem freshLowChange_frame (active : Bool) (s : State) :
    (freshLowChange active s).pending = s.pending ∧ (freshLowChange active s).powered = s.powered
    ∧ (freshLowChange active s).ptb.queue = s.ptb.queue
    ∧ (freshLowChange active s).ptb.lastUnmatched = s.ptb.lastUnmatched ∧ (freshLowChange active s).rss = s.rss
    ∧ (freshLowChange active s).din = s.din ∧ (freshLowChange active s).dry.clock = s.dry.clock
    ∧ (freshLowChange active s).lfn = s.lfn ∧ (freshLowChange active s).trc = s.trc
    ∧ (freshLowChange active s).lio.inputs = s.lio.inputs ∧ (freshLowChange active s).lio.lamps = s.lio.lamps
    ∧ (freshLowChange active s).flt.lineState = s.flt.lineState ∧ (freshLowChange active s).flt.cause = s.flt.cause
    ∧ (freshLowChange active s).flt.masks = s.flt.masks ∧ (freshLowChange active s).lnk.parser = s.lnk.parser
    ∧ (freshLowChange active s).lnk.inService = s.lnk.inService ∧ (freshLowChange active s).lnk.rx = s.lnk.rx
    ∧ (freshLowChange active s).lnk.tx = s.lnk.tx ∧ (freshLowChange active s).lnk.watchdog = s.lnk.watchdog := by
  unfold freshLowChange
  (repeat' split) <;> simp

@[simp] theorem completeReplenish_frame (s : State) :
    (completeReplenish s).pending = s.pending ∧ (completeReplenish s).powered = s.powered
    ∧ (completeReplenish s).ptb.queue = s.ptb.queue ∧ (completeReplenish s).ptb.lastUnmatched = s.ptb.lastUnmatched
    ∧ (completeReplenish s).rss.working = s.rss.working ∧ (completeReplenish s).rss.unsaved = s.rss.unsaved
    ∧ (completeReplenish s).rss.bankA = s.rss.bankA ∧ (completeReplenish s).rss.bankB = s.rss.bankB
    ∧ (completeReplenish s).rss.save = s.rss.save ∧ (completeReplenish s).din = s.din
    ∧ (completeReplenish s).dry.clock = s.dry.clock ∧ (completeReplenish s).lfn = s.lfn
    ∧ (completeReplenish s).trc = s.trc ∧ (completeReplenish s).lio.inputs = s.lio.inputs
    ∧ (completeReplenish s).lio.lamps = s.lio.lamps ∧ (completeReplenish s).flt.lineState = s.flt.lineState
    ∧ (completeReplenish s).flt.cause = s.flt.cause ∧ (completeReplenish s).flt.masks = s.flt.masks
    ∧ (completeReplenish s).lnk.parser = s.lnk.parser ∧ (completeReplenish s).lnk.inService = s.lnk.inService
    ∧ (completeReplenish s).lnk.rx = s.lnk.rx ∧ (completeReplenish s).lnk.tx = s.lnk.tx
    ∧ (completeReplenish s).lnk.watchdog = s.lnk.watchdog := by
  unfold completeReplenish
  dsimp only
  (repeat' split) <;> simp

@[simp] theorem stopReplenish_frame (pumpFault : Bool) (s : State) :
    (stopReplenish pumpFault s).pending = s.pending ∧ (stopReplenish pumpFault s).powered = s.powered
    ∧ (stopReplenish pumpFault s).ptb.queue = s.ptb.queue
    ∧ (stopReplenish pumpFault s).ptb.lastUnmatched = s.ptb.lastUnmatched
    ∧ (stopReplenish pumpFault s).rss.working = s.rss.working ∧ (stopReplenish pumpFault s).rss.unsaved = s.rss.unsaved
    ∧ (stopReplenish pumpFault s).rss.bankA = s.rss.bankA ∧ (stopReplenish pumpFault s).rss.bankB = s.rss.bankB
    ∧ (stopReplenish pumpFault s).rss.save = s.rss.save ∧ (stopReplenish pumpFault s).din = s.din
    ∧ (stopReplenish pumpFault s).dry.clock = s.dry.clock ∧ (stopReplenish pumpFault s).lfn = s.lfn
    ∧ (stopReplenish pumpFault s).trc = s.trc ∧ (stopReplenish pumpFault s).lio.inputs = s.lio.inputs
    ∧ (stopReplenish pumpFault s).lio.lamps = s.lio.lamps ∧ (stopReplenish pumpFault s).flt.lineState = s.flt.lineState
    ∧ (stopReplenish pumpFault s).flt.cause = s.flt.cause ∧ (stopReplenish pumpFault s).flt.masks = s.flt.masks
    ∧ (stopReplenish pumpFault s).lnk.parser = s.lnk.parser ∧ (stopReplenish pumpFault s).lnk.inService = s.lnk.inService
    ∧ (stopReplenish pumpFault s).lnk.rx = s.lnk.rx ∧ (stopReplenish pumpFault s).lnk.tx = s.lnk.tx
    ∧ (stopReplenish pumpFault s).lnk.watchdog = s.lnk.watchdog := by
  unfold stopReplenish
  dsimp only
  (repeat' split) <;> simp

@[simp] theorem replenishNow_frame (s : State) :
    (replenishNow s).pending = s.pending ∧ (replenishNow s).powered = s.powered ∧ (replenishNow s).ptb.queue = s.ptb.queue
    ∧ (replenishNow s).ptb.lastUnmatched = s.ptb.lastUnmatched ∧ (replenishNow s).rss = s.rss
    ∧ (replenishNow s).din = s.din ∧ (replenishNow s).dry.clock = s.dry.clock ∧ (replenishNow s).lfn = s.lfn
    ∧ (replenishNow s).trc = s.trc ∧ (replenishNow s).lio.inputs = s.lio.inputs ∧ (replenishNow s).lio.lamps = s.lio.lamps
    ∧ (replenishNow s).flt.lineState = s.flt.lineState ∧ (replenishNow s).flt.cause = s.flt.cause
    ∧ (replenishNow s).flt.masks = s.flt.masks ∧ (replenishNow s).lnk.parser = s.lnk.parser
    ∧ (replenishNow s).lnk.inService = s.lnk.inService ∧ (replenishNow s).lnk.rx = s.lnk.rx
    ∧ (replenishNow s).lnk.tx = s.lnk.tx ∧ (replenishNow s).lnk.watchdog = s.lnk.watchdog := by
  unfold replenishNow
  (repeat' split) <;> simp

@[simp] theorem bathChanged_frame (s : State) :
    (bathChanged s).pending = s.pending ∧ (bathChanged s).powered = s.powered ∧ (bathChanged s).ptb.queue = s.ptb.queue
    ∧ (bathChanged s).ptb.lastUnmatched = s.ptb.lastUnmatched ∧ (bathChanged s).rss.working = s.rss.working
    ∧ (bathChanged s).rss.unsaved = s.rss.unsaved ∧ (bathChanged s).rss.bankA = s.rss.bankA
    ∧ (bathChanged s).rss.bankB = s.rss.bankB ∧ (bathChanged s).rss.save = s.rss.save ∧ (bathChanged s).din = s.din
    ∧ (bathChanged s).dry.clock = s.dry.clock ∧ (bathChanged s).lfn = s.lfn ∧ (bathChanged s).trc = s.trc
    ∧ (bathChanged s).lio.inputs = s.lio.inputs ∧ (bathChanged s).lio.lamps = s.lio.lamps
    ∧ (bathChanged s).flt.lineState = s.flt.lineState ∧ (bathChanged s).flt.cause = s.flt.cause
    ∧ (bathChanged s).flt.masks = s.flt.masks ∧ (bathChanged s).lnk.parser = s.lnk.parser
    ∧ (bathChanged s).lnk.inService = s.lnk.inService ∧ (bathChanged s).lnk.rx = s.lnk.rx
    ∧ (bathChanged s).lnk.tx = s.lnk.tx ∧ (bathChanged s).lnk.watchdog = s.lnk.watchdog := by
  unfold bathChanged
  simp

@[simp] theorem shiftTo_frame (position mark : Nat) (s : State) :
    (shiftTo position mark s).pending = s.pending ∧ (shiftTo position mark s).powered = s.powered
    ∧ (shiftTo position mark s).ptb = s.ptb ∧ (shiftTo position mark s).rss = s.rss
    ∧ (shiftTo position mark s).din = s.din ∧ (shiftTo position mark s).exu = s.exu
    ∧ (shiftTo position mark s).wou.transport = s.wou.transport ∧ (shiftTo position mark s).wou.lambda = s.wou.lambda
    ∧ (shiftTo position mark s).wou.committed = s.wou.committed
    ∧ (shiftTo position mark s).wou.replenish = s.wou.replenish ∧ (shiftTo position mark s).dry = s.dry
    ∧ (shiftTo position mark s).lfn = s.lfn ∧ (shiftTo position mark s).trc = s.trc
    ∧ (shiftTo position mark s).lio = s.lio ∧ (shiftTo position mark s).flt = s.flt
    ∧ (shiftTo position mark s).lnk = s.lnk := by
  unfold shiftTo
  simp

@[simp] theorem gapMark_frame (k : Slot) (s : State) :
    (gapMark k s).pending = s.pending ∧ (gapMark k s).powered = s.powered ∧ (gapMark k s).ptb.queue = s.ptb.queue
    ∧ (gapMark k s).ptb.lastUnmatched = s.ptb.lastUnmatched ∧ (gapMark k s).rss = s.rss ∧ (gapMark k s).din = s.din
    ∧ (gapMark k s).dry.clock = s.dry.clock ∧ (gapMark k s).lfn = s.lfn ∧ (gapMark k s).trc = s.trc
    ∧ (gapMark k s).lio.inputs = s.lio.inputs ∧ (gapMark k s).lio.lamps = s.lio.lamps
    ∧ (gapMark k s).flt.lineState = s.flt.lineState ∧ (gapMark k s).flt.cause = s.flt.cause
    ∧ (gapMark k s).flt.masks = s.flt.masks ∧ (gapMark k s).lnk.parser = s.lnk.parser
    ∧ (gapMark k s).lnk.inService = s.lnk.inService ∧ (gapMark k s).lnk.rx = s.lnk.rx ∧ (gapMark k s).lnk.tx = s.lnk.tx
    ∧ (gapMark k s).lnk.watchdog = s.lnk.watchdog := by
  unfold gapMark
  dsimp only
  (repeat' split) <;> simp

@[simp] theorem stallTransport_frame (s : State) :
    (stallTransport s).pending = s.pending ∧ (stallTransport s).powered = s.powered
    ∧ (stallTransport s).ptb.queue = s.ptb.queue ∧ (stallTransport s).ptb.lastUnmatched = s.ptb.lastUnmatched
    ∧ (stallTransport s).rss = s.rss ∧ (stallTransport s).din = s.din ∧ (stallTransport s).dry.clock = s.dry.clock
    ∧ (stallTransport s).lfn = s.lfn ∧ (stallTransport s).trc = s.trc ∧ (stallTransport s).lio.inputs = s.lio.inputs
    ∧ (stallTransport s).lio.lamps = s.lio.lamps ∧ (stallTransport s).flt.lineState = s.flt.lineState
    ∧ (stallTransport s).flt.cause = s.flt.cause ∧ (stallTransport s).flt.masks = s.flt.masks
    ∧ (stallTransport s).lnk.parser = s.lnk.parser ∧ (stallTransport s).lnk.inService = s.lnk.inService
    ∧ (stallTransport s).lnk.rx = s.lnk.rx ∧ (stallTransport s).lnk.tx = s.lnk.tx
    ∧ (stallTransport s).lnk.watchdog = s.lnk.watchdog := by
  unfold stallTransport
  dsimp only
  simp

@[simp] theorem endMark_frame (k : Slot) (s : State) :
    (endMark k s).pending = s.pending ∧ (endMark k s).powered = s.powered ∧ (endMark k s).ptb.queue = s.ptb.queue
    ∧ (endMark k s).ptb.lastUnmatched = s.ptb.lastUnmatched ∧ (endMark k s).rss = s.rss ∧ (endMark k s).din = s.din
    ∧ (endMark k s).dry.clock = s.dry.clock ∧ (endMark k s).lfn = s.lfn ∧ (endMark k s).trc = s.trc
    ∧ (endMark k s).lio.inputs = s.lio.inputs ∧ (endMark k s).lio.lamps = s.lio.lamps
    ∧ (endMark k s).flt.lineState = s.flt.lineState ∧ (endMark k s).flt.cause = s.flt.cause
    ∧ (endMark k s).flt.masks = s.flt.masks ∧ (endMark k s).lnk.parser = s.lnk.parser
    ∧ (endMark k s).lnk.inService = s.lnk.inService ∧ (endMark k s).lnk.rx = s.lnk.rx ∧ (endMark k s).lnk.tx = s.lnk.tx
    ∧ (endMark k s).lnk.watchdog = s.lnk.watchdog := by
  unfold endMark
  dsimp only
  (repeat' split) <;> simp

@[simp] theorem commitReplenish_frame (s : State) :
    (commitReplenish s).pending = s.pending ∧ (commitReplenish s).powered = s.powered ∧ (commitReplenish s).ptb = s.ptb
    ∧ (commitReplenish s).rss = s.rss ∧ (commitReplenish s).din = s.din ∧ (commitReplenish s).exu = s.exu
    ∧ (commitReplenish s).wou.list = s.wou.list ∧ (commitReplenish s).wou.transport = s.wou.transport
    ∧ (commitReplenish s).wou.lambda = s.wou.lambda ∧ (commitReplenish s).wou.committed = s.wou.committed
    ∧ (commitReplenish s).dry = s.dry ∧ (commitReplenish s).lfn = s.lfn ∧ (commitReplenish s).trc = s.trc
    ∧ (commitReplenish s).lio.inputs = s.lio.inputs ∧ (commitReplenish s).lio.lamps = s.lio.lamps
    ∧ (commitReplenish s).flt.lineState = s.flt.lineState ∧ (commitReplenish s).flt.cause = s.flt.cause
    ∧ (commitReplenish s).flt.masks = s.flt.masks ∧ (commitReplenish s).lnk.parser = s.lnk.parser
    ∧ (commitReplenish s).lnk.inService = s.lnk.inService ∧ (commitReplenish s).lnk.rx = s.lnk.rx
    ∧ (commitReplenish s).lnk.tx = s.lnk.tx ∧ (commitReplenish s).lnk.watchdog = s.lnk.watchdog := by
  unfold commitReplenish
  (repeat' split) <;> simp

@[simp] theorem commitMark_frame (k : Slot) (s : State) :
    (commitMark k s).pending = s.pending ∧ (commitMark k s).powered = s.powered ∧ (commitMark k s).ptb.queue = s.ptb.queue
    ∧ (commitMark k s).ptb.lastUnmatched = s.ptb.lastUnmatched ∧ (commitMark k s).din = s.din
    ∧ (commitMark k s).dry.clock = s.dry.clock ∧ (commitMark k s).lfn = s.lfn ∧ (commitMark k s).trc = s.trc
    ∧ (commitMark k s).lio.inputs = s.lio.inputs ∧ (commitMark k s).lio.lamps = s.lio.lamps
    ∧ (commitMark k s).flt.lineState = s.flt.lineState ∧ (commitMark k s).flt.cause = s.flt.cause
    ∧ (commitMark k s).flt.masks = s.flt.masks ∧ (commitMark k s).lnk.parser = s.lnk.parser
    ∧ (commitMark k s).lnk.inService = s.lnk.inService ∧ (commitMark k s).lnk.rx = s.lnk.rx
    ∧ (commitMark k s).lnk.tx = s.lnk.tx ∧ (commitMark k s).lnk.watchdog = s.lnk.watchdog := by
  unfold commitMark
  dsimp only
  (repeat' split) <;> simp

@[simp] theorem writeStall_frame (k : Slot) (stall : Nat) (s : State) :
    (writeStall k stall s).pending = s.pending ∧ (writeStall k stall s).powered = s.powered
    ∧ (writeStall k stall s).ptb.queue = s.ptb.queue ∧ (writeStall k stall s).ptb.lastUnmatched = s.ptb.lastUnmatched
    ∧ (writeStall k stall s).rss = s.rss ∧ (writeStall k stall s).din = s.din ∧ (writeStall k stall s).exu = s.exu
    ∧ (writeStall k stall s).wou = s.wou ∧ (writeStall k stall s).dry = s.dry ∧ (writeStall k stall s).lfn = s.lfn
    ∧ (writeStall k stall s).trc = s.trc ∧ (writeStall k stall s).lio = s.lio ∧ (writeStall k stall s).flt = s.flt
    ∧ (writeStall k stall s).lnk = s.lnk := by
  unfold writeStall
  simp

@[simp] theorem exitMark_frame (s : State) :
    (exitMark s).pending = s.pending ∧ (exitMark s).powered = s.powered ∧ (exitMark s).ptb.queue = s.ptb.queue
    ∧ (exitMark s).ptb.lastUnmatched = s.ptb.lastUnmatched ∧ (exitMark s).rss = s.rss ∧ (exitMark s).din = s.din
    ∧ (exitMark s).dry.clock = s.dry.clock ∧ (exitMark s).lfn.state = s.lfn.state ∧ (exitMark s).lfn.plate = s.lfn.plate
    ∧ (exitMark s).trc.level = s.trc.level ∧ (exitMark s).trc.handoff = s.trc.handoff
    ∧ (exitMark s).lio.inputs = s.lio.inputs ∧ (exitMark s).lio.lamps = s.lio.lamps
    ∧ (exitMark s).flt.lineState = s.flt.lineState ∧ (exitMark s).flt.cause = s.flt.cause
    ∧ (exitMark s).flt.masks = s.flt.masks ∧ (exitMark s).lnk.parser = s.lnk.parser
    ∧ (exitMark s).lnk.inService = s.lnk.inService ∧ (exitMark s).lnk.rx = s.lnk.rx ∧ (exitMark s).lnk.tx = s.lnk.tx
    ∧ (exitMark s).lnk.watchdog = s.lnk.watchdog := by
  unfold exitMark
  dsimp only
  (repeat' split) <;> simp

@[simp] theorem testStallEnd_frame (s : State) :
    (testStallEnd s).pending = s.pending ∧ (testStallEnd s).powered = s.powered ∧ (testStallEnd s).ptb.queue = s.ptb.queue
    ∧ (testStallEnd s).ptb.lastUnmatched = s.ptb.lastUnmatched ∧ (testStallEnd s).rss = s.rss
    ∧ (testStallEnd s).din = s.din ∧ (testStallEnd s).dry.clock = s.dry.clock ∧ (testStallEnd s).lfn = s.lfn
    ∧ (testStallEnd s).trc = s.trc ∧ (testStallEnd s).lio.inputs = s.lio.inputs ∧ (testStallEnd s).lio.lamps = s.lio.lamps
    ∧ (testStallEnd s).flt.lineState = s.flt.lineState ∧ (testStallEnd s).flt.cause = s.flt.cause
    ∧ (testStallEnd s).flt.masks = s.flt.masks ∧ (testStallEnd s).lnk.parser = s.lnk.parser
    ∧ (testStallEnd s).lnk.inService = s.lnk.inService ∧ (testStallEnd s).lnk.rx = s.lnk.rx
    ∧ (testStallEnd s).lnk.tx = s.lnk.tx ∧ (testStallEnd s).lnk.watchdog = s.lnk.watchdog := by
  unfold testStallEnd
  (repeat' split) <;> simp

@[simp] theorem platePicked_frame (s : State) :
    (platePicked s).pending = s.pending ∧ (platePicked s).powered = s.powered ∧ (platePicked s).ptb.queue = s.ptb.queue
    ∧ (platePicked s).ptb.lastUnmatched = s.ptb.lastUnmatched ∧ (platePicked s).rss = s.rss ∧ (platePicked s).din = s.din
    ∧ (platePicked s).dry.clock = s.dry.clock ∧ (platePicked s).lfn = s.lfn ∧ (platePicked s).trc = s.trc
    ∧ (platePicked s).lio.inputs = s.lio.inputs ∧ (platePicked s).lio.lamps = s.lio.lamps
    ∧ (platePicked s).flt.lineState = s.flt.lineState ∧ (platePicked s).flt.cause = s.flt.cause
    ∧ (platePicked s).flt.masks = s.flt.masks ∧ (platePicked s).lnk.parser = s.lnk.parser
    ∧ (platePicked s).lnk.inService = s.lnk.inService ∧ (platePicked s).lnk.rx = s.lnk.rx
    ∧ (platePicked s).lnk.tx = s.lnk.tx ∧ (platePicked s).lnk.watchdog = s.lnk.watchdog := by
  unfold platePicked
  simp

@[simp] theorem takeSolventTemp_frame (reading : Nat) (s : State) :
    (takeSolventTemp reading s).pending = s.pending ∧ (takeSolventTemp reading s).powered = s.powered
    ∧ (takeSolventTemp reading s).ptb = s.ptb ∧ (takeSolventTemp reading s).rss = s.rss
    ∧ (takeSolventTemp reading s).din = s.din ∧ (takeSolventTemp reading s).exu = s.exu
    ∧ (takeSolventTemp reading s).dry = s.dry ∧ (takeSolventTemp reading s).lfn = s.lfn
    ∧ (takeSolventTemp reading s).trc = s.trc ∧ (takeSolventTemp reading s).lio.inputs = s.lio.inputs
    ∧ (takeSolventTemp reading s).lio.drives = s.lio.drives ∧ (takeSolventTemp reading s).lio.lamps = s.lio.lamps
    ∧ (takeSolventTemp reading s).flt.lineState = s.flt.lineState ∧ (takeSolventTemp reading s).flt.cause = s.flt.cause
    ∧ (takeSolventTemp reading s).flt.masks = s.flt.masks ∧ (takeSolventTemp reading s).lnk.parser = s.lnk.parser
    ∧ (takeSolventTemp reading s).lnk.inService = s.lnk.inService ∧ (takeSolventTemp reading s).lnk.rx = s.lnk.rx
    ∧ (takeSolventTemp reading s).lnk.tx = s.lnk.tx ∧ (takeSolventTemp reading s).lnk.watchdog = s.lnk.watchdog := by
  unfold takeSolventTemp
  dsimp only
  (repeat' split) <;> simp

/-! ### Exposure -/

@[simp] theorem intakePresentChange_frame (active : Bool) (s : State) :
    (intakePresentChange active s).pending = s.pending ∧ (intakePresentChange active s).powered = s.powered
    ∧ (intakePresentChange active s).ptb = s.ptb ∧ (intakePresentChange active s).rss = s.rss
    ∧ (intakePresentChange active s).din = s.din ∧ (intakePresentChange active s).exu.state = s.exu.state
    ∧ (intakePresentChange active s).exu.plate = s.exu.plate ∧ (intakePresentChange active s).wou = s.wou
    ∧ (intakePresentChange active s).dry = s.dry ∧ (intakePresentChange active s).lfn = s.lfn
    ∧ (intakePresentChange active s).trc = s.trc ∧ (intakePresentChange active s).lio = s.lio
    ∧ (intakePresentChange active s).flt = s.flt ∧ (intakePresentChange active s).lnk = s.lnk := by
  unfold intakePresentChange
  (repeat' split) <;> simp

@[simp] theorem loadMatched_frame (k : Slot) (s : State) :
    (loadMatched k s).pending = s.pending ∧ (loadMatched k s).powered = s.powered
    ∧ (loadMatched k s).ptb.lastUnmatched = s.ptb.lastUnmatched ∧ (loadMatched k s).rss = s.rss
    ∧ (loadMatched k s).din = s.din ∧ (loadMatched k s).exu = s.exu ∧ (loadMatched k s).wou = s.wou
    ∧ (loadMatched k s).dry = s.dry ∧ (loadMatched k s).lfn = s.lfn ∧ (loadMatched k s).trc = s.trc
    ∧ (loadMatched k s).lio = s.lio ∧ (loadMatched k s).flt = s.flt ∧ (loadMatched k s).lnk = s.lnk := by
  unfold loadMatched
  simp

@[simp] theorem unmatchedTag_frame (tag : Nat) (s : State) :
    (unmatchedTag tag s).pending = s.pending ∧ (unmatchedTag tag s).powered = s.powered
    ∧ (unmatchedTag tag s).ptb.plates = s.ptb.plates ∧ (unmatchedTag tag s).ptb.queue = s.ptb.queue
    ∧ (unmatchedTag tag s).rss = s.rss ∧ (unmatchedTag tag s).din = s.din ∧ (unmatchedTag tag s).exu = s.exu
    ∧ (unmatchedTag tag s).wou = s.wou ∧ (unmatchedTag tag s).dry = s.dry ∧ (unmatchedTag tag s).lfn = s.lfn
    ∧ (unmatchedTag tag s).trc = s.trc ∧ (unmatchedTag tag s).lio.inputs = s.lio.inputs
    ∧ (unmatchedTag tag s).lio.drives = s.lio.drives ∧ (unmatchedTag tag s).lio.lamps = s.lio.lamps
    ∧ (unmatchedTag tag s).flt.lineState = s.flt.lineState ∧ (unmatchedTag tag s).flt.cause = s.flt.cause
    ∧ (unmatchedTag tag s).flt.masks = s.flt.masks ∧ (unmatchedTag tag s).lnk.parser = s.lnk.parser
    ∧ (unmatchedTag tag s).lnk.inService = s.lnk.inService ∧ (unmatchedTag tag s).lnk.rx = s.lnk.rx
    ∧ (unmatchedTag tag s).lnk.tx = s.lnk.tx ∧ (unmatchedTag tag s).lnk.watchdog = s.lnk.watchdog := by
  unfold unmatchedTag
  simp

@[simp] theorem takeIntakeTag_frame (tag : Nat) (s : State) :
    (takeIntakeTag tag s).pending = s.pending ∧ (takeIntakeTag tag s).powered = s.powered
    ∧ (takeIntakeTag tag s).rss = s.rss ∧ (takeIntakeTag tag s).din = s.din ∧ (takeIntakeTag tag s).wou = s.wou
    ∧ (takeIntakeTag tag s).dry = s.dry ∧ (takeIntakeTag tag s).lfn = s.lfn ∧ (takeIntakeTag tag s).trc = s.trc
    ∧ (takeIntakeTag tag s).lio.inputs = s.lio.inputs ∧ (takeIntakeTag tag s).lio.lamps = s.lio.lamps
    ∧ (takeIntakeTag tag s).flt.lineState = s.flt.lineState ∧ (takeIntakeTag tag s).flt.cause = s.flt.cause
    ∧ (takeIntakeTag tag s).flt.masks = s.flt.masks ∧ (takeIntakeTag tag s).lnk.parser = s.lnk.parser
    ∧ (takeIntakeTag tag s).lnk.inService = s.lnk.inService ∧ (takeIntakeTag tag s).lnk.rx = s.lnk.rx
    ∧ (takeIntakeTag tag s).lnk.tx = s.lnk.tx ∧ (takeIntakeTag tag s).lnk.watchdog = s.lnk.watchdog := by
  unfold takeIntakeTag
  dsimp only
  (repeat' split) <;> simp

@[simp] theorem askSegment_frame (ch : LampChannel) (r : RunRecord) (s : State) :
    (askSegment ch r s).1.pending = s.pending ∧ (askSegment ch r s).1.powered = s.powered
    ∧ (askSegment ch r s).1.ptb.queue = s.ptb.queue ∧ (askSegment ch r s).1.ptb.lastUnmatched = s.ptb.lastUnmatched
    ∧ (askSegment ch r s).1.rss = s.rss ∧ (askSegment ch r s).1.exu = s.exu ∧ (askSegment ch r s).1.wou = s.wou
    ∧ (askSegment ch r s).1.dry = s.dry ∧ (askSegment ch r s).1.lfn = s.lfn ∧ (askSegment ch r s).1.trc = s.trc
    ∧ (askSegment ch r s).1.lio.inputs = s.lio.inputs ∧ (askSegment ch r s).1.lio.drives = s.lio.drives
    ∧ (askSegment ch r s).1.flt = s.flt ∧ (askSegment ch r s).1.lnk = s.lnk := by
  unfold askSegment
  (try dsimp only)
  (repeat' split) <;> first
    | (simp; done)
    | (rename_i heq; have e := (congrArg Prod.fst heq).symm; dsimp only at e; subst e; simp; done)

@[simp] theorem askStart_frame (ch : LampChannel) (k : Slot) (s : State) :
    (askStart ch k s).1.pending = s.pending ∧ (askStart ch k s).1.powered = s.powered
    ∧ (askStart ch k s).1.ptb.queue = s.ptb.queue ∧ (askStart ch k s).1.ptb.lastUnmatched = s.ptb.lastUnmatched
    ∧ (askStart ch k s).1.rss = s.rss ∧ (askStart ch k s).1.exu = s.exu ∧ (askStart ch k s).1.wou = s.wou
    ∧ (askStart ch k s).1.dry = s.dry ∧ (askStart ch k s).1.lfn = s.lfn ∧ (askStart ch k s).1.trc = s.trc
    ∧ (askStart ch k s).1.lio.inputs = s.lio.inputs ∧ (askStart ch k s).1.lio.drives = s.lio.drives
    ∧ (askStart ch k s).1.flt = s.flt ∧ (askStart ch k s).1.lnk = s.lnk := by
  unfold askStart
  (try dsimp only)
  (repeat' split) <;> first
    | (simp; done)
    | (rename_i heq; have e := (congrArg Prod.fst heq).symm; dsimp only at e; subst e; simp; done)

@[simp] theorem askFresh_frame (ch : LampChannel) (k : Slot) (s : State) :
    (askFresh ch k s).1.pending = s.pending ∧ (askFresh ch k s).1.powered = s.powered
    ∧ (askFresh ch k s).1.ptb.queue = s.ptb.queue ∧ (askFresh ch k s).1.ptb.lastUnmatched = s.ptb.lastUnmatched
    ∧ (askFresh ch k s).1.rss = s.rss ∧ (askFresh ch k s).1.exu = s.exu ∧ (askFresh ch k s).1.wou = s.wou
    ∧ (askFresh ch k s).1.dry = s.dry ∧ (askFresh ch k s).1.lfn = s.lfn ∧ (askFresh ch k s).1.trc = s.trc
    ∧ (askFresh ch k s).1.lio.inputs = s.lio.inputs ∧ (askFresh ch k s).1.lio.drives = s.lio.drives
    ∧ (askFresh ch k s).1.flt = s.flt ∧ (askFresh ch k s).1.lnk = s.lnk := by
  unfold askFresh
  (repeat' split) <;> simp

@[simp] theorem exuRequest_frame (ch : LampChannel) (k : Slot) (s : State) :
    (exuRequest ch k s).1.pending = s.pending ∧ (exuRequest ch k s).1.powered = s.powered
    ∧ (exuRequest ch k s).1.ptb.queue = s.ptb.queue ∧ (exuRequest ch k s).1.ptb.lastUnmatched = s.ptb.lastUnmatched
    ∧ (exuRequest ch k s).1.rss = s.rss ∧ (exuRequest ch k s).1.wou = s.wou ∧ (exuRequest ch k s).1.dry = s.dry
    ∧ (exuRequest ch k s).1.lfn = s.lfn ∧ (exuRequest ch k s).1.trc = s.trc
    ∧ (exuRequest ch k s).1.lio.inputs = s.lio.inputs ∧ (exuRequest ch k s).1.lio.drives = s.lio.drives
    ∧ (exuRequest ch k s).1.flt = s.flt ∧ (exuRequest ch k s).1.lnk = s.lnk := by
  unfold exuRequest
  (try dsimp only)
  (repeat' split) <;> first
    | (simp; done)
    | (rename_i heq; have e := (congrArg Prod.fst heq).symm; dsimp only at e; subst e; simp; done)

@[simp] theorem exuEnterHeld_frame (k : Slot) (reason : HoldReason) (s : State) :
    (exuEnterHeld k reason s).pending = s.pending ∧ (exuEnterHeld k reason s).powered = s.powered
    ∧ (exuEnterHeld k reason s).ptb.queue = s.ptb.queue
    ∧ (exuEnterHeld k reason s).ptb.lastUnmatched = s.ptb.lastUnmatched ∧ (exuEnterHeld k reason s).rss = s.rss
    ∧ (exuEnterHeld k reason s).din = s.din ∧ (exuEnterHeld k reason s).exu.plate = s.exu.plate
    ∧ (exuEnterHeld k reason s).wou = s.wou ∧ (exuEnterHeld k reason s).dry = s.dry
    ∧ (exuEnterHeld k reason s).lfn = s.lfn ∧ (exuEnterHeld k reason s).trc = s.trc
    ∧ (exuEnterHeld k reason s).lio = s.lio ∧ (exuEnterHeld k reason s).flt = s.flt
    ∧ (exuEnterHeld k reason s).lnk.parser = s.lnk.parser ∧ (exuEnterHeld k reason s).lnk.inService = s.lnk.inService
    ∧ (exuEnterHeld k reason s).lnk.rx = s.lnk.rx ∧ (exuEnterHeld k reason s).lnk.tx = s.lnk.tx
    ∧ (exuEnterHeld k reason s).lnk.watchdog = s.lnk.watchdog := by
  unfold exuEnterHeld
  simp

@[simp] theorem exuAnswer_frame (k : Slot) (x : State × WorkAnswer) :
    (exuAnswer k x).pending = x.1.pending ∧ (exuAnswer k x).powered = x.1.powered
    ∧ (exuAnswer k x).ptb.queue = x.1.ptb.queue ∧ (exuAnswer k x).ptb.lastUnmatched = x.1.ptb.lastUnmatched
    ∧ (exuAnswer k x).rss = x.1.rss ∧ (exuAnswer k x).din = x.1.din ∧ (exuAnswer k x).wou = x.1.wou
    ∧ (exuAnswer k x).dry = x.1.dry ∧ (exuAnswer k x).lfn = x.1.lfn ∧ (exuAnswer k x).trc = x.1.trc
    ∧ (exuAnswer k x).lio = x.1.lio ∧ (exuAnswer k x).flt = x.1.flt ∧ (exuAnswer k x).lnk.parser = x.1.lnk.parser
    ∧ (exuAnswer k x).lnk.inService = x.1.lnk.inService ∧ (exuAnswer k x).lnk.rx = x.1.lnk.rx
    ∧ (exuAnswer k x).lnk.tx = x.1.lnk.tx ∧ (exuAnswer k x).lnk.watchdog = x.1.lnk.watchdog := by
  unfold exuAnswer
  (repeat' split) <;> simp

@[simp] theorem askMain_frame (s : State) :
    (askMain s).pending = s.pending ∧ (askMain s).powered = s.powered ∧ (askMain s).ptb.queue = s.ptb.queue
    ∧ (askMain s).ptb.lastUnmatched = s.ptb.lastUnmatched ∧ (askMain s).rss = s.rss ∧ (askMain s).wou = s.wou
    ∧ (askMain s).dry = s.dry ∧ (askMain s).lfn = s.lfn ∧ (askMain s).trc = s.trc ∧ (askMain s).lio.inputs = s.lio.inputs
    ∧ (askMain s).lio.drives = s.lio.drives ∧ (askMain s).flt = s.flt ∧ (askMain s).lnk.parser = s.lnk.parser
    ∧ (askMain s).lnk.inService = s.lnk.inService ∧ (askMain s).lnk.rx = s.lnk.rx ∧ (askMain s).lnk.tx = s.lnk.tx
    ∧ (askMain s).lnk.watchdog = s.lnk.watchdog := by
  unfold askMain
  (repeat' split) <;> simp

@[simp] theorem exuToMain_frame (s : State) :
    (exuToMain s).pending = s.pending ∧ (exuToMain s).powered = s.powered ∧ (exuToMain s).ptb.queue = s.ptb.queue
    ∧ (exuToMain s).ptb.lastUnmatched = s.ptb.lastUnmatched ∧ (exuToMain s).rss = s.rss ∧ (exuToMain s).wou = s.wou
    ∧ (exuToMain s).dry = s.dry ∧ (exuToMain s).lfn = s.lfn ∧ (exuToMain s).trc = s.trc
    ∧ (exuToMain s).lio.inputs = s.lio.inputs ∧ (exuToMain s).lio.drives = s.lio.drives ∧ (exuToMain s).flt = s.flt
    ∧ (exuToMain s).lnk.parser = s.lnk.parser ∧ (exuToMain s).lnk.inService = s.lnk.inService
    ∧ (exuToMain s).lnk.rx = s.lnk.rx ∧ (exuToMain s).lnk.tx = s.lnk.tx ∧ (exuToMain s).lnk.watchdog = s.lnk.watchdog := by
  unfold exuToMain
  simp

@[simp] theorem askExposure_frame (s : State) :
    (askExposure s).pending = s.pending ∧ (askExposure s).powered = s.powered ∧ (askExposure s).ptb.queue = s.ptb.queue
    ∧ (askExposure s).ptb.lastUnmatched = s.ptb.lastUnmatched ∧ (askExposure s).rss = s.rss ∧ (askExposure s).wou = s.wou
    ∧ (askExposure s).dry = s.dry ∧ (askExposure s).lfn = s.lfn ∧ (askExposure s).trc = s.trc
    ∧ (askExposure s).lio.inputs = s.lio.inputs ∧ (askExposure s).lio.drives = s.lio.drives ∧ (askExposure s).flt = s.flt
    ∧ (askExposure s).lnk.parser = s.lnk.parser ∧ (askExposure s).lnk.inService = s.lnk.inService
    ∧ (askExposure s).lnk.rx = s.lnk.rx ∧ (askExposure s).lnk.tx = s.lnk.tx
    ∧ (askExposure s).lnk.watchdog = s.lnk.watchdog := by
  unfold askExposure
  (try dsimp only)
  (repeat' split) <;> first
    | (simp; done)
    | (rename_i heq; have e := (congrArg Prod.fst heq).symm; dsimp only at e; subst e; simp; done)

@[simp] theorem exuExposed_frame (k : Slot) (s : State) :
    (exuExposed k s).pending = s.pending ∧ (exuExposed k s).powered = s.powered ∧ (exuExposed k s).ptb.queue = s.ptb.queue
    ∧ (exuExposed k s).ptb.lastUnmatched = s.ptb.lastUnmatched ∧ (exuExposed k s).rss = s.rss
    ∧ (exuExposed k s).din = s.din ∧ (exuExposed k s).dry.clock = s.dry.clock ∧ (exuExposed k s).lfn = s.lfn
    ∧ (exuExposed k s).trc = s.trc ∧ (exuExposed k s).lio.inputs = s.lio.inputs ∧ (exuExposed k s).lio.lamps = s.lio.lamps
    ∧ (exuExposed k s).flt.lineState = s.flt.lineState ∧ (exuExposed k s).flt.cause = s.flt.cause
    ∧ (exuExposed k s).flt.masks = s.flt.masks ∧ (exuExposed k s).lnk.parser = s.lnk.parser
    ∧ (exuExposed k s).lnk.inService = s.lnk.inService ∧ (exuExposed k s).lnk.rx = s.lnk.rx
    ∧ (exuExposed k s).lnk.tx = s.lnk.tx ∧ (exuExposed k s).lnk.watchdog = s.lnk.watchdog := by
  unfold exuExposed
  simp

@[simp] theorem exuGoesOn_frame (k : Slot) (st : Substage) (s : State) :
    (exuGoesOn k st s).pending = s.pending ∧ (exuGoesOn k st s).powered = s.powered
    ∧ (exuGoesOn k st s).ptb.queue = s.ptb.queue ∧ (exuGoesOn k st s).ptb.lastUnmatched = s.ptb.lastUnmatched
    ∧ (exuGoesOn k st s).rss = s.rss ∧ (exuGoesOn k st s).dry.clock = s.dry.clock ∧ (exuGoesOn k st s).lfn = s.lfn
    ∧ (exuGoesOn k st s).trc = s.trc ∧ (exuGoesOn k st s).lio.inputs = s.lio.inputs
    ∧ (exuGoesOn k st s).flt.lineState = s.flt.lineState ∧ (exuGoesOn k st s).flt.cause = s.flt.cause
    ∧ (exuGoesOn k st s).flt.masks = s.flt.masks ∧ (exuGoesOn k st s).lnk.parser = s.lnk.parser
    ∧ (exuGoesOn k st s).lnk.inService = s.lnk.inService ∧ (exuGoesOn k st s).lnk.rx = s.lnk.rx
    ∧ (exuGoesOn k st s).lnk.tx = s.lnk.tx ∧ (exuGoesOn k st s).lnk.watchdog = s.lnk.watchdog := by
  unfold exuGoesOn
  (repeat' split) <;> simp

@[simp] theorem exuRunEnding_frame (ch : LampChannel) (ending : RunEnding) (s : State) :
    (exuRunEnding ch ending s).pending = s.pending ∧ (exuRunEnding ch ending s).powered = s.powered
    ∧ (exuRunEnding ch ending s).ptb.queue = s.ptb.queue
    ∧ (exuRunEnding ch ending s).ptb.lastUnmatched = s.ptb.lastUnmatched ∧ (exuRunEnding ch ending s).rss = s.rss
    ∧ (exuRunEnding ch ending s).dry.clock = s.dry.clock ∧ (exuRunEnding ch ending s).lfn = s.lfn
    ∧ (exuRunEnding ch ending s).trc = s.trc ∧ (exuRunEnding ch ending s).lio.inputs = s.lio.inputs
    ∧ (exuRunEnding ch ending s).flt.lineState = s.flt.lineState ∧ (exuRunEnding ch ending s).flt.cause = s.flt.cause
    ∧ (exuRunEnding ch ending s).flt.masks = s.flt.masks ∧ (exuRunEnding ch ending s).lnk.parser = s.lnk.parser
    ∧ (exuRunEnding ch ending s).lnk.inService = s.lnk.inService ∧ (exuRunEnding ch ending s).lnk.rx = s.lnk.rx
    ∧ (exuRunEnding ch ending s).lnk.tx = s.lnk.tx ∧ (exuRunEnding ch ending s).lnk.watchdog = s.lnk.watchdog := by
  unfold exuRunEnding
  dsimp only
  (repeat' split) <;> simp

@[simp] theorem exuPauseReport_frame (ch : LampChannel) (s : State) :
    (exuPauseReport ch s).pending = s.pending ∧ (exuPauseReport ch s).powered = s.powered
    ∧ (exuPauseReport ch s).ptb = s.ptb ∧ (exuPauseReport ch s).rss = s.rss ∧ (exuPauseReport ch s).din = s.din
    ∧ (exuPauseReport ch s).exu.state = s.exu.state ∧ (exuPauseReport ch s).exu.plate = s.exu.plate
    ∧ (exuPauseReport ch s).wou = s.wou ∧ (exuPauseReport ch s).dry = s.dry ∧ (exuPauseReport ch s).lfn = s.lfn
    ∧ (exuPauseReport ch s).trc = s.trc ∧ (exuPauseReport ch s).lio = s.lio ∧ (exuPauseReport ch s).flt = s.flt
    ∧ (exuPauseReport ch s).lnk = s.lnk := by
  unfold exuPauseReport
  (repeat' split) <;> simp

@[simp] theorem loadComplete_frame (s : State) :
    (loadComplete s).pending = s.pending ∧ (loadComplete s).powered = s.powered ∧ (loadComplete s).ptb.queue = s.ptb.queue
    ∧ (loadComplete s).ptb.lastUnmatched = s.ptb.lastUnmatched ∧ (loadComplete s).rss = s.rss
    ∧ (loadComplete s).wou = s.wou ∧ (loadComplete s).dry = s.dry ∧ (loadComplete s).lfn = s.lfn
    ∧ (loadComplete s).trc = s.trc ∧ (loadComplete s).lio.inputs = s.lio.inputs ∧ (loadComplete s).flt = s.flt
    ∧ (loadComplete s).lnk.parser = s.lnk.parser ∧ (loadComplete s).lnk.inService = s.lnk.inService
    ∧ (loadComplete s).lnk.rx = s.lnk.rx ∧ (loadComplete s).lnk.tx = s.lnk.tx
    ∧ (loadComplete s).lnk.watchdog = s.lnk.watchdog := by
  unfold loadComplete
  (repeat' split) <;> simp

@[simp] theorem loadTimeout_frame (s : State) :
    (loadTimeout s).pending = s.pending ∧ (loadTimeout s).powered = s.powered ∧ (loadTimeout s).ptb.queue = s.ptb.queue
    ∧ (loadTimeout s).ptb.lastUnmatched = s.ptb.lastUnmatched ∧ (loadTimeout s).rss = s.rss ∧ (loadTimeout s).din = s.din
    ∧ (loadTimeout s).exu.plate = s.exu.plate ∧ (loadTimeout s).wou = s.wou ∧ (loadTimeout s).dry = s.dry
    ∧ (loadTimeout s).lfn = s.lfn ∧ (loadTimeout s).trc = s.trc ∧ (loadTimeout s).lio.inputs = s.lio.inputs
    ∧ (loadTimeout s).lio.lamps = s.lio.lamps ∧ (loadTimeout s).flt.lineState = s.flt.lineState
    ∧ (loadTimeout s).flt.cause = s.flt.cause ∧ (loadTimeout s).flt.masks = s.flt.masks
    ∧ (loadTimeout s).lnk.parser = s.lnk.parser ∧ (loadTimeout s).lnk.inService = s.lnk.inService
    ∧ (loadTimeout s).lnk.rx = s.lnk.rx ∧ (loadTimeout s).lnk.tx = s.lnk.tx
    ∧ (loadTimeout s).lnk.watchdog = s.lnk.watchdog := by
  unfold loadTimeout
  (repeat' split) <;> simp

@[simp] theorem exuPresentChange_frame (active : Bool) (s : State) :
    (exuPresentChange active s).pending = s.pending ∧ (exuPresentChange active s).powered = s.powered
    ∧ (exuPresentChange active s).ptb.queue = s.ptb.queue
    ∧ (exuPresentChange active s).ptb.lastUnmatched = s.ptb.lastUnmatched ∧ (exuPresentChange active s).rss = s.rss
    ∧ (exuPresentChange active s).wou = s.wou ∧ (exuPresentChange active s).dry = s.dry
    ∧ (exuPresentChange active s).lfn = s.lfn ∧ (exuPresentChange active s).trc = s.trc
    ∧ (exuPresentChange active s).lio.inputs = s.lio.inputs ∧ (exuPresentChange active s).flt = s.flt
    ∧ (exuPresentChange active s).lnk.parser = s.lnk.parser ∧ (exuPresentChange active s).lnk.inService = s.lnk.inService
    ∧ (exuPresentChange active s).lnk.rx = s.lnk.rx ∧ (exuPresentChange active s).lnk.tx = s.lnk.tx
    ∧ (exuPresentChange active s).lnk.watchdog = s.lnk.watchdog := by
  unfold exuPresentChange
  (repeat' split) <;> simp

@[simp] theorem exuLidChange_frame (active : Bool) (s : State) :
    (exuLidChange active s).pending = s.pending ∧ (exuLidChange active s).powered = s.powered
    ∧ (exuLidChange active s).ptb.queue = s.ptb.queue ∧ (exuLidChange active s).ptb.lastUnmatched = s.ptb.lastUnmatched
    ∧ (exuLidChange active s).rss = s.rss ∧ (exuLidChange active s).wou = s.wou ∧ (exuLidChange active s).dry = s.dry
    ∧ (exuLidChange active s).lfn = s.lfn ∧ (exuLidChange active s).trc = s.trc
    ∧ (exuLidChange active s).lio.inputs = s.lio.inputs ∧ (exuLidChange active s).flt = s.flt
    ∧ (exuLidChange active s).lnk.parser = s.lnk.parser ∧ (exuLidChange active s).lnk.inService = s.lnk.inService
    ∧ (exuLidChange active s).lnk.rx = s.lnk.rx ∧ (exuLidChange active s).lnk.tx = s.lnk.tx
    ∧ (exuLidChange active s).lnk.watchdog = s.lnk.watchdog := by
  unfold exuLidChange
  dsimp only
  (repeat' split) <;> simp

@[simp] theorem exuResume_frame (extension : Nat) (reason : HoldReason) (s : State) :
    (exuResume extension reason s).pending = s.pending ∧ (exuResume extension reason s).powered = s.powered
    ∧ (exuResume extension reason s).ptb.queue = s.ptb.queue
    ∧ (exuResume extension reason s).ptb.lastUnmatched = s.ptb.lastUnmatched ∧ (exuResume extension reason s).rss = s.rss
    ∧ (exuResume extension reason s).wou = s.wou ∧ (exuResume extension reason s).dry = s.dry
    ∧ (exuResume extension reason s).lfn = s.lfn ∧ (exuResume extension reason s).trc = s.trc
    ∧ (exuResume extension reason s).lio.inputs = s.lio.inputs ∧ (exuResume extension reason s).lio.drives = s.lio.drives
    ∧ (exuResume extension reason s).flt = s.flt ∧ (exuResume extension reason s).lnk.parser = s.lnk.parser
    ∧ (exuResume extension reason s).lnk.inService = s.lnk.inService ∧ (exuResume extension reason s).lnk.rx = s.lnk.rx
    ∧ (exuResume extension reason s).lnk.tx = s.lnk.tx ∧ (exuResume extension reason s).lnk.watchdog = s.lnk.watchdog := by
  unfold exuResume
  simp

@[simp] theorem exuEject_frame (reason : HoldReason) (s : State) :
    (exuEject reason s).pending = s.pending ∧ (exuEject reason s).powered = s.powered ∧ (exuEject reason s).ptb = s.ptb
    ∧ (exuEject reason s).rss = s.rss ∧ (exuEject reason s).din.lampOn = s.din.lampOn
    ∧ (exuEject reason s).din.trace = s.din.trace ∧ (exuEject reason s).wou = s.wou ∧ (exuEject reason s).dry = s.dry
    ∧ (exuEject reason s).lfn = s.lfn ∧ (exuEject reason s).trc = s.trc ∧ (exuEject reason s).lio.inputs = s.lio.inputs
    ∧ (exuEject reason s).lio.outputs = s.lio.outputs ∧ (exuEject reason s).lio.lamps = s.lio.lamps
    ∧ (exuEject reason s).flt = s.flt ∧ (exuEject reason s).lnk = s.lnk := by
  unfold exuEject
  dsimp only
  (repeat' split) <;> simp

/-! ### Finisher -/

@[simp] theorem lfnEnterEmpty_frame (s : State) :
    (lfnEnterEmpty s).pending = s.pending ∧ (lfnEnterEmpty s).powered = s.powered ∧ (lfnEnterEmpty s).ptb = s.ptb
    ∧ (lfnEnterEmpty s).rss = s.rss ∧ (lfnEnterEmpty s).din = s.din ∧ (lfnEnterEmpty s).exu = s.exu
    ∧ (lfnEnterEmpty s).wou = s.wou ∧ (lfnEnterEmpty s).dry = s.dry ∧ (lfnEnterEmpty s).lfn.plate = s.lfn.plate
    ∧ (lfnEnterEmpty s).trc.level = s.trc.level ∧ (lfnEnterEmpty s).trc.handoff = s.trc.handoff
    ∧ (lfnEnterEmpty s).lio.inputs = s.lio.inputs ∧ (lfnEnterEmpty s).lio.outputs = s.lio.outputs
    ∧ (lfnEnterEmpty s).lio.lamps = s.lio.lamps ∧ (lfnEnterEmpty s).flt = s.flt ∧ (lfnEnterEmpty s).lnk = s.lnk := by
  unfold lfnEnterEmpty
  simp

@[simp] theorem lfnEnterClearWait_frame (s : State) :
    (lfnEnterClearWait s).pending = s.pending ∧ (lfnEnterClearWait s).powered = s.powered
    ∧ (lfnEnterClearWait s).ptb = s.ptb ∧ (lfnEnterClearWait s).rss = s.rss ∧ (lfnEnterClearWait s).din = s.din
    ∧ (lfnEnterClearWait s).exu = s.exu ∧ (lfnEnterClearWait s).wou = s.wou ∧ (lfnEnterClearWait s).dry = s.dry
    ∧ (lfnEnterClearWait s).trc.level = s.trc.level ∧ (lfnEnterClearWait s).trc.handoff = s.trc.handoff
    ∧ (lfnEnterClearWait s).lio.inputs = s.lio.inputs ∧ (lfnEnterClearWait s).lio.outputs = s.lio.outputs
    ∧ (lfnEnterClearWait s).lio.lamps = s.lio.lamps ∧ (lfnEnterClearWait s).flt = s.flt
    ∧ (lfnEnterClearWait s).lnk = s.lnk := by
  unfold lfnEnterClearWait
  dsimp only
  (repeat' split) <;> simp

@[simp] theorem lfnPresentChange_frame (active : Bool) (s : State) :
    (lfnPresentChange active s).pending = s.pending ∧ (lfnPresentChange active s).powered = s.powered
    ∧ (lfnPresentChange active s).ptb = s.ptb ∧ (lfnPresentChange active s).rss = s.rss
    ∧ (lfnPresentChange active s).din = s.din ∧ (lfnPresentChange active s).exu = s.exu
    ∧ (lfnPresentChange active s).wou = s.wou ∧ (lfnPresentChange active s).dry = s.dry
    ∧ (lfnPresentChange active s).trc.level = s.trc.level ∧ (lfnPresentChange active s).trc.handoff = s.trc.handoff
    ∧ (lfnPresentChange active s).lio.inputs = s.lio.inputs ∧ (lfnPresentChange active s).lio.outputs = s.lio.outputs
    ∧ (lfnPresentChange active s).lio.lamps = s.lio.lamps ∧ (lfnPresentChange active s).flt = s.flt
    ∧ (lfnPresentChange active s).lnk = s.lnk := by
  unfold lfnPresentChange
  (repeat' split) <;> simp

@[simp] theorem lfnPlaced_frame (k : Slot) (s : State) :
    (lfnPlaced k s).pending = s.pending ∧ (lfnPlaced k s).powered = s.powered ∧ (lfnPlaced k s).ptb = s.ptb
    ∧ (lfnPlaced k s).rss = s.rss ∧ (lfnPlaced k s).din = s.din ∧ (lfnPlaced k s).exu = s.exu
    ∧ (lfnPlaced k s).wou = s.wou ∧ (lfnPlaced k s).dry = s.dry ∧ (lfnPlaced k s).trc = s.trc
    ∧ (lfnPlaced k s).lio = s.lio ∧ (lfnPlaced k s).flt = s.flt ∧ (lfnPlaced k s).lnk = s.lnk := by
  unfold lfnPlaced
  simp

@[simp] theorem setFinisherRun_frame (c : FinisherLamp) (r : FinisherRun) (s : State) :
    (setFinisherRun c r s).pending = s.pending ∧ (setFinisherRun c r s).powered = s.powered
    ∧ (setFinisherRun c r s).ptb = s.ptb ∧ (setFinisherRun c r s).rss = s.rss ∧ (setFinisherRun c r s).din = s.din
    ∧ (setFinisherRun c r s).exu = s.exu ∧ (setFinisherRun c r s).wou = s.wou ∧ (setFinisherRun c r s).dry = s.dry
    ∧ (setFinisherRun c r s).lfn.state = s.lfn.state ∧ (setFinisherRun c r s).lfn.plate = s.lfn.plate
    ∧ (setFinisherRun c r s).trc = s.trc ∧ (setFinisherRun c r s).lio = s.lio ∧ (setFinisherRun c r s).flt = s.flt
    ∧ (setFinisherRun c r s).lnk = s.lnk := by
  unfold setFinisherRun
  (repeat' split) <;> simp

@[simp] theorem updateOutfeed_frame (s : State) :
    (updateOutfeed s).pending = s.pending ∧ (updateOutfeed s).powered = s.powered ∧ (updateOutfeed s).ptb = s.ptb
    ∧ (updateOutfeed s).rss = s.rss ∧ (updateOutfeed s).din = s.din ∧ (updateOutfeed s).exu = s.exu
    ∧ (updateOutfeed s).wou = s.wou ∧ (updateOutfeed s).dry = s.dry ∧ (updateOutfeed s).lfn = s.lfn
    ∧ (updateOutfeed s).trc = s.trc ∧ (updateOutfeed s).lio.inputs = s.lio.inputs
    ∧ (updateOutfeed s).lio.outputs = s.lio.outputs ∧ (updateOutfeed s).lio.lamps = s.lio.lamps
    ∧ (updateOutfeed s).flt = s.flt ∧ (updateOutfeed s).lnk = s.lnk := by
  unfold updateOutfeed
  (repeat' split) <;> simp

@[simp] theorem tryRelease_frame (s : State) :
    (tryRelease s).pending = s.pending ∧ (tryRelease s).powered = s.powered ∧ (tryRelease s).ptb = s.ptb
    ∧ (tryRelease s).rss = s.rss ∧ (tryRelease s).din = s.din ∧ (tryRelease s).exu = s.exu ∧ (tryRelease s).wou = s.wou
    ∧ (tryRelease s).dry = s.dry ∧ (tryRelease s).lfn.state = s.lfn.state ∧ (tryRelease s).lfn.plate = s.lfn.plate
    ∧ (tryRelease s).trc.elevator = s.trc.elevator ∧ (tryRelease s).trc.level = s.trc.level
    ∧ (tryRelease s).trc.request = s.trc.request ∧ (tryRelease s).trc.table = s.trc.table
    ∧ (tryRelease s).trc.handoff = s.trc.handoff ∧ (tryRelease s).lio.inputs = s.lio.inputs
    ∧ (tryRelease s).lio.outputs = s.lio.outputs ∧ (tryRelease s).lio.lamps = s.lio.lamps ∧ (tryRelease s).flt = s.flt
    ∧ (tryRelease s).lnk = s.lnk := by
  unfold tryRelease
  (repeat' split) <;> simp

@[simp] theorem lfnReleaseEnd_frame (s : State) :
    (lfnReleaseEnd s).pending = s.pending ∧ (lfnReleaseEnd s).powered = s.powered ∧ (lfnReleaseEnd s).ptb = s.ptb
    ∧ (lfnReleaseEnd s).rss = s.rss ∧ (lfnReleaseEnd s).din = s.din ∧ (lfnReleaseEnd s).exu = s.exu
    ∧ (lfnReleaseEnd s).wou = s.wou ∧ (lfnReleaseEnd s).dry = s.dry ∧ (lfnReleaseEnd s).trc.level = s.trc.level
    ∧ (lfnReleaseEnd s).trc.handoff = s.trc.handoff ∧ (lfnReleaseEnd s).lio.inputs = s.lio.inputs
    ∧ (lfnReleaseEnd s).lio.outputs = s.lio.outputs ∧ (lfnReleaseEnd s).lio.lamps = s.lio.lamps
    ∧ (lfnReleaseEnd s).flt = s.flt ∧ (lfnReleaseEnd s).lnk = s.lnk := by
  unfold lfnReleaseEnd
  simp

@[simp] theorem lfnEnterHeld_frame (k : Slot) (reason : HoldReason) (s : State) :
    (lfnEnterHeld k reason s).pending = s.pending ∧ (lfnEnterHeld k reason s).powered = s.powered
    ∧ (lfnEnterHeld k reason s).ptb.queue = s.ptb.queue
    ∧ (lfnEnterHeld k reason s).ptb.lastUnmatched = s.ptb.lastUnmatched ∧ (lfnEnterHeld k reason s).rss = s.rss
    ∧ (lfnEnterHeld k reason s).din = s.din ∧ (lfnEnterHeld k reason s).exu = s.exu
    ∧ (lfnEnterHeld k reason s).wou = s.wou ∧ (lfnEnterHeld k reason s).dry = s.dry
    ∧ (lfnEnterHeld k reason s).lfn.plate = s.lfn.plate ∧ (lfnEnterHeld k reason s).trc = s.trc
    ∧ (lfnEnterHeld k reason s).lio = s.lio ∧ (lfnEnterHeld k reason s).flt = s.flt
    ∧ (lfnEnterHeld k reason s).lnk.parser = s.lnk.parser ∧ (lfnEnterHeld k reason s).lnk.inService = s.lnk.inService
    ∧ (lfnEnterHeld k reason s).lnk.rx = s.lnk.rx ∧ (lfnEnterHeld k reason s).lnk.tx = s.lnk.tx
    ∧ (lfnEnterHeld k reason s).lnk.watchdog = s.lnk.watchdog := by
  unfold lfnEnterHeld
  simp

@[simp] theorem lfnFinished_frame (k : Slot) (s : State) :
    (lfnFinished k s).pending = s.pending ∧ (lfnFinished k s).powered = s.powered
    ∧ (lfnFinished k s).ptb.queue = s.ptb.queue ∧ (lfnFinished k s).ptb.lastUnmatched = s.ptb.lastUnmatched
    ∧ (lfnFinished k s).rss = s.rss ∧ (lfnFinished k s).din = s.din ∧ (lfnFinished k s).exu = s.exu
    ∧ (lfnFinished k s).wou = s.wou ∧ (lfnFinished k s).dry = s.dry ∧ (lfnFinished k s).lfn.plate = s.lfn.plate
    ∧ (lfnFinished k s).trc.elevator = s.trc.elevator ∧ (lfnFinished k s).trc.level = s.trc.level
    ∧ (lfnFinished k s).trc.request = s.trc.request ∧ (lfnFinished k s).trc.table = s.trc.table
    ∧ (lfnFinished k s).trc.handoff = s.trc.handoff ∧ (lfnFinished k s).lio.inputs = s.lio.inputs
    ∧ (lfnFinished k s).lio.outputs = s.lio.outputs ∧ (lfnFinished k s).lio.lamps = s.lio.lamps
    ∧ (lfnFinished k s).flt = s.flt ∧ (lfnFinished k s).lnk = s.lnk := by
  unfold lfnFinished
  simp

@[simp] theorem testFinished_frame (s : State) :
    (testFinished s).pending = s.pending ∧ (testFinished s).powered = s.powered ∧ (testFinished s).ptb.queue = s.ptb.queue
    ∧ (testFinished s).ptb.lastUnmatched = s.ptb.lastUnmatched ∧ (testFinished s).rss = s.rss
    ∧ (testFinished s).din = s.din ∧ (testFinished s).exu = s.exu ∧ (testFinished s).wou = s.wou
    ∧ (testFinished s).dry = s.dry ∧ (testFinished s).lfn.plate = s.lfn.plate
    ∧ (testFinished s).trc.elevator = s.trc.elevator ∧ (testFinished s).trc.level = s.trc.level
    ∧ (testFinished s).trc.request = s.trc.request ∧ (testFinished s).trc.table = s.trc.table
    ∧ (testFinished s).trc.handoff = s.trc.handoff ∧ (testFinished s).lio.inputs = s.lio.inputs
    ∧ (testFinished s).lio.outputs = s.lio.outputs ∧ (testFinished s).lio.lamps = s.lio.lamps
    ∧ (testFinished s).flt = s.flt ∧ (testFinished s).lnk = s.lnk := by
  unfold testFinished
  (repeat' split) <;> simp

@[simp] theorem lfnAnswer_frame (c : FinisherLamp) (k : Slot) (x : State × WorkAnswer) :
    (lfnAnswer c k x).pending = x.1.pending ∧ (lfnAnswer c k x).powered = x.1.powered
    ∧ (lfnAnswer c k x).ptb.queue = x.1.ptb.queue ∧ (lfnAnswer c k x).ptb.lastUnmatched = x.1.ptb.lastUnmatched
    ∧ (lfnAnswer c k x).rss = x.1.rss ∧ (lfnAnswer c k x).din = x.1.din ∧ (lfnAnswer c k x).exu = x.1.exu
    ∧ (lfnAnswer c k x).wou = x.1.wou ∧ (lfnAnswer c k x).dry = x.1.dry ∧ (lfnAnswer c k x).lfn.plate = x.1.lfn.plate
    ∧ (lfnAnswer c k x).trc = x.1.trc ∧ (lfnAnswer c k x).lio = x.1.lio ∧ (lfnAnswer c k x).flt = x.1.flt
    ∧ (lfnAnswer c k x).lnk.parser = x.1.lnk.parser ∧ (lfnAnswer c k x).lnk.inService = x.1.lnk.inService
    ∧ (lfnAnswer c k x).lnk.rx = x.1.lnk.rx ∧ (lfnAnswer c k x).lnk.tx = x.1.lnk.tx
    ∧ (lfnAnswer c k x).lnk.watchdog = x.1.lnk.watchdog := by
  unfold lfnAnswer
  (repeat' split) <;> simp

@[simp] theorem lfnWaits_frame (c : FinisherLamp) (k : Slot) (s : State) :
    (lfnWaits c k s).pending = s.pending ∧ (lfnWaits c k s).powered = s.powered ∧ (lfnWaits c k s).ptb = s.ptb
    ∧ (lfnWaits c k s).rss = s.rss ∧ (lfnWaits c k s).din = s.din ∧ (lfnWaits c k s).exu = s.exu
    ∧ (lfnWaits c k s).wou = s.wou ∧ (lfnWaits c k s).dry = s.dry ∧ (lfnWaits c k s).lfn.state = s.lfn.state
    ∧ (lfnWaits c k s).lfn.plate = s.lfn.plate ∧ (lfnWaits c k s).trc = s.trc ∧ (lfnWaits c k s).lio = s.lio
    ∧ (lfnWaits c k s).flt = s.flt ∧ (lfnWaits c k s).lnk = s.lnk := by
  unfold lfnWaits
  (repeat' split) <;> simp

@[simp] theorem askFinisherChannel_frame (c : FinisherLamp) (s : State) :
    (askFinisherChannel c s).pending = s.pending ∧ (askFinisherChannel c s).powered = s.powered
    ∧ (askFinisherChannel c s).ptb.queue = s.ptb.queue ∧ (askFinisherChannel c s).ptb.lastUnmatched = s.ptb.lastUnmatched
    ∧ (askFinisherChannel c s).rss = s.rss ∧ (askFinisherChannel c s).exu = s.exu ∧ (askFinisherChannel c s).wou = s.wou
    ∧ (askFinisherChannel c s).dry = s.dry ∧ (askFinisherChannel c s).lfn.plate = s.lfn.plate
    ∧ (askFinisherChannel c s).trc = s.trc ∧ (askFinisherChannel c s).lio.inputs = s.lio.inputs
    ∧ (askFinisherChannel c s).lio.drives = s.lio.drives ∧ (askFinisherChannel c s).flt = s.flt
    ∧ (askFinisherChannel c s).lnk.parser = s.lnk.parser ∧ (askFinisherChannel c s).lnk.inService = s.lnk.inService
    ∧ (askFinisherChannel c s).lnk.rx = s.lnk.rx ∧ (askFinisherChannel c s).lnk.tx = s.lnk.tx
    ∧ (askFinisherChannel c s).lnk.watchdog = s.lnk.watchdog := by
  unfold askFinisherChannel
  (try dsimp only)
  (repeat' split) <;> first
    | (simp; done)
    | (rename_i heq; have e := (congrArg Prod.fst heq).symm; dsimp only at e; subst e; simp; done)

@[simp] theorem askFinisher_frame (s : State) :
    (askFinisher s).pending = s.pending ∧ (askFinisher s).powered = s.powered ∧ (askFinisher s).ptb.queue = s.ptb.queue
    ∧ (askFinisher s).ptb.lastUnmatched = s.ptb.lastUnmatched ∧ (askFinisher s).rss = s.rss ∧ (askFinisher s).exu = s.exu
    ∧ (askFinisher s).wou = s.wou ∧ (askFinisher s).dry = s.dry ∧ (askFinisher s).lfn.plate = s.lfn.plate
    ∧ (askFinisher s).trc.elevator = s.trc.elevator ∧ (askFinisher s).trc.level = s.trc.level
    ∧ (askFinisher s).trc.request = s.trc.request ∧ (askFinisher s).trc.table = s.trc.table
    ∧ (askFinisher s).trc.handoff = s.trc.handoff ∧ (askFinisher s).lio.inputs = s.lio.inputs
    ∧ (askFinisher s).flt = s.flt ∧ (askFinisher s).lnk.parser = s.lnk.parser
    ∧ (askFinisher s).lnk.inService = s.lnk.inService ∧ (askFinisher s).lnk.rx = s.lnk.rx
    ∧ (askFinisher s).lnk.tx = s.lnk.tx ∧ (askFinisher s).lnk.watchdog = s.lnk.watchdog := by
  unfold askFinisher
  simp

@[simp] theorem lfnRunEnding_frame (ch : LampChannel) (ending : RunEnding) (s : State) :
    (lfnRunEnding ch ending s).pending = s.pending ∧ (lfnRunEnding ch ending s).powered = s.powered
    ∧ (lfnRunEnding ch ending s).ptb.queue = s.ptb.queue
    ∧ (lfnRunEnding ch ending s).ptb.lastUnmatched = s.ptb.lastUnmatched ∧ (lfnRunEnding ch ending s).rss = s.rss
    ∧ (lfnRunEnding ch ending s).din = s.din ∧ (lfnRunEnding ch ending s).exu = s.exu
    ∧ (lfnRunEnding ch ending s).wou = s.wou ∧ (lfnRunEnding ch ending s).dry = s.dry
    ∧ (lfnRunEnding ch ending s).lfn.plate = s.lfn.plate ∧ (lfnRunEnding ch ending s).trc.elevator = s.trc.elevator
    ∧ (lfnRunEnding ch ending s).trc.level = s.trc.level ∧ (lfnRunEnding ch ending s).trc.request = s.trc.request
    ∧ (lfnRunEnding ch ending s).trc.table = s.trc.table ∧ (lfnRunEnding ch ending s).trc.handoff = s.trc.handoff
    ∧ (lfnRunEnding ch ending s).lio.inputs = s.lio.inputs ∧ (lfnRunEnding ch ending s).lio.outputs = s.lio.outputs
    ∧ (lfnRunEnding ch ending s).lio.lamps = s.lio.lamps ∧ (lfnRunEnding ch ending s).flt = s.flt
    ∧ (lfnRunEnding ch ending s).lnk.parser = s.lnk.parser ∧ (lfnRunEnding ch ending s).lnk.inService = s.lnk.inService
    ∧ (lfnRunEnding ch ending s).lnk.rx = s.lnk.rx ∧ (lfnRunEnding ch ending s).lnk.tx = s.lnk.tx
    ∧ (lfnRunEnding ch ending s).lnk.watchdog = s.lnk.watchdog := by
  unfold lfnRunEnding
  (repeat' split) <;> simp

@[simp] theorem lfnPauseReport_frame (ch : LampChannel) (s : State) :
    (lfnPauseReport ch s).pending = s.pending ∧ (lfnPauseReport ch s).powered = s.powered
    ∧ (lfnPauseReport ch s).ptb = s.ptb ∧ (lfnPauseReport ch s).rss = s.rss ∧ (lfnPauseReport ch s).din = s.din
    ∧ (lfnPauseReport ch s).exu = s.exu ∧ (lfnPauseReport ch s).wou = s.wou ∧ (lfnPauseReport ch s).dry = s.dry
    ∧ (lfnPauseReport ch s).lfn.state = s.lfn.state ∧ (lfnPauseReport ch s).lfn.plate = s.lfn.plate
    ∧ (lfnPauseReport ch s).trc = s.trc ∧ (lfnPauseReport ch s).lio = s.lio ∧ (lfnPauseReport ch s).flt = s.flt
    ∧ (lfnPauseReport ch s).lnk = s.lnk := by
  unfold lfnPauseReport
  (repeat' split) <;> simp

@[simp] theorem takeFinisherTag_frame (tag : Nat) (s : State) :
    (takeFinisherTag tag s).pending = s.pending ∧ (takeFinisherTag tag s).powered = s.powered
    ∧ (takeFinisherTag tag s).ptb.queue = s.ptb.queue ∧ (takeFinisherTag tag s).ptb.lastUnmatched = s.ptb.lastUnmatched
    ∧ (takeFinisherTag tag s).rss = s.rss ∧ (takeFinisherTag tag s).exu = s.exu ∧ (takeFinisherTag tag s).wou = s.wou
    ∧ (takeFinisherTag tag s).dry = s.dry ∧ (takeFinisherTag tag s).trc.elevator = s.trc.elevator
    ∧ (takeFinisherTag tag s).trc.level = s.trc.level ∧ (takeFinisherTag tag s).trc.request = s.trc.request
    ∧ (takeFinisherTag tag s).trc.table = s.trc.table ∧ (takeFinisherTag tag s).trc.handoff = s.trc.handoff
    ∧ (takeFinisherTag tag s).lio.inputs = s.lio.inputs ∧ (takeFinisherTag tag s).flt.lineState = s.flt.lineState
    ∧ (takeFinisherTag tag s).flt.cause = s.flt.cause ∧ (takeFinisherTag tag s).flt.masks = s.flt.masks
    ∧ (takeFinisherTag tag s).lnk.parser = s.lnk.parser ∧ (takeFinisherTag tag s).lnk.inService = s.lnk.inService
    ∧ (takeFinisherTag tag s).lnk.rx = s.lnk.rx ∧ (takeFinisherTag tag s).lnk.tx = s.lnk.tx
    ∧ (takeFinisherTag tag s).lnk.watchdog = s.lnk.watchdog := by
  unfold takeFinisherTag
  dsimp only
  (repeat' split) <;> simp

@[simp] theorem lfnResume_frame (extension : Nat) (reason : HoldReason) (s : State) :
    (lfnResume extension reason s).pending = s.pending ∧ (lfnResume extension reason s).powered = s.powered
    ∧ (lfnResume extension reason s).ptb.queue = s.ptb.queue
    ∧ (lfnResume extension reason s).ptb.lastUnmatched = s.ptb.lastUnmatched ∧ (lfnResume extension reason s).rss = s.rss
    ∧ (lfnResume extension reason s).exu = s.exu ∧ (lfnResume extension reason s).wou = s.wou
    ∧ (lfnResume extension reason s).dry = s.dry ∧ (lfnResume extension reason s).trc.elevator = s.trc.elevator
    ∧ (lfnResume extension reason s).trc.level = s.trc.level ∧ (lfnResume extension reason s).trc.request = s.trc.request
    ∧ (lfnResume extension reason s).trc.table = s.trc.table ∧ (lfnResume extension reason s).trc.handoff = s.trc.handoff
    ∧ (lfnResume extension reason s).lio.inputs = s.lio.inputs ∧ (lfnResume extension reason s).flt = s.flt
    ∧ (lfnResume extension reason s).lnk.parser = s.lnk.parser
    ∧ (lfnResume extension reason s).lnk.inService = s.lnk.inService ∧ (lfnResume extension reason s).lnk.rx = s.lnk.rx
    ∧ (lfnResume extension reason s).lnk.tx = s.lnk.tx ∧ (lfnResume extension reason s).lnk.watchdog = s.lnk.watchdog := by
  unfold lfnResume
  simp

@[simp] theorem lfnEject_frame (s : State) :
    (lfnEject s).pending = s.pending ∧ (lfnEject s).powered = s.powered ∧ (lfnEject s).ptb.queue = s.ptb.queue
    ∧ (lfnEject s).ptb.lastUnmatched = s.ptb.lastUnmatched ∧ (lfnEject s).rss.working = s.rss.working
    ∧ (lfnEject s).rss.unsaved = s.rss.unsaved ∧ (lfnEject s).rss.bankA = s.rss.bankA
    ∧ (lfnEject s).rss.bankB = s.rss.bankB ∧ (lfnEject s).rss.save = s.rss.save ∧ (lfnEject s).exu = s.exu
    ∧ (lfnEject s).wou = s.wou ∧ (lfnEject s).dry = s.dry ∧ (lfnEject s).trc.level = s.trc.level
    ∧ (lfnEject s).trc.handoff = s.trc.handoff ∧ (lfnEject s).lio.inputs = s.lio.inputs
    ∧ (lfnEject s).flt.lineState = s.flt.lineState ∧ (lfnEject s).flt.cause = s.flt.cause
    ∧ (lfnEject s).flt.masks = s.flt.masks ∧ (lfnEject s).lnk.parser = s.lnk.parser
    ∧ (lfnEject s).lnk.inService = s.lnk.inService ∧ (lfnEject s).lnk.rx = s.lnk.rx ∧ (lfnEject s).lnk.tx = s.lnk.tx
    ∧ (lfnEject s).lnk.watchdog = s.lnk.watchdog := by
  unfold lfnEject
  simp

/-! ### ExitTable -/

@[simp] theorem reportExitFree_frame (s : State) :
    (reportExitFree s).pending = s.pending ∧ (reportExitFree s).powered = s.powered ∧ (reportExitFree s).ptb = s.ptb
    ∧ (reportExitFree s).rss = s.rss ∧ (reportExitFree s).din = s.din ∧ (reportExitFree s).exu = s.exu
    ∧ (reportExitFree s).wou = s.wou ∧ (reportExitFree s).dry = s.dry ∧ (reportExitFree s).lfn.state = s.lfn.state
    ∧ (reportExitFree s).lfn.plate = s.lfn.plate ∧ (reportExitFree s).trc.elevator = s.trc.elevator
    ∧ (reportExitFree s).trc.level = s.trc.level ∧ (reportExitFree s).trc.request = s.trc.request
    ∧ (reportExitFree s).trc.table = s.trc.table ∧ (reportExitFree s).trc.handoff = s.trc.handoff
    ∧ (reportExitFree s).lio.inputs = s.lio.inputs ∧ (reportExitFree s).lio.outputs = s.lio.outputs
    ∧ (reportExitFree s).lio.lamps = s.lio.lamps ∧ (reportExitFree s).flt = s.flt ∧ (reportExitFree s).lnk = s.lnk := by
  unfold reportExitFree
  (repeat' split) <;> simp

@[simp] theorem testExitClear_frame (s : State) :
    (testExitClear s).pending = s.pending ∧ (testExitClear s).powered = s.powered ∧ (testExitClear s).ptb = s.ptb
    ∧ (testExitClear s).rss = s.rss ∧ (testExitClear s).din = s.din ∧ (testExitClear s).exu = s.exu
    ∧ (testExitClear s).wou = s.wou ∧ (testExitClear s).dry = s.dry ∧ (testExitClear s).lfn.state = s.lfn.state
    ∧ (testExitClear s).lfn.plate = s.lfn.plate ∧ (testExitClear s).trc.elevator = s.trc.elevator
    ∧ (testExitClear s).trc.level = s.trc.level ∧ (testExitClear s).trc.request = s.trc.request
    ∧ (testExitClear s).trc.table = s.trc.table ∧ (testExitClear s).lio.inputs = s.lio.inputs
    ∧ (testExitClear s).lio.outputs = s.lio.outputs ∧ (testExitClear s).lio.lamps = s.lio.lamps
    ∧ (testExitClear s).flt = s.flt ∧ (testExitClear s).lnk = s.lnk := by
  unfold testExitClear
  (repeat' split) <;> simp

@[simp] theorem completeHandoff_frame (s : State) :
    (completeHandoff s).pending = s.pending ∧ (completeHandoff s).powered = s.powered
    ∧ (completeHandoff s).ptb.queue = s.ptb.queue ∧ (completeHandoff s).ptb.lastUnmatched = s.ptb.lastUnmatched
    ∧ (completeHandoff s).rss = s.rss ∧ (completeHandoff s).din = s.din ∧ (completeHandoff s).exu = s.exu
    ∧ (completeHandoff s).wou = s.wou ∧ (completeHandoff s).dry = s.dry ∧ (completeHandoff s).lfn.state = s.lfn.state
    ∧ (completeHandoff s).lfn.plate = s.lfn.plate ∧ (completeHandoff s).trc.elevator = s.trc.elevator
    ∧ (completeHandoff s).trc.level = s.trc.level ∧ (completeHandoff s).trc.request = s.trc.request
    ∧ (completeHandoff s).trc.table = s.trc.table ∧ (completeHandoff s).lio.inputs = s.lio.inputs
    ∧ (completeHandoff s).lio.lamps = s.lio.lamps ∧ (completeHandoff s).flt = s.flt
    ∧ (completeHandoff s).lnk.parser = s.lnk.parser ∧ (completeHandoff s).lnk.inService = s.lnk.inService
    ∧ (completeHandoff s).lnk.rx = s.lnk.rx ∧ (completeHandoff s).lnk.tx = s.lnk.tx
    ∧ (completeHandoff s).lnk.watchdog = s.lnk.watchdog := by
  unfold completeHandoff
  (repeat' split) <;> simp

@[simp] theorem updateConveyor_frame (s : State) :
    (updateConveyor s).pending = s.pending ∧ (updateConveyor s).powered = s.powered ∧ (updateConveyor s).ptb = s.ptb
    ∧ (updateConveyor s).rss = s.rss ∧ (updateConveyor s).din = s.din ∧ (updateConveyor s).exu = s.exu
    ∧ (updateConveyor s).wou = s.wou ∧ (updateConveyor s).dry = s.dry ∧ (updateConveyor s).lfn = s.lfn
    ∧ (updateConveyor s).trc = s.trc ∧ (updateConveyor s).lio.inputs = s.lio.inputs
    ∧ (updateConveyor s).lio.outputs = s.lio.outputs ∧ (updateConveyor s).lio.lamps = s.lio.lamps
    ∧ (updateConveyor s).flt = s.flt ∧ (updateConveyor s).lnk = s.lnk := by
  unfold updateConveyor
  (repeat' split) <;> simp

@[simp] theorem enterPushing_frame (s : State) :
    (enterPushing s).pending = s.pending ∧ (enterPushing s).powered = s.powered ∧ (enterPushing s).ptb = s.ptb
    ∧ (enterPushing s).rss = s.rss ∧ (enterPushing s).din = s.din ∧ (enterPushing s).exu = s.exu
    ∧ (enterPushing s).wou = s.wou ∧ (enterPushing s).dry = s.dry ∧ (enterPushing s).lfn = s.lfn
    ∧ (enterPushing s).trc.elevator = s.trc.elevator ∧ (enterPushing s).trc.level = s.trc.level
    ∧ (enterPushing s).trc.request = s.trc.request ∧ (enterPushing s).trc.table = s.trc.table
    ∧ (enterPushing s).lio.inputs = s.lio.inputs ∧ (enterPushing s).lio.outputs = s.lio.outputs
    ∧ (enterPushing s).lio.lamps = s.lio.lamps ∧ (enterPushing s).flt = s.flt ∧ (enterPushing s).lnk = s.lnk := by
  unfold enterPushing
  simp

@[simp] theorem enterOffered_frame (s : State) :
    (enterOffered s).pending = s.pending ∧ (enterOffered s).powered = s.powered ∧ (enterOffered s).ptb = s.ptb
    ∧ (enterOffered s).rss = s.rss ∧ (enterOffered s).din = s.din ∧ (enterOffered s).exu = s.exu
    ∧ (enterOffered s).wou = s.wou ∧ (enterOffered s).dry = s.dry ∧ (enterOffered s).lfn = s.lfn
    ∧ (enterOffered s).trc.elevator = s.trc.elevator ∧ (enterOffered s).trc.level = s.trc.level
    ∧ (enterOffered s).trc.request = s.trc.request ∧ (enterOffered s).trc.table = s.trc.table
    ∧ (enterOffered s).lio.inputs = s.lio.inputs ∧ (enterOffered s).lio.drives = s.lio.drives
    ∧ (enterOffered s).lio.lamps = s.lio.lamps ∧ (enterOffered s).flt = s.flt ∧ (enterOffered s).lnk = s.lnk := by
  unfold enterOffered
  simp

@[simp] theorem dwellEnd_frame (s : State) :
    (dwellEnd s).pending = s.pending ∧ (dwellEnd s).powered = s.powered ∧ (dwellEnd s).ptb.queue = s.ptb.queue
    ∧ (dwellEnd s).ptb.lastUnmatched = s.ptb.lastUnmatched ∧ (dwellEnd s).rss = s.rss ∧ (dwellEnd s).din = s.din
    ∧ (dwellEnd s).exu = s.exu ∧ (dwellEnd s).wou = s.wou ∧ (dwellEnd s).dry = s.dry
    ∧ (dwellEnd s).lfn.state = s.lfn.state ∧ (dwellEnd s).lfn.plate = s.lfn.plate
    ∧ (dwellEnd s).trc.elevator = s.trc.elevator ∧ (dwellEnd s).trc.level = s.trc.level
    ∧ (dwellEnd s).trc.request = s.trc.request ∧ (dwellEnd s).trc.table = s.trc.table
    ∧ (dwellEnd s).lio.inputs = s.lio.inputs ∧ (dwellEnd s).lio.lamps = s.lio.lamps ∧ (dwellEnd s).flt = s.flt
    ∧ (dwellEnd s).lnk.parser = s.lnk.parser ∧ (dwellEnd s).lnk.inService = s.lnk.inService
    ∧ (dwellEnd s).lnk.rx = s.lnk.rx ∧ (dwellEnd s).lnk.tx = s.lnk.tx ∧ (dwellEnd s).lnk.watchdog = s.lnk.watchdog := by
  unfold dwellEnd
  dsimp only
  (repeat' split) <;> simp

@[simp] theorem leaveSetup_frame (s : State) :
    (leaveSetup s).pending = s.pending ∧ (leaveSetup s).powered = s.powered ∧ (leaveSetup s).ptb = s.ptb
    ∧ (leaveSetup s).rss = s.rss ∧ (leaveSetup s).din = s.din ∧ (leaveSetup s).exu = s.exu ∧ (leaveSetup s).wou = s.wou
    ∧ (leaveSetup s).dry = s.dry ∧ (leaveSetup s).lfn = s.lfn ∧ (leaveSetup s).trc.elevator = s.trc.elevator
    ∧ (leaveSetup s).trc.level = s.trc.level ∧ (leaveSetup s).trc.request = s.trc.request
    ∧ (leaveSetup s).trc.table = s.trc.table ∧ (leaveSetup s).lio.inputs = s.lio.inputs
    ∧ (leaveSetup s).lio.lamps = s.lio.lamps ∧ (leaveSetup s).flt = s.flt ∧ (leaveSetup s).lnk = s.lnk := by
  unfold leaveSetup
  (repeat' split) <;> simp

@[simp] theorem setupEnd_frame (s : State) :
    (setupEnd s).pending = s.pending ∧ (setupEnd s).powered = s.powered ∧ (setupEnd s).ptb = s.ptb
    ∧ (setupEnd s).rss = s.rss ∧ (setupEnd s).din = s.din ∧ (setupEnd s).exu = s.exu ∧ (setupEnd s).wou = s.wou
    ∧ (setupEnd s).dry = s.dry ∧ (setupEnd s).lfn = s.lfn ∧ (setupEnd s).trc.elevator = s.trc.elevator
    ∧ (setupEnd s).trc.level = s.trc.level ∧ (setupEnd s).trc.request = s.trc.request
    ∧ (setupEnd s).trc.table = s.trc.table ∧ (setupEnd s).lio.inputs = s.lio.inputs ∧ (setupEnd s).lio.lamps = s.lio.lamps
    ∧ (setupEnd s).flt = s.flt ∧ (setupEnd s).lnk = s.lnk := by
  unfold setupEnd
  (repeat' split) <;> simp

@[simp] theorem setupAtOnce_frame (s : State) :
    (setupAtOnce s).pending = s.pending ∧ (setupAtOnce s).powered = s.powered ∧ (setupAtOnce s).ptb = s.ptb
    ∧ (setupAtOnce s).rss = s.rss ∧ (setupAtOnce s).din = s.din ∧ (setupAtOnce s).exu = s.exu
    ∧ (setupAtOnce s).wou = s.wou ∧ (setupAtOnce s).dry = s.dry ∧ (setupAtOnce s).lfn = s.lfn
    ∧ (setupAtOnce s).trc.elevator = s.trc.elevator ∧ (setupAtOnce s).trc.level = s.trc.level
    ∧ (setupAtOnce s).trc.request = s.trc.request ∧ (setupAtOnce s).trc.table = s.trc.table
    ∧ (setupAtOnce s).lio.inputs = s.lio.inputs ∧ (setupAtOnce s).lio.lamps = s.lio.lamps ∧ (setupAtOnce s).flt = s.flt
    ∧ (setupAtOnce s).lnk = s.lnk := by
  unfold setupAtOnce
  (repeat' split) <;> simp

@[simp] theorem enterSetup_frame (s : State) :
    (enterSetup s).pending = s.pending ∧ (enterSetup s).powered = s.powered ∧ (enterSetup s).ptb = s.ptb
    ∧ (enterSetup s).rss = s.rss ∧ (enterSetup s).din = s.din ∧ (enterSetup s).exu = s.exu ∧ (enterSetup s).wou = s.wou
    ∧ (enterSetup s).dry = s.dry ∧ (enterSetup s).lfn = s.lfn ∧ (enterSetup s).trc.elevator = s.trc.elevator
    ∧ (enterSetup s).trc.level = s.trc.level ∧ (enterSetup s).trc.request = s.trc.request
    ∧ (enterSetup s).trc.table = s.trc.table ∧ (enterSetup s).lio.inputs = s.lio.inputs
    ∧ (enterSetup s).lio.lamps = s.lio.lamps ∧ (enterSetup s).flt = s.flt ∧ (enterSetup s).lnk = s.lnk := by
  unfold enterSetup
  simp

@[simp] theorem restartHandoff_frame (s : State) :
    (restartHandoff s).pending = s.pending ∧ (restartHandoff s).powered = s.powered ∧ (restartHandoff s).ptb = s.ptb
    ∧ (restartHandoff s).rss = s.rss ∧ (restartHandoff s).din = s.din ∧ (restartHandoff s).exu = s.exu
    ∧ (restartHandoff s).wou = s.wou ∧ (restartHandoff s).dry = s.dry ∧ (restartHandoff s).lfn = s.lfn
    ∧ (restartHandoff s).trc.elevator = s.trc.elevator ∧ (restartHandoff s).trc.level = s.trc.level
    ∧ (restartHandoff s).trc.request = s.trc.request ∧ (restartHandoff s).trc.table = s.trc.table
    ∧ (restartHandoff s).lio.inputs = s.lio.inputs ∧ (restartHandoff s).lio.lamps = s.lio.lamps
    ∧ (restartHandoff s).flt = s.flt ∧ (restartHandoff s).lnk = s.lnk := by
  unfold restartHandoff
  (repeat' split) <;> simp

@[simp] theorem exitPresentChange_frame (active : Bool) (s : State) :
    (exitPresentChange active s).pending = s.pending ∧ (exitPresentChange active s).powered = s.powered
    ∧ (exitPresentChange active s).ptb.queue = s.ptb.queue
    ∧ (exitPresentChange active s).ptb.lastUnmatched = s.ptb.lastUnmatched ∧ (exitPresentChange active s).rss = s.rss
    ∧ (exitPresentChange active s).din = s.din ∧ (exitPresentChange active s).exu = s.exu
    ∧ (exitPresentChange active s).wou = s.wou ∧ (exitPresentChange active s).dry = s.dry
    ∧ (exitPresentChange active s).lio.inputs = s.lio.inputs ∧ (exitPresentChange active s).lio.lamps = s.lio.lamps
    ∧ (exitPresentChange active s).flt = s.flt ∧ (exitPresentChange active s).lnk = s.lnk := by
  unfold exitPresentChange
  (repeat' split) <;> simp

@[simp] theorem setTaken_frame (s : State) :
    (setTaken s).pending = s.pending ∧ (setTaken s).powered = s.powered ∧ (setTaken s).ptb = s.ptb
    ∧ (setTaken s).rss = s.rss ∧ (setTaken s).din = s.din ∧ (setTaken s).exu = s.exu ∧ (setTaken s).wou = s.wou
    ∧ (setTaken s).dry = s.dry ∧ (setTaken s).lfn = s.lfn ∧ (setTaken s).trc.elevator = s.trc.elevator
    ∧ (setTaken s).trc.level = s.trc.level ∧ (setTaken s).trc.request = s.trc.request
    ∧ (setTaken s).trc.table = s.trc.table ∧ (setTaken s).trc.handoff = s.trc.handoff ∧ (setTaken s).lio = s.lio
    ∧ (setTaken s).flt = s.flt ∧ (setTaken s).lnk = s.lnk := by
  unfold setTaken
  simp

@[simp] theorem stkBusyChange_frame (active : Bool) (s : State) :
    (stkBusyChange active s).pending = s.pending ∧ (stkBusyChange active s).powered = s.powered
    ∧ (stkBusyChange active s).ptb.queue = s.ptb.queue ∧ (stkBusyChange active s).ptb.lastUnmatched = s.ptb.lastUnmatched
    ∧ (stkBusyChange active s).rss = s.rss ∧ (stkBusyChange active s).din = s.din ∧ (stkBusyChange active s).exu = s.exu
    ∧ (stkBusyChange active s).wou = s.wou ∧ (stkBusyChange active s).dry = s.dry
    ∧ (stkBusyChange active s).lfn.state = s.lfn.state ∧ (stkBusyChange active s).lfn.plate = s.lfn.plate
    ∧ (stkBusyChange active s).trc.elevator = s.trc.elevator ∧ (stkBusyChange active s).trc.level = s.trc.level
    ∧ (stkBusyChange active s).trc.request = s.trc.request ∧ (stkBusyChange active s).trc.table = s.trc.table
    ∧ (stkBusyChange active s).lio.inputs = s.lio.inputs ∧ (stkBusyChange active s).lio.lamps = s.lio.lamps
    ∧ (stkBusyChange active s).flt = s.flt ∧ (stkBusyChange active s).lnk.parser = s.lnk.parser
    ∧ (stkBusyChange active s).lnk.inService = s.lnk.inService ∧ (stkBusyChange active s).lnk.rx = s.lnk.rx
    ∧ (stkBusyChange active s).lnk.tx = s.lnk.tx ∧ (stkBusyChange active s).lnk.watchdog = s.lnk.watchdog := by
  unfold stkBusyChange
  (repeat' split) <;> simp

@[simp] theorem stkTakenChange_frame (active : Bool) (s : State) :
    (stkTakenChange active s).pending = s.pending ∧ (stkTakenChange active s).powered = s.powered
    ∧ (stkTakenChange active s).ptb.queue = s.ptb.queue
    ∧ (stkTakenChange active s).ptb.lastUnmatched = s.ptb.lastUnmatched ∧ (stkTakenChange active s).rss = s.rss
    ∧ (stkTakenChange active s).din = s.din ∧ (stkTakenChange active s).exu = s.exu
    ∧ (stkTakenChange active s).wou = s.wou ∧ (stkTakenChange active s).dry = s.dry
    ∧ (stkTakenChange active s).lfn.state = s.lfn.state ∧ (stkTakenChange active s).lfn.plate = s.lfn.plate
    ∧ (stkTakenChange active s).trc.elevator = s.trc.elevator ∧ (stkTakenChange active s).trc.level = s.trc.level
    ∧ (stkTakenChange active s).trc.request = s.trc.request ∧ (stkTakenChange active s).trc.table = s.trc.table
    ∧ (stkTakenChange active s).lio.inputs = s.lio.inputs ∧ (stkTakenChange active s).lio.lamps = s.lio.lamps
    ∧ (stkTakenChange active s).flt = s.flt ∧ (stkTakenChange active s).lnk.parser = s.lnk.parser
    ∧ (stkTakenChange active s).lnk.inService = s.lnk.inService ∧ (stkTakenChange active s).lnk.rx = s.lnk.rx
    ∧ (stkTakenChange active s).lnk.tx = s.lnk.tx ∧ (stkTakenChange active s).lnk.watchdog = s.lnk.watchdog := by
  unfold stkTakenChange
  dsimp only
  (repeat' split) <;> simp

@[simp] theorem operatorTakeChange_frame (active : Bool) (s : State) :
    (operatorTakeChange active s).pending = s.pending ∧ (operatorTakeChange active s).powered = s.powered
    ∧ (operatorTakeChange active s).ptb.queue = s.ptb.queue
    ∧ (operatorTakeChange active s).ptb.lastUnmatched = s.ptb.lastUnmatched ∧ (operatorTakeChange active s).rss = s.rss
    ∧ (operatorTakeChange active s).din = s.din ∧ (operatorTakeChange active s).exu = s.exu
    ∧ (operatorTakeChange active s).wou = s.wou ∧ (operatorTakeChange active s).dry = s.dry
    ∧ (operatorTakeChange active s).lfn.state = s.lfn.state ∧ (operatorTakeChange active s).lfn.plate = s.lfn.plate
    ∧ (operatorTakeChange active s).trc.elevator = s.trc.elevator ∧ (operatorTakeChange active s).trc.level = s.trc.level
    ∧ (operatorTakeChange active s).trc.request = s.trc.request ∧ (operatorTakeChange active s).trc.table = s.trc.table
    ∧ (operatorTakeChange active s).lio.inputs = s.lio.inputs ∧ (operatorTakeChange active s).lio.lamps = s.lio.lamps
    ∧ (operatorTakeChange active s).flt = s.flt ∧ (operatorTakeChange active s).lnk.parser = s.lnk.parser
    ∧ (operatorTakeChange active s).lnk.inService = s.lnk.inService ∧ (operatorTakeChange active s).lnk.rx = s.lnk.rx
    ∧ (operatorTakeChange active s).lnk.tx = s.lnk.tx ∧ (operatorTakeChange active s).lnk.watchdog = s.lnk.watchdog := by
  unfold operatorTakeChange
  (repeat' split) <;> simp

@[simp] theorem handoffExpiry_frame (s : State) :
    (handoffExpiry s).pending = s.pending ∧ (handoffExpiry s).powered = s.powered ∧ (handoffExpiry s).ptb = s.ptb
    ∧ (handoffExpiry s).rss = s.rss ∧ (handoffExpiry s).din = s.din ∧ (handoffExpiry s).exu = s.exu
    ∧ (handoffExpiry s).wou = s.wou ∧ (handoffExpiry s).dry = s.dry ∧ (handoffExpiry s).lfn = s.lfn
    ∧ (handoffExpiry s).trc.elevator = s.trc.elevator ∧ (handoffExpiry s).trc.level = s.trc.level
    ∧ (handoffExpiry s).trc.request = s.trc.request ∧ (handoffExpiry s).trc.table = s.trc.table
    ∧ (handoffExpiry s).trc.handoff = s.trc.handoff ∧ (handoffExpiry s).lio.inputs = s.lio.inputs
    ∧ (handoffExpiry s).lio.drives = s.lio.drives ∧ (handoffExpiry s).lio.lamps = s.lio.lamps
    ∧ (handoffExpiry s).flt.lineState = s.flt.lineState ∧ (handoffExpiry s).flt.cause = s.flt.cause
    ∧ (handoffExpiry s).flt.masks = s.flt.masks ∧ (handoffExpiry s).lnk.parser = s.lnk.parser
    ∧ (handoffExpiry s).lnk.inService = s.lnk.inService ∧ (handoffExpiry s).lnk.rx = s.lnk.rx
    ∧ (handoffExpiry s).lnk.tx = s.lnk.tx ∧ (handoffExpiry s).lnk.watchdog = s.lnk.watchdog := by
  unfold handoffExpiry
  (repeat' split) <;> simp

/-! ### Transfers -/

@[simp] theorem modDryPart_frame (k : Slot) (f : DryPart → DryPart) (s : State) :
    (modDryPart k f s).pending = s.pending ∧ (modDryPart k f s).powered = s.powered
    ∧ (modDryPart k f s).ptb.queue = s.ptb.queue ∧ (modDryPart k f s).ptb.lastUnmatched = s.ptb.lastUnmatched
    ∧ (modDryPart k f s).rss = s.rss ∧ (modDryPart k f s).din = s.din ∧ (modDryPart k f s).exu = s.exu
    ∧ (modDryPart k f s).wou = s.wou ∧ (modDryPart k f s).dry = s.dry ∧ (modDryPart k f s).lfn = s.lfn
    ∧ (modDryPart k f s).trc = s.trc ∧ (modDryPart k f s).lio = s.lio ∧ (modDryPart k f s).flt = s.flt
    ∧ (modDryPart k f s).lnk = s.lnk := by
  unfold modDryPart
  simp

@[simp] theorem accrueDrawer_frame (s : State) (d : DrawerNo) :
    (accrueDrawer s d).pending = s.pending ∧ (accrueDrawer s d).powered = s.powered
    ∧ (accrueDrawer s d).ptb.queue = s.ptb.queue ∧ (accrueDrawer s d).ptb.lastUnmatched = s.ptb.lastUnmatched
    ∧ (accrueDrawer s d).rss = s.rss ∧ (accrueDrawer s d).din = s.din ∧ (accrueDrawer s d).exu = s.exu
    ∧ (accrueDrawer s d).wou = s.wou ∧ (accrueDrawer s d).dry = s.dry ∧ (accrueDrawer s d).lfn = s.lfn
    ∧ (accrueDrawer s d).trc = s.trc ∧ (accrueDrawer s d).lio = s.lio ∧ (accrueDrawer s d).flt = s.flt
    ∧ (accrueDrawer s d).lnk = s.lnk := by
  unfold accrueDrawer
  (repeat' split) <;> simp

@[simp] theorem finishDrying_frame (s : State) (d : DrawerNo) :
    (finishDrying s d).pending = s.pending ∧ (finishDrying s d).powered = s.powered
    ∧ (finishDrying s d).ptb.queue = s.ptb.queue ∧ (finishDrying s d).ptb.lastUnmatched = s.ptb.lastUnmatched
    ∧ (finishDrying s d).rss = s.rss ∧ (finishDrying s d).din = s.din ∧ (finishDrying s d).exu = s.exu
    ∧ (finishDrying s d).wou = s.wou ∧ (finishDrying s d).dry.clock = s.dry.clock
    ∧ (finishDrying s d).lfn.state = s.lfn.state ∧ (finishDrying s d).lfn.plate = s.lfn.plate
    ∧ (finishDrying s d).trc.level = s.trc.level ∧ (finishDrying s d).trc.handoff = s.trc.handoff
    ∧ (finishDrying s d).lio.inputs = s.lio.inputs ∧ (finishDrying s d).lio.outputs = s.lio.outputs
    ∧ (finishDrying s d).lio.lamps = s.lio.lamps ∧ (finishDrying s d).flt = s.flt ∧ (finishDrying s d).lnk = s.lnk := by
  unfold finishDrying
  (repeat' split) <;> simp

@[simp] theorem inBandReading_frame (s : State) :
    (inBandReading s).pending = s.pending ∧ (inBandReading s).powered = s.powered
    ∧ (inBandReading s).ptb.queue = s.ptb.queue ∧ (inBandReading s).ptb.lastUnmatched = s.ptb.lastUnmatched
    ∧ (inBandReading s).rss = s.rss ∧ (inBandReading s).din = s.din ∧ (inBandReading s).exu = s.exu
    ∧ (inBandReading s).wou = s.wou ∧ (inBandReading s).dry.clock = s.dry.clock
    ∧ (inBandReading s).lfn.state = s.lfn.state ∧ (inBandReading s).lfn.plate = s.lfn.plate
    ∧ (inBandReading s).trc.level = s.trc.level ∧ (inBandReading s).trc.handoff = s.trc.handoff
    ∧ (inBandReading s).lio.inputs = s.lio.inputs ∧ (inBandReading s).lio.outputs = s.lio.outputs
    ∧ (inBandReading s).lio.lamps = s.lio.lamps ∧ (inBandReading s).flt = s.flt ∧ (inBandReading s).lnk = s.lnk := by
  unfold inBandReading
  simp

@[simp] theorem aboveReading_frame (s : State) :
    (aboveReading s).pending = s.pending ∧ (aboveReading s).powered = s.powered ∧ (aboveReading s).ptb = s.ptb
    ∧ (aboveReading s).rss = s.rss ∧ (aboveReading s).din = s.din ∧ (aboveReading s).exu = s.exu
    ∧ (aboveReading s).wou = s.wou ∧ (aboveReading s).dry = s.dry ∧ (aboveReading s).lfn = s.lfn
    ∧ (aboveReading s).trc = s.trc ∧ (aboveReading s).lio.inputs = s.lio.inputs ∧ (aboveReading s).lio.lamps = s.lio.lamps
    ∧ (aboveReading s).flt.lineState = s.flt.lineState ∧ (aboveReading s).flt.cause = s.flt.cause
    ∧ (aboveReading s).flt.masks = s.flt.masks ∧ (aboveReading s).lnk.parser = s.lnk.parser
    ∧ (aboveReading s).lnk.inService = s.lnk.inService ∧ (aboveReading s).lnk.rx = s.lnk.rx
    ∧ (aboveReading s).lnk.tx = s.lnk.tx ∧ (aboveReading s).lnk.watchdog = s.lnk.watchdog := by
  unfold aboveReading
  simp

@[simp] theorem overdryTest_frame (s : State) (d : DrawerNo) :
    (overdryTest s d).pending = s.pending ∧ (overdryTest s d).powered = s.powered
    ∧ (overdryTest s d).ptb.queue = s.ptb.queue ∧ (overdryTest s d).ptb.lastUnmatched = s.ptb.lastUnmatched
    ∧ (overdryTest s d).rss = s.rss ∧ (overdryTest s d).din = s.din ∧ (overdryTest s d).exu = s.exu
    ∧ (overdryTest s d).wou = s.wou ∧ (overdryTest s d).dry = s.dry ∧ (overdryTest s d).lfn = s.lfn
    ∧ (overdryTest s d).trc = s.trc ∧ (overdryTest s d).lio.inputs = s.lio.inputs
    ∧ (overdryTest s d).lio.drives = s.lio.drives ∧ (overdryTest s d).lio.lamps = s.lio.lamps
    ∧ (overdryTest s d).flt.lineState = s.flt.lineState ∧ (overdryTest s d).flt.cause = s.flt.cause
    ∧ (overdryTest s d).flt.masks = s.flt.masks ∧ (overdryTest s d).lnk.parser = s.lnk.parser
    ∧ (overdryTest s d).lnk.inService = s.lnk.inService ∧ (overdryTest s d).lnk.rx = s.lnk.rx
    ∧ (overdryTest s d).lnk.tx = s.lnk.tx ∧ (overdryTest s d).lnk.watchdog = s.lnk.watchdog := by
  unfold overdryTest
  (repeat' split) <;> simp

@[simp] theorem actOnClass_frame (c : TempClass) (s : State) :
    (actOnClass c s).pending = s.pending ∧ (actOnClass c s).powered = s.powered ∧ (actOnClass c s).ptb.queue = s.ptb.queue
    ∧ (actOnClass c s).ptb.lastUnmatched = s.ptb.lastUnmatched ∧ (actOnClass c s).rss = s.rss
    ∧ (actOnClass c s).din = s.din ∧ (actOnClass c s).exu = s.exu ∧ (actOnClass c s).wou = s.wou
    ∧ (actOnClass c s).dry.clock = s.dry.clock ∧ (actOnClass c s).lfn.state = s.lfn.state
    ∧ (actOnClass c s).lfn.plate = s.lfn.plate ∧ (actOnClass c s).trc.level = s.trc.level
    ∧ (actOnClass c s).trc.handoff = s.trc.handoff ∧ (actOnClass c s).lio.inputs = s.lio.inputs
    ∧ (actOnClass c s).lio.lamps = s.lio.lamps ∧ (actOnClass c s).flt.lineState = s.flt.lineState
    ∧ (actOnClass c s).flt.cause = s.flt.cause ∧ (actOnClass c s).flt.masks = s.flt.masks
    ∧ (actOnClass c s).lnk.parser = s.lnk.parser ∧ (actOnClass c s).lnk.inService = s.lnk.inService
    ∧ (actOnClass c s).lnk.rx = s.lnk.rx ∧ (actOnClass c s).lnk.tx = s.lnk.tx
    ∧ (actOnClass c s).lnk.watchdog = s.lnk.watchdog := by
  unfold actOnClass
  (repeat' split) <;> simp

@[simp] theorem storeReading_frame (reading : Nat) (s : State) :
    (storeReading reading s).pending = s.pending ∧ (storeReading reading s).powered = s.powered
    ∧ (storeReading reading s).ptb = s.ptb ∧ (storeReading reading s).rss = s.rss ∧ (storeReading reading s).din = s.din
    ∧ (storeReading reading s).exu = s.exu ∧ (storeReading reading s).wou = s.wou
    ∧ (storeReading reading s).dry.drawers = s.dry.drawers ∧ (storeReading reading s).lfn = s.lfn
    ∧ (storeReading reading s).trc = s.trc ∧ (storeReading reading s).lio = s.lio ∧ (storeReading reading s).flt = s.flt
    ∧ (storeReading reading s).lnk = s.lnk := by
  unfold storeReading
  simp

@[simp] theorem takeDryerReading_frame (reading : Nat) (s : State) :
    (takeDryerReading reading s).pending = s.pending ∧ (takeDryerReading reading s).powered = s.powered
    ∧ (takeDryerReading reading s).ptb.queue = s.ptb.queue
    ∧ (takeDryerReading reading s).ptb.lastUnmatched = s.ptb.lastUnmatched ∧ (takeDryerReading reading s).rss = s.rss
    ∧ (takeDryerReading reading s).din = s.din ∧ (takeDryerReading reading s).exu = s.exu
    ∧ (takeDryerReading reading s).wou = s.wou ∧ (takeDryerReading reading s).lfn.state = s.lfn.state
    ∧ (takeDryerReading reading s).lfn.plate = s.lfn.plate ∧ (takeDryerReading reading s).trc.level = s.trc.level
    ∧ (takeDryerReading reading s).trc.handoff = s.trc.handoff ∧ (takeDryerReading reading s).lio.inputs = s.lio.inputs
    ∧ (takeDryerReading reading s).lio.lamps = s.lio.lamps ∧ (takeDryerReading reading s).flt.lineState = s.flt.lineState
    ∧ (takeDryerReading reading s).flt.cause = s.flt.cause ∧ (takeDryerReading reading s).flt.masks = s.flt.masks
    ∧ (takeDryerReading reading s).lnk.parser = s.lnk.parser
    ∧ (takeDryerReading reading s).lnk.inService = s.lnk.inService ∧ (takeDryerReading reading s).lnk.rx = s.lnk.rx
    ∧ (takeDryerReading reading s).lnk.tx = s.lnk.tx ∧ (takeDryerReading reading s).lnk.watchdog = s.lnk.watchdog := by
  unfold takeDryerReading
  simp

@[simp] theorem drawerPicked_frame (d : DrawerNo) (s : State) :
    (drawerPicked d s).pending = s.pending ∧ (drawerPicked d s).powered = s.powered ∧ (drawerPicked d s).ptb = s.ptb
    ∧ (drawerPicked d s).rss = s.rss ∧ (drawerPicked d s).din = s.din ∧ (drawerPicked d s).exu = s.exu
    ∧ (drawerPicked d s).wou = s.wou ∧ (drawerPicked d s).dry.clock = s.dry.clock ∧ (drawerPicked d s).lfn = s.lfn
    ∧ (drawerPicked d s).trc = s.trc ∧ (drawerPicked d s).lio = s.lio ∧ (drawerPicked d s).flt = s.flt
    ∧ (drawerPicked d s).lnk = s.lnk := by
  unfold drawerPicked
  (repeat' split) <;> simp

@[simp] theorem pickReport_frame (s : State) :
    (pickReport s).pending = s.pending ∧ (pickReport s).powered = s.powered ∧ (pickReport s).ptb.queue = s.ptb.queue
    ∧ (pickReport s).ptb.lastUnmatched = s.ptb.lastUnmatched ∧ (pickReport s).rss = s.rss ∧ (pickReport s).din = s.din
    ∧ (pickReport s).dry.clock = s.dry.clock ∧ (pickReport s).lfn = s.lfn ∧ (pickReport s).lio.inputs = s.lio.inputs
    ∧ (pickReport s).lio.lamps = s.lio.lamps ∧ (pickReport s).flt.lineState = s.flt.lineState
    ∧ (pickReport s).flt.cause = s.flt.cause ∧ (pickReport s).flt.masks = s.flt.masks
    ∧ (pickReport s).lnk.parser = s.lnk.parser ∧ (pickReport s).lnk.inService = s.lnk.inService
    ∧ (pickReport s).lnk.rx = s.lnk.rx ∧ (pickReport s).lnk.tx = s.lnk.tx ∧ (pickReport s).lnk.watchdog = s.lnk.watchdog := by
  unfold pickReport
  (repeat' split) <;> simp

@[simp] theorem putPlaced_frame (k : Slot) (d : DrawerNo) (s : State) :
    (putPlaced k d s).pending = s.pending ∧ (putPlaced k d s).powered = s.powered
    ∧ (putPlaced k d s).ptb.queue = s.ptb.queue ∧ (putPlaced k d s).ptb.lastUnmatched = s.ptb.lastUnmatched
    ∧ (putPlaced k d s).rss = s.rss ∧ (putPlaced k d s).din = s.din ∧ (putPlaced k d s).exu = s.exu
    ∧ (putPlaced k d s).wou = s.wou ∧ (putPlaced k d s).lfn = s.lfn ∧ (putPlaced k d s).trc = s.trc
    ∧ (putPlaced k d s).lio = s.lio ∧ (putPlaced k d s).flt = s.flt ∧ (putPlaced k d s).lnk = s.lnk := by
  unfold putPlaced
  dsimp only
  (repeat' split) <;> simp

@[simp] theorem drawerFreed_frame (d : DrawerNo) (k : Slot) (s : State) :
    (drawerFreed d k s).pending = s.pending ∧ (drawerFreed d k s).powered = s.powered
    ∧ (drawerFreed d k s).ptb.queue = s.ptb.queue ∧ (drawerFreed d k s).ptb.lastUnmatched = s.ptb.lastUnmatched
    ∧ (drawerFreed d k s).rss = s.rss ∧ (drawerFreed d k s).din = s.din ∧ (drawerFreed d k s).dry.clock = s.dry.clock
    ∧ (drawerFreed d k s).lfn = s.lfn ∧ (drawerFreed d k s).trc = s.trc ∧ (drawerFreed d k s).lio.inputs = s.lio.inputs
    ∧ (drawerFreed d k s).lio.lamps = s.lio.lamps ∧ (drawerFreed d k s).flt.lineState = s.flt.lineState
    ∧ (drawerFreed d k s).flt.cause = s.flt.cause ∧ (drawerFreed d k s).flt.masks = s.flt.masks
    ∧ (drawerFreed d k s).lnk.parser = s.lnk.parser ∧ (drawerFreed d k s).lnk.inService = s.lnk.inService
    ∧ (drawerFreed d k s).lnk.rx = s.lnk.rx ∧ (drawerFreed d k s).lnk.tx = s.lnk.tx
    ∧ (drawerFreed d k s).lnk.watchdog = s.lnk.watchdog := by
  unfold drawerFreed
  simp

@[simp] theorem placeReport_frame (s : State) :
    (placeReport s).pending = s.pending ∧ (placeReport s).powered = s.powered ∧ (placeReport s).ptb.queue = s.ptb.queue
    ∧ (placeReport s).ptb.lastUnmatched = s.ptb.lastUnmatched ∧ (placeReport s).rss = s.rss ∧ (placeReport s).din = s.din
    ∧ (placeReport s).trc.level = s.trc.level ∧ (placeReport s).trc.handoff = s.trc.handoff
    ∧ (placeReport s).lio.inputs = s.lio.inputs ∧ (placeReport s).lio.lamps = s.lio.lamps
    ∧ (placeReport s).flt.lineState = s.flt.lineState ∧ (placeReport s).flt.cause = s.flt.cause
    ∧ (placeReport s).flt.masks = s.flt.masks ∧ (placeReport s).lnk.parser = s.lnk.parser
    ∧ (placeReport s).lnk.inService = s.lnk.inService ∧ (placeReport s).lnk.rx = s.lnk.rx
    ∧ (placeReport s).lnk.tx = s.lnk.tx ∧ (placeReport s).lnk.watchdog = s.lnk.watchdog := by
  unfold placeReport
  (repeat' split) <;> simp

end Sys2Proof.Machine
end

