-- ==== Sys2Proof/Laws/FramesLine.lean ====
section
/-! SUPPORT. What each operation of the line state, the inputs, the fault monitor and the link leaves as it is. -/

namespace Sys2Proof.Machine

/-! ### LineState -/

@[simp] theorem stationsHearLine_frame (s : State) :
    (stationsHearLine s).pending = s.pending ∧ (stationsHearLine s).powered = s.powered
    ∧ (stationsHearLine s).ptb.queue = s.ptb.queue ∧ (stationsHearLine s).ptb.lastUnmatched = s.ptb.lastUnmatched
    ∧ (stationsHearLine s).rss = s.rss ∧ (stationsHearLine s).dry.clock = s.dry.clock
    ∧ (stationsHearLine s).lfn.plate = s.lfn.plate ∧ (stationsHearLine s).trc.level = s.trc.level
    ∧ (stationsHearLine s).trc.handoff = s.trc.handoff ∧ (stationsHearLine s).lio.inputs = s.lio.inputs
    ∧ (stationsHearLine s).flt.lineState = s.flt.lineState ∧ (stationsHearLine s).flt.cause = s.flt.cause
    ∧ (stationsHearLine s).flt.masks = s.flt.masks ∧ (stationsHearLine s).lnk.parser = s.lnk.parser
    ∧ (stationsHearLine s).lnk.inService = s.lnk.inService ∧ (stationsHearLine s).lnk.rx = s.lnk.rx
    ∧ (stationsHearLine s).lnk.tx = s.lnk.tx ∧ (stationsHearLine s).lnk.watchdog = s.lnk.watchdog := by
  unfold stationsHearLine
  (repeat' split) <;> simp

@[simp] theorem changeLine_frame (new : LineState) (cause : Cause) (s : State) :
    (changeLine new cause s).pending = s.pending ∧ (changeLine new cause s).powered = s.powered
    ∧ (changeLine new cause s).ptb.queue = s.ptb.queue ∧ (changeLine new cause s).ptb.lastUnmatched = s.ptb.lastUnmatched
    ∧ (changeLine new cause s).rss = s.rss ∧ (changeLine new cause s).dry.clock = s.dry.clock
    ∧ (changeLine new cause s).lfn.plate = s.lfn.plate ∧ (changeLine new cause s).trc.level = s.trc.level
    ∧ (changeLine new cause s).trc.handoff = s.trc.handoff ∧ (changeLine new cause s).lio.inputs = s.lio.inputs
    ∧ (changeLine new cause s).lnk.parser = s.lnk.parser ∧ (changeLine new cause s).lnk.inService = s.lnk.inService
    ∧ (changeLine new cause s).lnk.rx = s.lnk.rx ∧ (changeLine new cause s).lnk.tx = s.lnk.tx
    ∧ (changeLine new cause s).lnk.watchdog = s.lnk.watchdog := by
  unfold changeLine
  simp

@[simp] theorem lineHold_frame (s : State) :
    (lineHold s).pending = s.pending ∧ (lineHold s).powered = s.powered ∧ (lineHold s).ptb.queue = s.ptb.queue
    ∧ (lineHold s).ptb.lastUnmatched = s.ptb.lastUnmatched ∧ (lineHold s).rss = s.rss
    ∧ (lineHold s).dry.clock = s.dry.clock ∧ (lineHold s).lfn.plate = s.lfn.plate ∧ (lineHold s).trc.level = s.trc.level
    ∧ (lineHold s).trc.handoff = s.trc.handoff ∧ (lineHold s).lio.inputs = s.lio.inputs
    ∧ (lineHold s).lnk.parser = s.lnk.parser ∧ (lineHold s).lnk.inService = s.lnk.inService
    ∧ (lineHold s).lnk.rx = s.lnk.rx ∧ (lineHold s).lnk.tx = s.lnk.tx ∧ (lineHold s).lnk.watchdog = s.lnk.watchdog := by
  unfold lineHold
  (repeat' split) <;> simp

@[simp] theorem lineResume_frame (s : State) :
    (lineResume s).pending = s.pending ∧ (lineResume s).powered = s.powered ∧ (lineResume s).ptb.queue = s.ptb.queue
    ∧ (lineResume s).ptb.lastUnmatched = s.ptb.lastUnmatched ∧ (lineResume s).rss = s.rss
    ∧ (lineResume s).dry.clock = s.dry.clock ∧ (lineResume s).lfn.plate = s.lfn.plate
    ∧ (lineResume s).trc.level = s.trc.level ∧ (lineResume s).trc.handoff = s.trc.handoff
    ∧ (lineResume s).lio.inputs = s.lio.inputs ∧ (lineResume s).lnk.parser = s.lnk.parser
    ∧ (lineResume s).lnk.inService = s.lnk.inService ∧ (lineResume s).lnk.rx = s.lnk.rx ∧ (lineResume s).lnk.tx = s.lnk.tx
    ∧ (lineResume s).lnk.watchdog = s.lnk.watchdog := by
  unfold lineResume
  (repeat' split) <;> simp

@[simp] theorem linkLost_frame (s : State) :
    (linkLost s).pending = s.pending ∧ (linkLost s).powered = s.powered ∧ (linkLost s).ptb.queue = s.ptb.queue
    ∧ (linkLost s).ptb.lastUnmatched = s.ptb.lastUnmatched ∧ (linkLost s).rss = s.rss
    ∧ (linkLost s).dry.clock = s.dry.clock ∧ (linkLost s).lfn.plate = s.lfn.plate ∧ (linkLost s).trc.level = s.trc.level
    ∧ (linkLost s).trc.handoff = s.trc.handoff ∧ (linkLost s).lio.inputs = s.lio.inputs
    ∧ (linkLost s).lnk.parser = s.lnk.parser ∧ (linkLost s).lnk.inService = s.lnk.inService
    ∧ (linkLost s).lnk.rx = s.lnk.rx ∧ (linkLost s).lnk.tx = s.lnk.tx ∧ (linkLost s).lnk.watchdog = s.lnk.watchdog := by
  unfold linkLost
  dsimp only
  (repeat' split) <;> simp

@[simp] theorem resetLine_frame (s : State) :
    (resetLine s).pending = s.pending ∧ (resetLine s).powered = s.powered ∧ (resetLine s).ptb.queue = s.ptb.queue
    ∧ (resetLine s).ptb.lastUnmatched = s.ptb.lastUnmatched ∧ (resetLine s).rss = s.rss
    ∧ (resetLine s).dry.clock = s.dry.clock ∧ (resetLine s).lfn.plate = s.lfn.plate
    ∧ (resetLine s).trc.level = s.trc.level ∧ (resetLine s).trc.handoff = s.trc.handoff
    ∧ (resetLine s).lio.inputs = s.lio.inputs ∧ (resetLine s).lnk.parser = s.lnk.parser
    ∧ (resetLine s).lnk.inService = s.lnk.inService ∧ (resetLine s).lnk.rx = s.lnk.rx ∧ (resetLine s).lnk.tx = s.lnk.tx
    ∧ (resetLine s).lnk.watchdog = s.lnk.watchdog := by
  unfold resetLine
  dsimp only
  (repeat' split) <;> simp

/-! ### Inputs -/

@[simp] theorem pauseSegment_frame (ch : LampChannel) (s : State) :
    (pauseSegment ch s).pending = s.pending ∧ (pauseSegment ch s).powered = s.powered
    ∧ (pauseSegment ch s).ptb.queue = s.ptb.queue ∧ (pauseSegment ch s).ptb.lastUnmatched = s.ptb.lastUnmatched
    ∧ (pauseSegment ch s).rss.working = s.rss.working ∧ (pauseSegment ch s).rss.unsaved = s.rss.unsaved
    ∧ (pauseSegment ch s).rss.bankA = s.rss.bankA ∧ (pauseSegment ch s).rss.bankB = s.rss.bankB
    ∧ (pauseSegment ch s).rss.save = s.rss.save ∧ (pauseSegment ch s).exu.state = s.exu.state
    ∧ (pauseSegment ch s).exu.plate = s.exu.plate ∧ (pauseSegment ch s).wou = s.wou ∧ (pauseSegment ch s).dry = s.dry
    ∧ (pauseSegment ch s).lfn.state = s.lfn.state ∧ (pauseSegment ch s).lfn.plate = s.lfn.plate
    ∧ (pauseSegment ch s).trc = s.trc ∧ (pauseSegment ch s).lio.inputs = s.lio.inputs
    ∧ (pauseSegment ch s).lio.drives = s.lio.drives ∧ (pauseSegment ch s).flt.lineState = s.flt.lineState
    ∧ (pauseSegment ch s).flt.cause = s.flt.cause ∧ (pauseSegment ch s).flt.masks = s.flt.masks
    ∧ (pauseSegment ch s).lnk.parser = s.lnk.parser ∧ (pauseSegment ch s).lnk.inService = s.lnk.inService
    ∧ (pauseSegment ch s).lnk.rx = s.lnk.rx ∧ (pauseSegment ch s).lnk.tx = s.lnk.tx
    ∧ (pauseSegment ch s).lnk.watchdog = s.lnk.watchdog := by
  unfold pauseSegment
  (repeat' split) <;> simp

@[simp] theorem forceDrive_frame (s : State) (c : DriveChannel) :
    (forceDrive s c).pending = s.pending ∧ (forceDrive s c).powered = s.powered ∧ (forceDrive s c).ptb = s.ptb
    ∧ (forceDrive s c).rss = s.rss ∧ (forceDrive s c).din = s.din ∧ (forceDrive s c).exu = s.exu
    ∧ (forceDrive s c).wou = s.wou ∧ (forceDrive s c).dry = s.dry ∧ (forceDrive s c).lfn = s.lfn
    ∧ (forceDrive s c).trc = s.trc ∧ (forceDrive s c).lio.inputs = s.lio.inputs
    ∧ (forceDrive s c).lio.outputs = s.lio.outputs ∧ (forceDrive s c).lio.lamps = s.lio.lamps
    ∧ (forceDrive s c).flt = s.flt ∧ (forceDrive s c).lnk = s.lnk := by
  unfold forceDrive
  (repeat' split) <;> simp

@[simp] theorem forceLamp_frame (s : State) (c : LampChannel) :
    (forceLamp s c).pending = s.pending ∧ (forceLamp s c).powered = s.powered ∧ (forceLamp s c).ptb = s.ptb
    ∧ (forceLamp s c).rss = s.rss ∧ (forceLamp s c).din = s.din ∧ (forceLamp s c).exu = s.exu
    ∧ (forceLamp s c).wou = s.wou ∧ (forceLamp s c).dry = s.dry ∧ (forceLamp s c).lfn = s.lfn
    ∧ (forceLamp s c).trc = s.trc ∧ (forceLamp s c).lio.inputs = s.lio.inputs ∧ (forceLamp s c).lio.drives = s.lio.drives
    ∧ (forceLamp s c).flt = s.flt ∧ (forceLamp s c).lnk = s.lnk := by
  unfold forceLamp
  (repeat' split) <;> simp

@[simp] theorem forceAllOff_frame (s : State) :
    (forceAllOff s).pending = s.pending ∧ (forceAllOff s).powered = s.powered ∧ (forceAllOff s).ptb = s.ptb
    ∧ (forceAllOff s).rss = s.rss ∧ (forceAllOff s).din = s.din ∧ (forceAllOff s).exu = s.exu
    ∧ (forceAllOff s).wou = s.wou ∧ (forceAllOff s).dry = s.dry ∧ (forceAllOff s).lfn = s.lfn
    ∧ (forceAllOff s).trc = s.trc ∧ (forceAllOff s).lio.inputs = s.lio.inputs ∧ (forceAllOff s).flt = s.flt
    ∧ (forceAllOff s).lnk = s.lnk := by
  unfold forceAllOff
  simp

@[simp] theorem stopLine_frame (s : State) :
    (stopLine s).pending = s.pending ∧ (stopLine s).powered = s.powered ∧ (stopLine s).ptb.queue = s.ptb.queue
    ∧ (stopLine s).ptb.lastUnmatched = s.ptb.lastUnmatched ∧ (stopLine s).rss = s.rss
    ∧ (stopLine s).dry.clock = s.dry.clock ∧ (stopLine s).lfn.plate = s.lfn.plate ∧ (stopLine s).trc.level = s.trc.level
    ∧ (stopLine s).trc.handoff = s.trc.handoff ∧ (stopLine s).lio.inputs = s.lio.inputs
    ∧ (stopLine s).lnk.parser = s.lnk.parser ∧ (stopLine s).lnk.inService = s.lnk.inService
    ∧ (stopLine s).lnk.rx = s.lnk.rx ∧ (stopLine s).lnk.tx = s.lnk.tx ∧ (stopLine s).lnk.watchdog = s.lnk.watchdog := by
  unfold stopLine
  dsimp only
  (repeat' split) <;> simp

@[simp] theorem pauseForced_frame (s : State) (c : LampChannel) :
    (pauseForced s c).pending = s.pending ∧ (pauseForced s c).powered = s.powered
    ∧ (pauseForced s c).ptb.queue = s.ptb.queue ∧ (pauseForced s c).ptb.lastUnmatched = s.ptb.lastUnmatched
    ∧ (pauseForced s c).rss.working = s.rss.working ∧ (pauseForced s c).rss.unsaved = s.rss.unsaved
    ∧ (pauseForced s c).rss.bankA = s.rss.bankA ∧ (pauseForced s c).rss.bankB = s.rss.bankB
    ∧ (pauseForced s c).rss.save = s.rss.save ∧ (pauseForced s c).exu.state = s.exu.state
    ∧ (pauseForced s c).exu.plate = s.exu.plate ∧ (pauseForced s c).wou = s.wou ∧ (pauseForced s c).dry = s.dry
    ∧ (pauseForced s c).lfn.state = s.lfn.state ∧ (pauseForced s c).lfn.plate = s.lfn.plate
    ∧ (pauseForced s c).trc = s.trc ∧ (pauseForced s c).lio.inputs = s.lio.inputs
    ∧ (pauseForced s c).lio.drives = s.lio.drives ∧ (pauseForced s c).flt.lineState = s.flt.lineState
    ∧ (pauseForced s c).flt.cause = s.flt.cause ∧ (pauseForced s c).flt.masks = s.flt.masks
    ∧ (pauseForced s c).lnk.parser = s.lnk.parser ∧ (pauseForced s c).lnk.inService = s.lnk.inService
    ∧ (pauseForced s c).lnk.rx = s.lnk.rx ∧ (pauseForced s c).lnk.tx = s.lnk.tx
    ∧ (pauseForced s c).lnk.watchdog = s.lnk.watchdog := by
  unfold pauseForced
  (repeat' split) <;> simp

@[simp] theorem ownersHearInhibit_frame (s : State) :
    (ownersHearInhibit s).pending = s.pending ∧ (ownersHearInhibit s).powered = s.powered
    ∧ (ownersHearInhibit s).ptb.queue = s.ptb.queue ∧ (ownersHearInhibit s).ptb.lastUnmatched = s.ptb.lastUnmatched
    ∧ (ownersHearInhibit s).rss.working = s.rss.working ∧ (ownersHearInhibit s).rss.unsaved = s.rss.unsaved
    ∧ (ownersHearInhibit s).rss.bankA = s.rss.bankA ∧ (ownersHearInhibit s).rss.bankB = s.rss.bankB
    ∧ (ownersHearInhibit s).rss.save = s.rss.save ∧ (ownersHearInhibit s).dry.clock = s.dry.clock
    ∧ (ownersHearInhibit s).lfn.state = s.lfn.state ∧ (ownersHearInhibit s).lfn.plate = s.lfn.plate
    ∧ (ownersHearInhibit s).lio.inputs = s.lio.inputs ∧ (ownersHearInhibit s).flt.lineState = s.flt.lineState
    ∧ (ownersHearInhibit s).flt.cause = s.flt.cause ∧ (ownersHearInhibit s).flt.masks = s.flt.masks
    ∧ (ownersHearInhibit s).lnk.parser = s.lnk.parser ∧ (ownersHearInhibit s).lnk.inService = s.lnk.inService
    ∧ (ownersHearInhibit s).lnk.rx = s.lnk.rx ∧ (ownersHearInhibit s).lnk.tx = s.lnk.tx
    ∧ (ownersHearInhibit s).lnk.watchdog = s.lnk.watchdog := by
  unfold ownersHearInhibit
  simp

@[simp] theorem inhibitOn_frame (s : State) :
    (inhibitOn s).pending = s.pending ∧ (inhibitOn s).powered = s.powered ∧ (inhibitOn s).ptb.queue = s.ptb.queue
    ∧ (inhibitOn s).ptb.lastUnmatched = s.ptb.lastUnmatched ∧ (inhibitOn s).rss.working = s.rss.working
    ∧ (inhibitOn s).rss.unsaved = s.rss.unsaved ∧ (inhibitOn s).rss.bankA = s.rss.bankA
    ∧ (inhibitOn s).rss.bankB = s.rss.bankB ∧ (inhibitOn s).rss.save = s.rss.save ∧ (inhibitOn s).dry.clock = s.dry.clock
    ∧ (inhibitOn s).lfn.plate = s.lfn.plate ∧ (inhibitOn s).lio.inputs = s.lio.inputs
    ∧ (inhibitOn s).lnk.parser = s.lnk.parser ∧ (inhibitOn s).lnk.inService = s.lnk.inService
    ∧ (inhibitOn s).lnk.rx = s.lnk.rx ∧ (inhibitOn s).lnk.tx = s.lnk.tx ∧ (inhibitOn s).lnk.watchdog = s.lnk.watchdog := by
  unfold inhibitOn
  simp

@[simp] theorem releaseDrive_frame (s : State) (c : DriveChannel) :
    (releaseDrive s c).pending = s.pending ∧ (releaseDrive s c).powered = s.powered ∧ (releaseDrive s c).ptb = s.ptb
    ∧ (releaseDrive s c).rss = s.rss ∧ (releaseDrive s c).din = s.din ∧ (releaseDrive s c).exu = s.exu
    ∧ (releaseDrive s c).wou = s.wou ∧ (releaseDrive s c).dry = s.dry ∧ (releaseDrive s c).lfn = s.lfn
    ∧ (releaseDrive s c).trc = s.trc ∧ (releaseDrive s c).lio.inputs = s.lio.inputs
    ∧ (releaseDrive s c).lio.outputs = s.lio.outputs ∧ (releaseDrive s c).lio.lamps = s.lio.lamps
    ∧ (releaseDrive s c).flt = s.flt ∧ (releaseDrive s c).lnk = s.lnk := by
  unfold releaseDrive
  (repeat' split) <;> simp

@[simp] theorem releaseLamp_frame (s : State) (c : LampChannel) :
    (releaseLamp s c).pending = s.pending ∧ (releaseLamp s c).powered = s.powered ∧ (releaseLamp s c).ptb = s.ptb
    ∧ (releaseLamp s c).rss = s.rss ∧ (releaseLamp s c).din = s.din ∧ (releaseLamp s c).exu = s.exu
    ∧ (releaseLamp s c).wou = s.wou ∧ (releaseLamp s c).dry = s.dry ∧ (releaseLamp s c).lfn = s.lfn
    ∧ (releaseLamp s c).trc = s.trc ∧ (releaseLamp s c).lio.inputs = s.lio.inputs
    ∧ (releaseLamp s c).lio.outputs = s.lio.outputs ∧ (releaseLamp s c).lio.drives = s.lio.drives
    ∧ (releaseLamp s c).flt = s.flt ∧ (releaseLamp s c).lnk = s.lnk := by
  unfold releaseLamp
  simp

@[simp] theorem releaseAll_frame (s : State) :
    (releaseAll s).pending = s.pending ∧ (releaseAll s).powered = s.powered ∧ (releaseAll s).ptb = s.ptb
    ∧ (releaseAll s).rss = s.rss ∧ (releaseAll s).din = s.din ∧ (releaseAll s).exu = s.exu ∧ (releaseAll s).wou = s.wou
    ∧ (releaseAll s).dry = s.dry ∧ (releaseAll s).lfn = s.lfn ∧ (releaseAll s).trc = s.trc
    ∧ (releaseAll s).lio.inputs = s.lio.inputs ∧ (releaseAll s).lio.outputs = s.lio.outputs ∧ (releaseAll s).flt = s.flt
    ∧ (releaseAll s).lnk = s.lnk := by
  unfold releaseAll
  simp

@[simp] theorem releaseLine_frame (s : State) :
    (releaseLine s).pending = s.pending ∧ (releaseLine s).powered = s.powered ∧ (releaseLine s).ptb.queue = s.ptb.queue
    ∧ (releaseLine s).ptb.lastUnmatched = s.ptb.lastUnmatched ∧ (releaseLine s).rss = s.rss
    ∧ (releaseLine s).dry.clock = s.dry.clock ∧ (releaseLine s).lfn.plate = s.lfn.plate
    ∧ (releaseLine s).trc.level = s.trc.level ∧ (releaseLine s).trc.handoff = s.trc.handoff
    ∧ (releaseLine s).lio.inputs = s.lio.inputs ∧ (releaseLine s).lnk.parser = s.lnk.parser
    ∧ (releaseLine s).lnk.inService = s.lnk.inService ∧ (releaseLine s).lnk.rx = s.lnk.rx
    ∧ (releaseLine s).lnk.tx = s.lnk.tx ∧ (releaseLine s).lnk.watchdog = s.lnk.watchdog := by
  unfold releaseLine
  (repeat' split) <;> simp

@[simp] theorem washoutGoesOn_frame (s : State) :
    (washoutGoesOn s).pending = s.pending ∧ (washoutGoesOn s).powered = s.powered
    ∧ (washoutGoesOn s).ptb.queue = s.ptb.queue ∧ (washoutGoesOn s).ptb.lastUnmatched = s.ptb.lastUnmatched
    ∧ (washoutGoesOn s).rss = s.rss ∧ (washoutGoesOn s).din = s.din ∧ (washoutGoesOn s).dry.clock = s.dry.clock
    ∧ (washoutGoesOn s).lfn = s.lfn ∧ (washoutGoesOn s).trc = s.trc ∧ (washoutGoesOn s).lio.inputs = s.lio.inputs
    ∧ (washoutGoesOn s).lio.lamps = s.lio.lamps ∧ (washoutGoesOn s).flt.lineState = s.flt.lineState
    ∧ (washoutGoesOn s).flt.cause = s.flt.cause ∧ (washoutGoesOn s).flt.masks = s.flt.masks
    ∧ (washoutGoesOn s).lnk.parser = s.lnk.parser ∧ (washoutGoesOn s).lnk.inService = s.lnk.inService
    ∧ (washoutGoesOn s).lnk.rx = s.lnk.rx ∧ (washoutGoesOn s).lnk.tx = s.lnk.tx
    ∧ (washoutGoesOn s).lnk.watchdog = s.lnk.watchdog := by
  unfold washoutGoesOn
  simp

@[simp] theorem handoffGoesOn_frame (s : State) :
    (handoffGoesOn s).pending = s.pending ∧ (handoffGoesOn s).powered = s.powered ∧ (handoffGoesOn s).ptb = s.ptb
    ∧ (handoffGoesOn s).rss = s.rss ∧ (handoffGoesOn s).din = s.din ∧ (handoffGoesOn s).exu = s.exu
    ∧ (handoffGoesOn s).wou = s.wou ∧ (handoffGoesOn s).dry = s.dry ∧ (handoffGoesOn s).lfn = s.lfn
    ∧ (handoffGoesOn s).trc.elevator = s.trc.elevator ∧ (handoffGoesOn s).trc.level = s.trc.level
    ∧ (handoffGoesOn s).trc.request = s.trc.request ∧ (handoffGoesOn s).trc.table = s.trc.table
    ∧ (handoffGoesOn s).lio.inputs = s.lio.inputs ∧ (handoffGoesOn s).lio.lamps = s.lio.lamps
    ∧ (handoffGoesOn s).flt = s.flt ∧ (handoffGoesOn s).lnk = s.lnk := by
  unfold handoffGoesOn
  (repeat' split) <;> simp

@[simp] theorem ownersHearRelease_frame (s : State) :
    (ownersHearRelease s).pending = s.pending ∧ (ownersHearRelease s).powered = s.powered
    ∧ (ownersHearRelease s).ptb.queue = s.ptb.queue ∧ (ownersHearRelease s).ptb.lastUnmatched = s.ptb.lastUnmatched
    ∧ (ownersHearRelease s).rss = s.rss ∧ (ownersHearRelease s).din = s.din
    ∧ (ownersHearRelease s).dry.clock = s.dry.clock ∧ (ownersHearRelease s).lfn.state = s.lfn.state
    ∧ (ownersHearRelease s).lfn.plate = s.lfn.plate ∧ (ownersHearRelease s).lio.inputs = s.lio.inputs
    ∧ (ownersHearRelease s).lio.lamps = s.lio.lamps ∧ (ownersHearRelease s).flt.lineState = s.flt.lineState
    ∧ (ownersHearRelease s).flt.cause = s.flt.cause ∧ (ownersHearRelease s).flt.masks = s.flt.masks
    ∧ (ownersHearRelease s).lnk.parser = s.lnk.parser ∧ (ownersHearRelease s).lnk.inService = s.lnk.inService
    ∧ (ownersHearRelease s).lnk.rx = s.lnk.rx ∧ (ownersHearRelease s).lnk.tx = s.lnk.tx
    ∧ (ownersHearRelease s).lnk.watchdog = s.lnk.watchdog := by
  unfold ownersHearRelease
  simp

@[simp] theorem inhibitOff_frame (s : State) :
    (inhibitOff s).pending = s.pending ∧ (inhibitOff s).powered = s.powered ∧ (inhibitOff s).ptb.queue = s.ptb.queue
    ∧ (inhibitOff s).ptb.lastUnmatched = s.ptb.lastUnmatched ∧ (inhibitOff s).rss = s.rss
    ∧ (inhibitOff s).dry.clock = s.dry.clock ∧ (inhibitOff s).lfn.plate = s.lfn.plate
    ∧ (inhibitOff s).lio.inputs = s.lio.inputs ∧ (inhibitOff s).lnk.parser = s.lnk.parser
    ∧ (inhibitOff s).lnk.inService = s.lnk.inService ∧ (inhibitOff s).lnk.rx = s.lnk.rx ∧ (inhibitOff s).lnk.tx = s.lnk.tx
    ∧ (inhibitOff s).lnk.watchdog = s.lnk.watchdog := by
  unfold inhibitOff
  simp

@[simp] theorem lidOpened_frame (s : State) :
    (lidOpened s).pending = s.pending ∧ (lidOpened s).powered = s.powered ∧ (lidOpened s).ptb.queue = s.ptb.queue
    ∧ (lidOpened s).ptb.lastUnmatched = s.ptb.lastUnmatched ∧ (lidOpened s).rss.working = s.rss.working
    ∧ (lidOpened s).rss.unsaved = s.rss.unsaved ∧ (lidOpened s).rss.bankA = s.rss.bankA
    ∧ (lidOpened s).rss.bankB = s.rss.bankB ∧ (lidOpened s).rss.save = s.rss.save ∧ (lidOpened s).wou = s.wou
    ∧ (lidOpened s).dry = s.dry ∧ (lidOpened s).lfn.state = s.lfn.state ∧ (lidOpened s).lfn.plate = s.lfn.plate
    ∧ (lidOpened s).trc = s.trc ∧ (lidOpened s).lio.inputs = s.lio.inputs ∧ (lidOpened s).flt.lineState = s.flt.lineState
    ∧ (lidOpened s).flt.cause = s.flt.cause ∧ (lidOpened s).flt.masks = s.flt.masks
    ∧ (lidOpened s).lnk.parser = s.lnk.parser ∧ (lidOpened s).lnk.inService = s.lnk.inService
    ∧ (lidOpened s).lnk.rx = s.lnk.rx ∧ (lidOpened s).lnk.tx = s.lnk.tx ∧ (lidOpened s).lnk.watchdog = s.lnk.watchdog := by
  unfold lidOpened
  simp

@[simp] theorem deliver_frame (fn : InputFunction) (active : Bool) (s : State) :
    (deliver fn active s).pending = s.pending ∧ (deliver fn active s).powered = s.powered
    ∧ (deliver fn active s).ptb.queue = s.ptb.queue ∧ (deliver fn active s).ptb.lastUnmatched = s.ptb.lastUnmatched
    ∧ (deliver fn active s).rss.working = s.rss.working ∧ (deliver fn active s).rss.unsaved = s.rss.unsaved
    ∧ (deliver fn active s).rss.bankA = s.rss.bankA ∧ (deliver fn active s).rss.bankB = s.rss.bankB
    ∧ (deliver fn active s).rss.save = s.rss.save ∧ (deliver fn active s).dry.clock = s.dry.clock
    ∧ (deliver fn active s).lio.inputs = s.lio.inputs ∧ (deliver fn active s).lnk.parser = s.lnk.parser
    ∧ (deliver fn active s).lnk.inService = s.lnk.inService ∧ (deliver fn active s).lnk.rx = s.lnk.rx
    ∧ (deliver fn active s).lnk.tx = s.lnk.tx ∧ (deliver fn active s).lnk.watchdog = s.lnk.watchdog := by
  unfold deliver
  (repeat' split) <;> simp

@[simp] theorem flipInput_frame (i : Fin 12) (s : State) :
    (flipInput i s).pending = s.pending ∧ (flipInput i s).powered = s.powered ∧ (flipInput i s).ptb.queue = s.ptb.queue
    ∧ (flipInput i s).ptb.lastUnmatched = s.ptb.lastUnmatched ∧ (flipInput i s).rss.working = s.rss.working
    ∧ (flipInput i s).rss.unsaved = s.rss.unsaved ∧ (flipInput i s).rss.bankA = s.rss.bankA
    ∧ (flipInput i s).rss.bankB = s.rss.bankB ∧ (flipInput i s).rss.save = s.rss.save
    ∧ (flipInput i s).dry.clock = s.dry.clock ∧ (flipInput i s).lnk.parser = s.lnk.parser
    ∧ (flipInput i s).lnk.inService = s.lnk.inService ∧ (flipInput i s).lnk.rx = s.lnk.rx
    ∧ (flipInput i s).lnk.tx = s.lnk.tx ∧ (flipInput i s).lnk.watchdog = s.lnk.watchdog := by
  unfold flipInput
  dsimp only
  simp

@[simp] theorem rawChange_frame (i : Fin 12) (energised : Bool) (s : State) :
    (rawChange i energised s).pending = s.pending ∧ (rawChange i energised s).powered = s.powered
    ∧ (rawChange i energised s).ptb.queue = s.ptb.queue
    ∧ (rawChange i energised s).ptb.lastUnmatched = s.ptb.lastUnmatched
    ∧ (rawChange i energised s).rss.working = s.rss.working ∧ (rawChange i energised s).rss.unsaved = s.rss.unsaved
    ∧ (rawChange i energised s).rss.bankA = s.rss.bankA ∧ (rawChange i energised s).rss.bankB = s.rss.bankB
    ∧ (rawChange i energised s).rss.save = s.rss.save ∧ (rawChange i energised s).dry.clock = s.dry.clock
    ∧ (rawChange i energised s).lnk.parser = s.lnk.parser ∧ (rawChange i energised s).lnk.inService = s.lnk.inService
    ∧ (rawChange i energised s).lnk.rx = s.lnk.rx ∧ (rawChange i energised s).lnk.tx = s.lnk.tx
    ∧ (rawChange i energised s).lnk.watchdog = s.lnk.watchdog := by
  unfold rawChange
  dsimp only
  (repeat' split) <;> simp

@[simp] theorem debounceEnd_frame (i : Fin 12) (s : State) :
    (debounceEnd i s).pending = s.pending ∧ (debounceEnd i s).powered = s.powered
    ∧ (debounceEnd i s).ptb.queue = s.ptb.queue ∧ (debounceEnd i s).ptb.lastUnmatched = s.ptb.lastUnmatched
    ∧ (debounceEnd i s).rss.working = s.rss.working ∧ (debounceEnd i s).rss.unsaved = s.rss.unsaved
    ∧ (debounceEnd i s).rss.bankA = s.rss.bankA ∧ (debounceEnd i s).rss.bankB = s.rss.bankB
    ∧ (debounceEnd i s).rss.save = s.rss.save ∧ (debounceEnd i s).dry.clock = s.dry.clock
    ∧ (debounceEnd i s).lnk.parser = s.lnk.parser ∧ (debounceEnd i s).lnk.inService = s.lnk.inService
    ∧ (debounceEnd i s).lnk.rx = s.lnk.rx ∧ (debounceEnd i s).lnk.tx = s.lnk.tx
    ∧ (debounceEnd i s).lnk.watchdog = s.lnk.watchdog := by
  unfold debounceEnd
  (repeat' split) <;> simp

@[simp] theorem resettleInput_frame (before s : State) (i : Fin 12) :
    (resettleInput before s i).pending = s.pending ∧ (resettleInput before s i).powered = s.powered
    ∧ (resettleInput before s i).ptb = s.ptb ∧ (resettleInput before s i).rss = s.rss
    ∧ (resettleInput before s i).din = s.din ∧ (resettleInput before s i).exu = s.exu
    ∧ (resettleInput before s i).wou = s.wou ∧ (resettleInput before s i).dry = s.dry
    ∧ (resettleInput before s i).lfn = s.lfn ∧ (resettleInput before s i).trc = s.trc
    ∧ (resettleInput before s i).lio.outputs = s.lio.outputs ∧ (resettleInput before s i).lio.drives = s.lio.drives
    ∧ (resettleInput before s i).lio.lamps = s.lio.lamps ∧ (resettleInput before s i).flt = s.flt
    ∧ (resettleInput before s i).lnk = s.lnk := by
  unfold resettleInput
  dsimp only
  (repeat' split) <;> simp

@[simp] theorem applyInputs_frame (lines : List (Fin 12)) (before s : State) :
    (applyInputs lines before s).pending = s.pending ∧ (applyInputs lines before s).powered = s.powered
    ∧ (applyInputs lines before s).ptb.queue = s.ptb.queue
    ∧ (applyInputs lines before s).ptb.lastUnmatched = s.ptb.lastUnmatched
    ∧ (applyInputs lines before s).rss.working = s.rss.working ∧ (applyInputs lines before s).rss.unsaved = s.rss.unsaved
    ∧ (applyInputs lines before s).rss.bankA = s.rss.bankA ∧ (applyInputs lines before s).rss.bankB = s.rss.bankB
    ∧ (applyInputs lines before s).rss.save = s.rss.save ∧ (applyInputs lines before s).dry.clock = s.dry.clock
    ∧ (applyInputs lines before s).lnk.parser = s.lnk.parser
    ∧ (applyInputs lines before s).lnk.inService = s.lnk.inService ∧ (applyInputs lines before s).lnk.rx = s.lnk.rx
    ∧ (applyInputs lines before s).lnk.tx = s.lnk.tx ∧ (applyInputs lines before s).lnk.watchdog = s.lnk.watchdog := by
  unfold applyInputs
  dsimp only
  simp

@[simp] theorem resettleOutput_frame (s : State) (i : Fin 8) :
    (resettleOutput s i).pending = s.pending ∧ (resettleOutput s i).powered = s.powered ∧ (resettleOutput s i).ptb = s.ptb
    ∧ (resettleOutput s i).rss = s.rss ∧ (resettleOutput s i).din = s.din ∧ (resettleOutput s i).exu = s.exu
    ∧ (resettleOutput s i).wou = s.wou ∧ (resettleOutput s i).dry = s.dry ∧ (resettleOutput s i).lfn = s.lfn
    ∧ (resettleOutput s i).trc = s.trc ∧ (resettleOutput s i).lio.inputs = s.lio.inputs
    ∧ (resettleOutput s i).lio.drives = s.lio.drives ∧ (resettleOutput s i).lio.lamps = s.lio.lamps
    ∧ (resettleOutput s i).flt = s.flt ∧ (resettleOutput s i).lnk = s.lnk := by
  unfold resettleOutput
  (repeat' split) <;> simp

@[simp] theorem holdEnd_frame (i : Fin 8) (s : State) :
    (holdEnd i s).pending = s.pending ∧ (holdEnd i s).powered = s.powered ∧ (holdEnd i s).ptb = s.ptb
    ∧ (holdEnd i s).rss = s.rss ∧ (holdEnd i s).din = s.din ∧ (holdEnd i s).exu = s.exu ∧ (holdEnd i s).wou = s.wou
    ∧ (holdEnd i s).dry = s.dry ∧ (holdEnd i s).lfn = s.lfn ∧ (holdEnd i s).trc = s.trc
    ∧ (holdEnd i s).lio.inputs = s.lio.inputs ∧ (holdEnd i s).lio.drives = s.lio.drives
    ∧ (holdEnd i s).lio.lamps = s.lio.lamps ∧ (holdEnd i s).flt = s.flt ∧ (holdEnd i s).lnk = s.lnk := by
  unfold holdEnd
  (repeat' split) <;> simp

@[simp] theorem ownerHearsFault_frame (c : DriveChannel) (s : State) :
    (ownerHearsFault c s).pending = s.pending ∧ (ownerHearsFault c s).powered = s.powered
    ∧ (ownerHearsFault c s).ptb.queue = s.ptb.queue ∧ (ownerHearsFault c s).ptb.lastUnmatched = s.ptb.lastUnmatched
    ∧ (ownerHearsFault c s).rss.working = s.rss.working ∧ (ownerHearsFault c s).rss.unsaved = s.rss.unsaved
    ∧ (ownerHearsFault c s).rss.bankA = s.rss.bankA ∧ (ownerHearsFault c s).rss.bankB = s.rss.bankB
    ∧ (ownerHearsFault c s).rss.save = s.rss.save ∧ (ownerHearsFault c s).din = s.din
    ∧ (ownerHearsFault c s).dry.clock = s.dry.clock ∧ (ownerHearsFault c s).lfn.state = s.lfn.state
    ∧ (ownerHearsFault c s).lfn.plate = s.lfn.plate ∧ (ownerHearsFault c s).lio.inputs = s.lio.inputs
    ∧ (ownerHearsFault c s).lio.lamps = s.lio.lamps ∧ (ownerHearsFault c s).flt.lineState = s.flt.lineState
    ∧ (ownerHearsFault c s).flt.cause = s.flt.cause ∧ (ownerHearsFault c s).flt.masks = s.flt.masks
    ∧ (ownerHearsFault c s).lnk.parser = s.lnk.parser ∧ (ownerHearsFault c s).lnk.inService = s.lnk.inService
    ∧ (ownerHearsFault c s).lnk.rx = s.lnk.rx ∧ (ownerHearsFault c s).lnk.tx = s.lnk.tx
    ∧ (ownerHearsFault c s).lnk.watchdog = s.lnk.watchdog := by
  unfold ownerHearsFault
  (repeat' split) <;> simp

@[simp] theorem trip_frame (c : DriveChannel) (s : State) :
    (trip c s).pending = s.pending ∧ (trip c s).powered = s.powered ∧ (trip c s).ptb.queue = s.ptb.queue
    ∧ (trip c s).ptb.lastUnmatched = s.ptb.lastUnmatched ∧ (trip c s).rss.working = s.rss.working
    ∧ (trip c s).rss.unsaved = s.rss.unsaved ∧ (trip c s).rss.bankA = s.rss.bankA ∧ (trip c s).rss.bankB = s.rss.bankB
    ∧ (trip c s).rss.save = s.rss.save ∧ (trip c s).din = s.din ∧ (trip c s).dry.clock = s.dry.clock
    ∧ (trip c s).lfn.state = s.lfn.state ∧ (trip c s).lfn.plate = s.lfn.plate ∧ (trip c s).lio.inputs = s.lio.inputs
    ∧ (trip c s).lio.lamps = s.lio.lamps ∧ (trip c s).flt.lineState = s.flt.lineState ∧ (trip c s).flt.cause = s.flt.cause
    ∧ (trip c s).flt.masks = s.flt.masks ∧ (trip c s).lnk.parser = s.lnk.parser
    ∧ (trip c s).lnk.inService = s.lnk.inService ∧ (trip c s).lnk.rx = s.lnk.rx ∧ (trip c s).lnk.tx = s.lnk.tx
    ∧ (trip c s).lnk.watchdog = s.lnk.watchdog := by
  unfold trip
  (repeat' split) <;> simp

@[simp] theorem ownerHearsRelease_frame (c : DriveChannel) (s : State) :
    (ownerHearsRelease c s).pending = s.pending ∧ (ownerHearsRelease c s).powered = s.powered
    ∧ (ownerHearsRelease c s).ptb.queue = s.ptb.queue ∧ (ownerHearsRelease c s).ptb.lastUnmatched = s.ptb.lastUnmatched
    ∧ (ownerHearsRelease c s).rss = s.rss ∧ (ownerHearsRelease c s).din = s.din
    ∧ (ownerHearsRelease c s).dry.clock = s.dry.clock ∧ (ownerHearsRelease c s).lfn.state = s.lfn.state
    ∧ (ownerHearsRelease c s).lfn.plate = s.lfn.plate ∧ (ownerHearsRelease c s).lio.inputs = s.lio.inputs
    ∧ (ownerHearsRelease c s).lio.lamps = s.lio.lamps ∧ (ownerHearsRelease c s).flt.lineState = s.flt.lineState
    ∧ (ownerHearsRelease c s).flt.cause = s.flt.cause ∧ (ownerHearsRelease c s).flt.masks = s.flt.masks
    ∧ (ownerHearsRelease c s).lnk.parser = s.lnk.parser ∧ (ownerHearsRelease c s).lnk.inService = s.lnk.inService
    ∧ (ownerHearsRelease c s).lnk.rx = s.lnk.rx ∧ (ownerHearsRelease c s).lnk.tx = s.lnk.tx
    ∧ (ownerHearsRelease c s).lnk.watchdog = s.lnk.watchdog := by
  unfold ownerHearsRelease
  (repeat' split) <;> simp

@[simp] theorem releaseLatch_frame (c : DriveChannel) (s : State) :
    (releaseLatch c s).pending = s.pending ∧ (releaseLatch c s).powered = s.powered
    ∧ (releaseLatch c s).ptb.queue = s.ptb.queue ∧ (releaseLatch c s).ptb.lastUnmatched = s.ptb.lastUnmatched
    ∧ (releaseLatch c s).rss = s.rss ∧ (releaseLatch c s).din = s.din ∧ (releaseLatch c s).dry.clock = s.dry.clock
    ∧ (releaseLatch c s).lfn.state = s.lfn.state ∧ (releaseLatch c s).lfn.plate = s.lfn.plate
    ∧ (releaseLatch c s).lio.inputs = s.lio.inputs ∧ (releaseLatch c s).lio.lamps = s.lio.lamps
    ∧ (releaseLatch c s).flt.lineState = s.flt.lineState ∧ (releaseLatch c s).flt.cause = s.flt.cause
    ∧ (releaseLatch c s).flt.masks = s.flt.masks ∧ (releaseLatch c s).lnk.parser = s.lnk.parser
    ∧ (releaseLatch c s).lnk.inService = s.lnk.inService ∧ (releaseLatch c s).lnk.rx = s.lnk.rx
    ∧ (releaseLatch c s).lnk.tx = s.lnk.tx ∧ (releaseLatch c s).lnk.watchdog = s.lnk.watchdog := by
  unfold releaseLatch
  (repeat' split) <;> simp

/-! ### FaultMonitor -/

@[simp] theorem reportReservations_frame (s : State) :
    (reportReservations s).pending = s.pending ∧ (reportReservations s).powered = s.powered
    ∧ (reportReservations s).ptb.queue = s.ptb.queue ∧ (reportReservations s).ptb.lastUnmatched = s.ptb.lastUnmatched
    ∧ (reportReservations s).rss = s.rss ∧ (reportReservations s).din = s.din
    ∧ (reportReservations s).dry.clock = s.dry.clock ∧ (reportReservations s).lfn = s.lfn
    ∧ (reportReservations s).trc = s.trc ∧ (reportReservations s).lio.inputs = s.lio.inputs
    ∧ (reportReservations s).lio.lamps = s.lio.lamps ∧ (reportReservations s).flt.lineState = s.flt.lineState
    ∧ (reportReservations s).flt.cause = s.flt.cause ∧ (reportReservations s).flt.masks = s.flt.masks
    ∧ (reportReservations s).lnk.parser = s.lnk.parser ∧ (reportReservations s).lnk.inService = s.lnk.inService
    ∧ (reportReservations s).lnk.rx = s.lnk.rx ∧ (reportReservations s).lnk.tx = s.lnk.tx
    ∧ (reportReservations s).lnk.watchdog = s.lnk.watchdog := by
  unfold reportReservations
  (repeat' split) <;> simp

/-- A block's test leaves what its part leaves. -/
theorem whenCleared_keeps {γ : Type} (g : State → γ) (m : FlagSet) (l : List Flag) (act : State → State) (s : State)
    (h : ∀ t, g (act t) = g t) : g (whenCleared m l act s) = g s := by
  unfold whenCleared
  split
  · exact h s
  · rfl

section Tests
variable (m : FlagSet) (l : List Flag) (act : State → State) (s : State)
@[simp] theorem whenCleared_pending (h : ∀ t, (act t).pending = t.pending) : (whenCleared m l act s).pending = s.pending :=
  whenCleared_keeps (fun t => t.pending) m l act s h
@[simp] theorem whenCleared_powered (h : ∀ t, (act t).powered = t.powered) : (whenCleared m l act s).powered = s.powered :=
  whenCleared_keeps (fun t => t.powered) m l act s h
@[simp] theorem whenCleared_ptb_queue (h : ∀ t, (act t).ptb.queue = t.ptb.queue) : (whenCleared m l act s).ptb.queue = s.ptb.queue :=
  whenCleared_keeps (fun t => t.ptb.queue) m l act s h
@[simp] theorem whenCleared_ptb_lastUnmatched (h : ∀ t, (act t).ptb.lastUnmatched = t.ptb.lastUnmatched) : (whenCleared m l act s).ptb.lastUnmatched = s.ptb.lastUnmatched :=
  whenCleared_keeps (fun t => t.ptb.lastUnmatched) m l act s h
@[simp] theorem whenCleared_rss (h : ∀ t, (act t).rss = t.rss) : (whenCleared m l act s).rss = s.rss :=
  whenCleared_keeps (fun t => t.rss) m l act s h
@[simp] theorem whenCleared_dry_clock (h : ∀ t, (act t).dry.clock = t.dry.clock) : (whenCleared m l act s).dry.clock = s.dry.clock :=
  whenCleared_keeps (fun t => t.dry.clock) m l act s h
@[simp] theorem whenCleared_lfn_plate (h : ∀ t, (act t).lfn.plate = t.lfn.plate) : (whenCleared m l act s).lfn.plate = s.lfn.plate :=
  whenCleared_keeps (fun t => t.lfn.plate) m l act s h
@[simp] theorem whenCleared_lio_inputs (h : ∀ t, (act t).lio.inputs = t.lio.inputs) : (whenCleared m l act s).lio.inputs = s.lio.inputs :=
  whenCleared_keeps (fun t => t.lio.inputs) m l act s h
@[simp] theorem whenCleared_flt_lineState (h : ∀ t, (act t).flt.lineState = t.flt.lineState) : (whenCleared m l act s).flt.lineState = s.flt.lineState :=
  whenCleared_keeps (fun t => t.flt.lineState) m l act s h
@[simp] theorem whenCleared_flt_cause (h : ∀ t, (act t).flt.cause = t.flt.cause) : (whenCleared m l act s).flt.cause = s.flt.cause :=
  whenCleared_keeps (fun t => t.flt.cause) m l act s h
@[simp] theorem whenCleared_flt_masks (h : ∀ t, (act t).flt.masks = t.flt.masks) : (whenCleared m l act s).flt.masks = s.flt.masks :=
  whenCleared_keeps (fun t => t.flt.masks) m l act s h
@[simp] theorem whenCleared_lnk_parser (h : ∀ t, (act t).lnk.parser = t.lnk.parser) : (whenCleared m l act s).lnk.parser = s.lnk.parser :=
  whenCleared_keeps (fun t => t.lnk.parser) m l act s h
@[simp] theorem whenCleared_lnk_inService (h : ∀ t, (act t).lnk.inService = t.lnk.inService) : (whenCleared m l act s).lnk.inService = s.lnk.inService :=
  whenCleared_keeps (fun t => t.lnk.inService) m l act s h
@[simp] theorem whenCleared_lnk_rx (h : ∀ t, (act t).lnk.rx = t.lnk.rx) : (whenCleared m l act s).lnk.rx = s.lnk.rx :=
  whenCleared_keeps (fun t => t.lnk.rx) m l act s h
@[simp] theorem whenCleared_lnk_tx (h : ∀ t, (act t).lnk.tx = t.lnk.tx) : (whenCleared m l act s).lnk.tx = s.lnk.tx :=
  whenCleared_keeps (fun t => t.lnk.tx) m l act s h
@[simp] theorem whenCleared_lnk_watchdog (h : ∀ t, (act t).lnk.watchdog = t.lnk.watchdog) : (whenCleared m l act s).lnk.watchdog = s.lnk.watchdog :=
  whenCleared_keeps (fun t => t.lnk.watchdog) m l act s h
end Tests

@[simp] theorem reportCleared_frame (m : FlagSet) (s : State) :
    (reportCleared m s).pending = s.pending ∧ (reportCleared m s).powered = s.powered
    ∧ (reportCleared m s).ptb.queue = s.ptb.queue ∧ (reportCleared m s).ptb.lastUnmatched = s.ptb.lastUnmatched
    ∧ (reportCleared m s).rss = s.rss ∧ (reportCleared m s).dry.clock = s.dry.clock
    ∧ (reportCleared m s).lfn.plate = s.lfn.plate ∧ (reportCleared m s).lio.inputs = s.lio.inputs
    ∧ (reportCleared m s).flt.lineState = s.flt.lineState ∧ (reportCleared m s).flt.cause = s.flt.cause
    ∧ (reportCleared m s).flt.masks = s.flt.masks ∧ (reportCleared m s).lnk.parser = s.lnk.parser
    ∧ (reportCleared m s).lnk.inService = s.lnk.inService ∧ (reportCleared m s).lnk.rx = s.lnk.rx
    ∧ (reportCleared m s).lnk.tx = s.lnk.tx ∧ (reportCleared m s).lnk.watchdog = s.lnk.watchdog := by
  simp [reportCleared]

@[simp] theorem putFlags_frame (m : FlagSet) (s : State) :
    (putFlags m s).pending = s.pending ∧ (putFlags m s).powered = s.powered ∧ (putFlags m s).ptb = s.ptb
    ∧ (putFlags m s).rss = s.rss ∧ (putFlags m s).din = s.din ∧ (putFlags m s).exu = s.exu ∧ (putFlags m s).wou = s.wou
    ∧ (putFlags m s).dry = s.dry ∧ (putFlags m s).lfn = s.lfn ∧ (putFlags m s).trc = s.trc
    ∧ (putFlags m s).lio.inputs = s.lio.inputs ∧ (putFlags m s).lio.drives = s.lio.drives
    ∧ (putFlags m s).lio.lamps = s.lio.lamps ∧ (putFlags m s).lnk = s.lnk
    ∧ (putFlags m s).flt.lineState = s.flt.lineState
    ∧ (putFlags m s).flt.cause = s.flt.cause
    ∧ (putFlags m s).flt.masks = s.flt.masks := by
  unfold putFlags
  simp

/-- Releasing the named latches leaves what the release of each leaves. -/
theorem releaseNamed_keeps {γ : Type} (g : State → γ) (named : FlagSet) (s : State)
    (h : ∀ c t, g (releaseLatch c t) = g t) : g (releaseNamed named s) = g s := by
  unfold releaseNamed
  refine foldl_keeps g _ (fun t c => ?_) _ _
  split
  · exact h c t
  · rfl

@[simp] theorem releaseNamed_frame (named : FlagSet) (s : State) :
    (releaseNamed named s).pending = s.pending ∧ (releaseNamed named s).powered = s.powered
    ∧ (releaseNamed named s).ptb.queue = s.ptb.queue ∧ (releaseNamed named s).ptb.lastUnmatched = s.ptb.lastUnmatched
    ∧ (releaseNamed named s).rss = s.rss ∧ (releaseNamed named s).din = s.din
    ∧ (releaseNamed named s).dry.clock = s.dry.clock ∧ (releaseNamed named s).lfn.state = s.lfn.state
    ∧ (releaseNamed named s).lfn.plate = s.lfn.plate ∧ (releaseNamed named s).lio.inputs = s.lio.inputs
    ∧ (releaseNamed named s).lio.lamps = s.lio.lamps ∧ (releaseNamed named s).flt.lineState = s.flt.lineState
    ∧ (releaseNamed named s).flt.cause = s.flt.cause ∧ (releaseNamed named s).flt.masks = s.flt.masks
    ∧ (releaseNamed named s).lnk.parser = s.lnk.parser ∧ (releaseNamed named s).lnk.inService = s.lnk.inService
    ∧ (releaseNamed named s).lnk.rx = s.lnk.rx ∧ (releaseNamed named s).lnk.tx = s.lnk.tx
    ∧ (releaseNamed named s).lnk.watchdog = s.lnk.watchdog := by
  refine ⟨?_, ?_, ?_, ?_, ?_, ?_, ?_, ?_, ?_, ?_, ?_, ?_, ?_, ?_, ?_, ?_, ?_, ?_, ?_⟩
  · exact releaseNamed_keeps (fun t => t.pending) named s (by simp)
  · exact releaseNamed_keeps (fun t => t.powered) named s (by simp)
  · exact releaseNamed_keeps (fun t => t.ptb.queue) named s (by simp)
  · exact releaseNamed_keeps (fun t => t.ptb.lastUnmatched) named s (by simp)
  · exact releaseNamed_keeps (fun t => t.rss) named s (by simp)
  · exact releaseNamed_keeps (fun t => t.din) named s (by simp)
  · exact releaseNamed_keeps (fun t => t.dry.clock) named s (by simp)
  · exact releaseNamed_keeps (fun t => t.lfn.state) named s (by simp)
  · exact releaseNamed_keeps (fun t => t.lfn.plate) named s (by simp)
  · exact releaseNamed_keeps (fun t => t.lio.inputs) named s (by simp)
  · exact releaseNamed_keeps (fun t => t.lio.lamps) named s (by simp)
  · exact releaseNamed_keeps (fun t => t.flt.lineState) named s (by simp)
  · exact releaseNamed_keeps (fun t => t.flt.cause) named s (by simp)
  · exact releaseNamed_keeps (fun t => t.flt.masks) named s (by simp)
  · exact releaseNamed_keeps (fun t => t.lnk.parser) named s (by simp)
  · exact releaseNamed_keeps (fun t => t.lnk.inService) named s (by simp)
  · exact releaseNamed_keeps (fun t => t.lnk.rx) named s (by simp)
  · exact releaseNamed_keeps (fun t => t.lnk.tx) named s (by simp)
  · exact releaseNamed_keeps (fun t => t.lnk.watchdog) named s (by simp)

@[simp] theorem clearFlags_frame (named : FlagSet) (s : State) :
    (clearFlags named s).pending = s.pending ∧ (clearFlags named s).powered = s.powered ∧ (clearFlags named s).ptb = s.ptb
    ∧ (clearFlags named s).rss = s.rss ∧ (clearFlags named s).din = s.din ∧ (clearFlags named s).exu = s.exu
    ∧ (clearFlags named s).wou = s.wou ∧ (clearFlags named s).dry = s.dry ∧ (clearFlags named s).lfn = s.lfn
    ∧ (clearFlags named s).trc = s.trc ∧ (clearFlags named s).lio.inputs = s.lio.inputs
    ∧ (clearFlags named s).lio.drives = s.lio.drives ∧ (clearFlags named s).lio.lamps = s.lio.lamps
    ∧ (clearFlags named s).flt.lineState = s.flt.lineState ∧ (clearFlags named s).flt.cause = s.flt.cause
    ∧ (clearFlags named s).flt.masks = s.flt.masks ∧ (clearFlags named s).lnk = s.lnk := by
  unfold clearFlags
  simp

@[simp] theorem faultClear_frame (named : FlagSet) (s : State) :
    (faultClear named s).1.pending = s.pending ∧ (faultClear named s).1.powered = s.powered
    ∧ (faultClear named s).1.ptb.queue = s.ptb.queue ∧ (faultClear named s).1.ptb.lastUnmatched = s.ptb.lastUnmatched
    ∧ (faultClear named s).1.rss = s.rss ∧ (faultClear named s).1.dry.clock = s.dry.clock
    ∧ (faultClear named s).1.lfn.plate = s.lfn.plate ∧ (faultClear named s).1.lio.inputs = s.lio.inputs
    ∧ (faultClear named s).1.flt.lineState = s.flt.lineState ∧ (faultClear named s).1.flt.cause = s.flt.cause
    ∧ (faultClear named s).1.flt.masks = s.flt.masks ∧ (faultClear named s).1.lnk.parser = s.lnk.parser
    ∧ (faultClear named s).1.lnk.inService = s.lnk.inService ∧ (faultClear named s).1.lnk.rx = s.lnk.rx
    ∧ (faultClear named s).1.lnk.tx = s.lnk.tx ∧ (faultClear named s).1.lnk.watchdog = s.lnk.watchdog := by
  unfold faultClear
  dsimp only
  simp

@[simp] theorem faultMask_frame (mask unmask : FlagSet) (s : State) :
    (faultMask mask unmask s).pending = s.pending ∧ (faultMask mask unmask s).powered = s.powered
    ∧ (faultMask mask unmask s).ptb = s.ptb ∧ (faultMask mask unmask s).rss = s.rss
    ∧ (faultMask mask unmask s).din = s.din ∧ (faultMask mask unmask s).exu = s.exu
    ∧ (faultMask mask unmask s).wou = s.wou ∧ (faultMask mask unmask s).dry = s.dry
    ∧ (faultMask mask unmask s).lfn = s.lfn ∧ (faultMask mask unmask s).trc = s.trc
    ∧ (faultMask mask unmask s).lio.inputs = s.lio.inputs ∧ (faultMask mask unmask s).lio.drives = s.lio.drives
    ∧ (faultMask mask unmask s).lio.lamps = s.lio.lamps ∧ (faultMask mask unmask s).flt.lineState = s.flt.lineState
    ∧ (faultMask mask unmask s).flt.cause = s.flt.cause ∧ (faultMask mask unmask s).flt.flags = s.flt.flags
    ∧ (faultMask mask unmask s).lnk.parser = s.lnk.parser ∧ (faultMask mask unmask s).lnk.inService = s.lnk.inService
    ∧ (faultMask mask unmask s).lnk.rx = s.lnk.rx ∧ (faultMask mask unmask s).lnk.tx = s.lnk.tx
    ∧ (faultMask mask unmask s).lnk.watchdog = s.lnk.watchdog := by
  unfold faultMask
  dsimp only
  (repeat' split) <;> simp

@[simp] theorem resetTables_frame (s : State) :
    (resetTables s).pending = s.pending ∧ (resetTables s).powered = s.powered ∧ (resetTables s).rss = s.rss
    ∧ (resetTables s).din.lampOn = s.din.lampOn ∧ (resetTables s).exu = s.exu ∧ (resetTables s).wou = s.wou
    ∧ (resetTables s).dry = s.dry ∧ (resetTables s).lfn = s.lfn ∧ (resetTables s).trc = s.trc
    ∧ (resetTables s).lio = s.lio ∧ (resetTables s).flt = s.flt ∧ (resetTables s).lnk.parser = s.lnk.parser
    ∧ (resetTables s).lnk.inService = s.lnk.inService ∧ (resetTables s).lnk.rx = s.lnk.rx
    ∧ (resetTables s).lnk.tx = s.lnk.tx ∧ (resetTables s).lnk.watchdog = s.lnk.watchdog := by
  unfold resetTables
  simp

@[simp] theorem clearAllFlags_frame (s : State) :
    (clearAllFlags s).pending = s.pending ∧ (clearAllFlags s).powered = s.powered ∧ (clearAllFlags s).ptb = s.ptb
    ∧ (clearAllFlags s).rss = s.rss ∧ (clearAllFlags s).din = s.din ∧ (clearAllFlags s).exu = s.exu
    ∧ (clearAllFlags s).wou = s.wou ∧ (clearAllFlags s).dry = s.dry ∧ (clearAllFlags s).lfn = s.lfn
    ∧ (clearAllFlags s).trc = s.trc ∧ (clearAllFlags s).lio.inputs = s.lio.inputs
    ∧ (clearAllFlags s).lio.drives = s.lio.drives ∧ (clearAllFlags s).lio.lamps = s.lio.lamps
    ∧ (clearAllFlags s).lnk = s.lnk
    ∧ (clearAllFlags s).flt.lineState = s.flt.lineState
    ∧ (clearAllFlags s).flt.cause = s.flt.cause
    ∧ (clearAllFlags s).flt.masks = s.flt.masks := by
  unfold clearAllFlags
  simp

@[simp] theorem detectAnew_frame (s : State) :
    (detectAnew s).pending = s.pending ∧ (detectAnew s).powered = s.powered ∧ (detectAnew s).ptb = s.ptb
    ∧ (detectAnew s).rss = s.rss ∧ (detectAnew s).din = s.din ∧ (detectAnew s).exu = s.exu ∧ (detectAnew s).wou = s.wou
    ∧ (detectAnew s).dry = s.dry ∧ (detectAnew s).lfn = s.lfn ∧ (detectAnew s).trc = s.trc
    ∧ (detectAnew s).lio.inputs = s.lio.inputs ∧ (detectAnew s).lio.drives = s.lio.drives
    ∧ (detectAnew s).lio.lamps = s.lio.lamps ∧ (detectAnew s).lnk.parser = s.lnk.parser
    ∧ (detectAnew s).lnk.inService = s.lnk.inService ∧ (detectAnew s).lnk.rx = s.lnk.rx ∧ (detectAnew s).lnk.tx = s.lnk.tx
    ∧ (detectAnew s).lnk.watchdog = s.lnk.watchdog
    ∧ (detectAnew s).flt.lineState = s.flt.lineState
    ∧ (detectAnew s).flt.cause = s.flt.cause
    ∧ (detectAnew s).flt.masks = s.flt.masks := by
  unfold detectAnew
  dsimp only
  (repeat' split) <;> simp

@[simp] theorem resetFlags_frame (s : State) :
    (resetFlags s).pending = s.pending ∧ (resetFlags s).powered = s.powered ∧ (resetFlags s).ptb = s.ptb
    ∧ (resetFlags s).rss = s.rss ∧ (resetFlags s).din = s.din ∧ (resetFlags s).exu = s.exu ∧ (resetFlags s).wou = s.wou
    ∧ (resetFlags s).dry = s.dry ∧ (resetFlags s).lfn = s.lfn ∧ (resetFlags s).trc = s.trc
    ∧ (resetFlags s).lio.inputs = s.lio.inputs ∧ (resetFlags s).lio.drives = s.lio.drives
    ∧ (resetFlags s).lio.lamps = s.lio.lamps ∧ (resetFlags s).flt.lineState = s.flt.lineState
    ∧ (resetFlags s).flt.cause = s.flt.cause ∧ (resetFlags s).flt.masks = s.flt.masks
    ∧ (resetFlags s).lnk.parser = s.lnk.parser ∧ (resetFlags s).lnk.inService = s.lnk.inService
    ∧ (resetFlags s).lnk.rx = s.lnk.rx ∧ (resetFlags s).lnk.tx = s.lnk.tx ∧ (resetFlags s).lnk.watchdog = s.lnk.watchdog := by
  unfold resetFlags
  simp

@[simp] theorem lineReset_frame (s : State) :
    (lineReset s).pending = s.pending ∧ (lineReset s).powered = s.powered ∧ (lineReset s).rss = s.rss
    ∧ (lineReset s).dry.clock = s.dry.clock ∧ (lineReset s).lfn.plate = s.lfn.plate
    ∧ (lineReset s).lio.inputs = s.lio.inputs ∧ (lineReset s).lnk.parser = s.lnk.parser
    ∧ (lineReset s).lnk.inService = s.lnk.inService ∧ (lineReset s).lnk.rx = s.lnk.rx ∧ (lineReset s).lnk.tx = s.lnk.tx
    ∧ (lineReset s).lnk.watchdog = s.lnk.watchdog := by
  unfold lineReset
  dsimp only
  simp

/-! ### Link -/

@[simp] theorem takeNext_frame (s : State) :
    (takeNext s).pending = s.pending ∧ (takeNext s).powered = s.powered ∧ (takeNext s).ptb = s.ptb
    ∧ (takeNext s).rss = s.rss ∧ (takeNext s).din = s.din ∧ (takeNext s).exu = s.exu ∧ (takeNext s).wou = s.wou
    ∧ (takeNext s).dry = s.dry ∧ (takeNext s).lfn = s.lfn ∧ (takeNext s).trc = s.trc ∧ (takeNext s).lio = s.lio
    ∧ (takeNext s).flt = s.flt ∧ (takeNext s).lnk.parser = s.lnk.parser ∧ (takeNext s).lnk.tx = s.lnk.tx
    ∧ (takeNext s).lnk.watchdog = s.lnk.watchdog := by
  unfold takeNext
  (repeat' split) <;> simp

@[simp] theorem offerEntry_frame (e : RxEntry) (s : State) :
    (offerEntry e s).pending = s.pending ∧ (offerEntry e s).powered = s.powered ∧ (offerEntry e s).ptb = s.ptb
    ∧ (offerEntry e s).rss = s.rss ∧ (offerEntry e s).din = s.din ∧ (offerEntry e s).exu = s.exu
    ∧ (offerEntry e s).wou = s.wou ∧ (offerEntry e s).dry = s.dry ∧ (offerEntry e s).lfn = s.lfn
    ∧ (offerEntry e s).trc = s.trc ∧ (offerEntry e s).lio.inputs = s.lio.inputs
    ∧ (offerEntry e s).lio.drives = s.lio.drives ∧ (offerEntry e s).lio.lamps = s.lio.lamps
    ∧ (offerEntry e s).flt.lineState = s.flt.lineState ∧ (offerEntry e s).flt.cause = s.flt.cause
    ∧ (offerEntry e s).flt.masks = s.flt.masks ∧ (offerEntry e s).lnk.parser = s.lnk.parser
    ∧ (offerEntry e s).lnk.tx = s.lnk.tx ∧ (offerEntry e s).lnk.watchdog = s.lnk.watchdog := by
  unfold offerEntry
  (repeat' split) <;> simp

@[simp] theorem startWatchdog_frame (s : State) :
    (startWatchdog s).pending = s.pending ∧ (startWatchdog s).powered = s.powered ∧ (startWatchdog s).ptb = s.ptb
    ∧ (startWatchdog s).rss = s.rss ∧ (startWatchdog s).din = s.din ∧ (startWatchdog s).exu = s.exu
    ∧ (startWatchdog s).wou = s.wou ∧ (startWatchdog s).dry = s.dry ∧ (startWatchdog s).lfn = s.lfn
    ∧ (startWatchdog s).trc = s.trc ∧ (startWatchdog s).lio = s.lio ∧ (startWatchdog s).flt = s.flt
    ∧ (startWatchdog s).lnk.parser = s.lnk.parser
    ∧ (startWatchdog s).lnk.inService = s.lnk.inService
    ∧ (startWatchdog s).lnk.rx = s.lnk.rx
    ∧ (startWatchdog s).lnk.tx = s.lnk.tx := by
  unfold startWatchdog
  (repeat' split) <;> simp

@[simp] theorem restartWatchdog_frame (s : State) :
    (restartWatchdog s).pending = s.pending ∧ (restartWatchdog s).powered = s.powered ∧ (restartWatchdog s).ptb = s.ptb
    ∧ (restartWatchdog s).rss = s.rss ∧ (restartWatchdog s).din = s.din ∧ (restartWatchdog s).exu = s.exu
    ∧ (restartWatchdog s).wou = s.wou ∧ (restartWatchdog s).dry = s.dry ∧ (restartWatchdog s).lfn = s.lfn
    ∧ (restartWatchdog s).trc = s.trc ∧ (restartWatchdog s).lio = s.lio ∧ (restartWatchdog s).flt = s.flt
    ∧ (restartWatchdog s).lnk.parser = s.lnk.parser ∧ (restartWatchdog s).lnk.inService = s.lnk.inService
    ∧ (restartWatchdog s).lnk.rx = s.lnk.rx ∧ (restartWatchdog s).lnk.tx = s.lnk.tx := by
  unfold restartWatchdog
  (repeat' split) <;> simp

@[simp] theorem handOverWatchdog_frame (s : State) :
    (handOverWatchdog s).pending = s.pending ∧ (handOverWatchdog s).powered = s.powered ∧ (handOverWatchdog s).ptb = s.ptb
    ∧ (handOverWatchdog s).rss = s.rss ∧ (handOverWatchdog s).din = s.din ∧ (handOverWatchdog s).exu = s.exu
    ∧ (handOverWatchdog s).wou = s.wou ∧ (handOverWatchdog s).dry = s.dry ∧ (handOverWatchdog s).lfn = s.lfn
    ∧ (handOverWatchdog s).trc = s.trc ∧ (handOverWatchdog s).lio = s.lio ∧ (handOverWatchdog s).flt = s.flt
    ∧ (handOverWatchdog s).lnk.parser = s.lnk.parser
    ∧ (handOverWatchdog s).lnk.inService = s.lnk.inService
    ∧ (handOverWatchdog s).lnk.rx = s.lnk.rx
    ∧ (handOverWatchdog s).lnk.tx = s.lnk.tx := by
  unfold handOverWatchdog
  (repeat' split) <;> simp

@[simp] theorem watchdogEnd_frame (s : State) :
    (watchdogEnd s).pending = s.pending ∧ (watchdogEnd s).powered = s.powered ∧ (watchdogEnd s).ptb.queue = s.ptb.queue
    ∧ (watchdogEnd s).ptb.lastUnmatched = s.ptb.lastUnmatched ∧ (watchdogEnd s).rss = s.rss
    ∧ (watchdogEnd s).dry.clock = s.dry.clock ∧ (watchdogEnd s).lfn.plate = s.lfn.plate
    ∧ (watchdogEnd s).trc.level = s.trc.level ∧ (watchdogEnd s).trc.handoff = s.trc.handoff
    ∧ (watchdogEnd s).lio.inputs = s.lio.inputs := by
  unfold watchdogEnd
  (repeat' split) <;> simp

@[simp] theorem setParser_frame (p : Parser) (s : State) :
    (setParser p s).pending = s.pending ∧ (setParser p s).powered = s.powered ∧ (setParser p s).ptb = s.ptb
    ∧ (setParser p s).rss = s.rss ∧ (setParser p s).din = s.din ∧ (setParser p s).exu = s.exu
    ∧ (setParser p s).wou = s.wou ∧ (setParser p s).dry = s.dry ∧ (setParser p s).lfn = s.lfn
    ∧ (setParser p s).trc = s.trc ∧ (setParser p s).lio = s.lio ∧ (setParser p s).flt = s.flt
    ∧ (setParser p s).lnk.inService = s.lnk.inService ∧ (setParser p s).lnk.rx = s.lnk.rx
    ∧ (setParser p s).lnk.tx = s.lnk.tx ∧ (setParser p s).lnk.watchdog = s.lnk.watchdog := by
  unfold setParser
  simp

@[simp] theorem completeFrame_frame (got : List Byte) (hi lo : Byte) (s : State) :
    (completeFrame got hi lo s).pending = s.pending ∧ (completeFrame got hi lo s).powered = s.powered
    ∧ (completeFrame got hi lo s).ptb = s.ptb ∧ (completeFrame got hi lo s).rss = s.rss
    ∧ (completeFrame got hi lo s).din = s.din ∧ (completeFrame got hi lo s).exu = s.exu
    ∧ (completeFrame got hi lo s).wou = s.wou ∧ (completeFrame got hi lo s).dry = s.dry
    ∧ (completeFrame got hi lo s).lfn = s.lfn ∧ (completeFrame got hi lo s).trc = s.trc
    ∧ (completeFrame got hi lo s).lio.inputs = s.lio.inputs ∧ (completeFrame got hi lo s).lio.drives = s.lio.drives
    ∧ (completeFrame got hi lo s).lio.lamps = s.lio.lamps ∧ (completeFrame got hi lo s).flt.lineState = s.flt.lineState
    ∧ (completeFrame got hi lo s).flt.cause = s.flt.cause ∧ (completeFrame got hi lo s).flt.masks = s.flt.masks
    ∧ (completeFrame got hi lo s).lnk.parser = s.lnk.parser ∧ (completeFrame got hi lo s).lnk.tx = s.lnk.tx := by
  unfold completeFrame
  (repeat' split) <;> simp

@[simp] theorem receiveByte_frame (b : Byte) (s : State) :
    (receiveByte b s).pending = s.pending ∧ (receiveByte b s).powered = s.powered ∧ (receiveByte b s).ptb = s.ptb
    ∧ (receiveByte b s).rss = s.rss ∧ (receiveByte b s).din = s.din ∧ (receiveByte b s).exu = s.exu
    ∧ (receiveByte b s).wou = s.wou ∧ (receiveByte b s).dry = s.dry ∧ (receiveByte b s).lfn = s.lfn
    ∧ (receiveByte b s).trc = s.trc ∧ (receiveByte b s).lio.inputs = s.lio.inputs
    ∧ (receiveByte b s).lio.drives = s.lio.drives ∧ (receiveByte b s).lio.lamps = s.lio.lamps
    ∧ (receiveByte b s).flt.lineState = s.flt.lineState ∧ (receiveByte b s).flt.cause = s.flt.cause
    ∧ (receiveByte b s).flt.masks = s.flt.masks ∧ (receiveByte b s).lnk.tx = s.lnk.tx := by
  unfold receiveByte
  (repeat' split) <;> simp

@[simp] theorem gapTimeout_frame (s : State) :
    (gapTimeout s).pending = s.pending ∧ (gapTimeout s).powered = s.powered ∧ (gapTimeout s).ptb = s.ptb
    ∧ (gapTimeout s).rss = s.rss ∧ (gapTimeout s).din = s.din ∧ (gapTimeout s).exu = s.exu ∧ (gapTimeout s).wou = s.wou
    ∧ (gapTimeout s).dry = s.dry ∧ (gapTimeout s).lfn = s.lfn ∧ (gapTimeout s).trc = s.trc
    ∧ (gapTimeout s).lio.inputs = s.lio.inputs ∧ (gapTimeout s).lio.drives = s.lio.drives
    ∧ (gapTimeout s).lio.lamps = s.lio.lamps ∧ (gapTimeout s).flt.lineState = s.flt.lineState
    ∧ (gapTimeout s).flt.cause = s.flt.cause ∧ (gapTimeout s).flt.masks = s.flt.masks
    ∧ (gapTimeout s).lnk.inService = s.lnk.inService ∧ (gapTimeout s).lnk.rx = s.lnk.rx ∧ (gapTimeout s).lnk.tx = s.lnk.tx
    ∧ (gapTimeout s).lnk.watchdog = s.lnk.watchdog := by
  unfold gapTimeout
  (repeat' split) <;> simp

@[simp] theorem holdEntry_frame (e : RxEntry) (s : State) :
    (holdEntry e s).pending = s.pending ∧ (holdEntry e s).powered = s.powered ∧ (holdEntry e s).ptb = s.ptb
    ∧ (holdEntry e s).rss = s.rss ∧ (holdEntry e s).din = s.din ∧ (holdEntry e s).exu = s.exu
    ∧ (holdEntry e s).wou = s.wou ∧ (holdEntry e s).dry = s.dry ∧ (holdEntry e s).lfn = s.lfn
    ∧ (holdEntry e s).trc = s.trc ∧ (holdEntry e s).lio.inputs = s.lio.inputs ∧ (holdEntry e s).lio.drives = s.lio.drives
    ∧ (holdEntry e s).lio.lamps = s.lio.lamps ∧ (holdEntry e s).flt.lineState = s.flt.lineState
    ∧ (holdEntry e s).flt.cause = s.flt.cause ∧ (holdEntry e s).flt.masks = s.flt.masks
    ∧ (holdEntry e s).lnk.parser = s.lnk.parser ∧ (holdEntry e s).lnk.tx = s.lnk.tx
    ∧ (holdEntry e s).lnk.watchdog = s.lnk.watchdog := by
  unfold holdEntry
  (repeat' split) <;> simp

@[simp] theorem finishEntry_frame (kind tag : Byte) (r : Reply) (s : State) :
    (finishEntry kind tag r s).pending = s.pending ∧ (finishEntry kind tag r s).powered = s.powered
    ∧ (finishEntry kind tag r s).ptb = s.ptb ∧ (finishEntry kind tag r s).rss = s.rss
    ∧ (finishEntry kind tag r s).din = s.din ∧ (finishEntry kind tag r s).exu = s.exu
    ∧ (finishEntry kind tag r s).wou = s.wou ∧ (finishEntry kind tag r s).dry = s.dry
    ∧ (finishEntry kind tag r s).lfn = s.lfn ∧ (finishEntry kind tag r s).trc = s.trc
    ∧ (finishEntry kind tag r s).lio = s.lio ∧ (finishEntry kind tag r s).flt = s.flt
    ∧ (finishEntry kind tag r s).lnk.parser = s.lnk.parser ∧ (finishEntry kind tag r s).lnk.watchdog = s.lnk.watchdog := by
  unfold finishEntry
  simp

@[simp] theorem sendReply_frame (s : State) :
    (sendReply s).pending = s.pending ∧ (sendReply s).powered = s.powered ∧ (sendReply s).ptb = s.ptb
    ∧ (sendReply s).rss = s.rss ∧ (sendReply s).din = s.din ∧ (sendReply s).exu = s.exu ∧ (sendReply s).wou = s.wou
    ∧ (sendReply s).dry = s.dry ∧ (sendReply s).lfn = s.lfn ∧ (sendReply s).trc = s.trc ∧ (sendReply s).lio = s.lio
    ∧ (sendReply s).flt = s.flt ∧ (sendReply s).lnk.parser = s.lnk.parser ∧ (sendReply s).lnk.inService = s.lnk.inService
    ∧ (sendReply s).lnk.rx = s.lnk.rx ∧ (sendReply s).lnk.watchdog = s.lnk.watchdog := by
  unfold sendReply
  (repeat' split) <;> simp

@[simp] theorem chooseFrame_frame (s : State) :
    (chooseFrame s).pending = s.pending ∧ (chooseFrame s).powered = s.powered ∧ (chooseFrame s).ptb = s.ptb
    ∧ (chooseFrame s).rss = s.rss ∧ (chooseFrame s).din = s.din ∧ (chooseFrame s).exu = s.exu
    ∧ (chooseFrame s).wou = s.wou ∧ (chooseFrame s).dry = s.dry ∧ (chooseFrame s).lfn = s.lfn
    ∧ (chooseFrame s).trc = s.trc ∧ (chooseFrame s).lio = s.lio ∧ (chooseFrame s).flt = s.flt := by
  unfold chooseFrame
  dsimp only
  (repeat' split) <;> simp

end Sys2Proof.Machine
end

