-- ==== Sys2Proof/Laws/Effects.lean ====
section
/-! SUPPORT. What the shared operations do: the value each writes, read back, and the readers that depend on one part of the
state only. -/

namespace Sys2Proof.Machine

/-! ### Readers of one part of the state -/

section Readers
variable {s t : State}

theorem plateAt_congr (h : t.ptb.plates = s.ptb.plates) (k : Slot) : plateAt t k = plateAt s k := by simp [plateAt, h]

theorem plateState_congr (h : t.ptb.plates = s.ptb.plates) (k : Slot) : plateState t k = plateState s k := by
  simp [plateState, plateAt_congr h]

theorem channelAt_congr (h : t.din.channels = s.din.channels) (c : LampChannel) : channelAt t c = channelAt s c := by
  simp [channelAt, h]

theorem drawerAt_congr (h : t.dry.drawers = s.dry.drawers) (d : DrawerNo) : drawerAt t d = drawerAt s d := by
  simp [drawerAt, h]

theorem driveState_congr (h : t.lio.drives = s.lio.drives) (c : DriveChannel) : driveState c t = driveState c s := by
  simp [driveState, h]

theorem driveIsOn_congr (h : t.lio.drives = s.lio.drives) (c : DriveChannel) : driveIsOn c t = driveIsOn c s := by
  simp [driveIsOn, driveState_congr h]

theorem driveFaulted_congr (h : t.lio.drives = s.lio.drives) (c : DriveChannel) :
    driveFaulted c t = driveFaulted c s := by simp [driveFaulted, driveState_congr h]

theorem lampLevel_congr (h : t.lio.lamps = s.lio.lamps) (c : LampChannel) : lampLevel c t = lampLevel c s := by
  simp [lampLevel, h]

theorem lampIsOn_congr (h : t.lio.lamps = s.lio.lamps) (c : LampChannel) : lampIsOn c t = lampIsOn c s := by
  simp [lampIsOn, lampLevel_congr h]

theorem inputAt_congr (h : t.lio.inputs = s.lio.inputs) (i : Fin 12) : inputAt t i = inputAt s i := by simp [inputAt, h]

theorem inputActive_congr (hi : t.lio.inputs = s.lio.inputs) (hc : t.rss.working.cfg = s.rss.working.cfg)
    (fn : InputFunction) : inputActive fn t = inputActive fn s := by simp [inputActive, inputCfg, inputAt, hi, hc]

theorem inhibitActive_congr (hi : t.lio.inputs = s.lio.inputs) (hc : t.rss.working.cfg = s.rss.working.cfg) :
    inhibitActive t = inhibitActive s := inputActive_congr hi hc .inhibit

theorem isSet_congr (h : t.flt.flags = s.flt.flags) (f : Flag) : isSet f t = isSet f s := by simp [isSet, h]

end Readers

/-! ### Lines, drawers and channels written and read back -/

theorem inputAt_setInput (i j : Fin 12) (v : InputLine) (s : State) :
    inputAt (setInput i v s) j = if j = i then v else inputAt s j := by
  simp only [inputAt, setInput, modLio, Vector.getElem_set, Fin.ext_iff, eq_comm (a := j.val)]

theorem outputAt_setOutput (i j : Fin 8) (v : OutputLine) (s : State) :
    outputAt (setOutput i v s) j = if j = i then v else outputAt s j := by
  simp only [outputAt, setOutput, modLio, Vector.getElem_set, Fin.ext_iff, eq_comm (a := j.val)]

theorem drawerAt_setDrawer (d e : DrawerNo) (v : Drawer) (s : State) :
    drawerAt (setDrawer d v s) e = if e = d then v else drawerAt s e := by
  simp only [drawerAt, setDrawer, modDry, Vector.getElem_set, Fin.ext_iff, eq_comm (a := e.val)]

theorem channelAt_setChannel (c d : LampChannel) (v : Channel) (s : State) :
    channelAt (setChannel c v s) d = if d = c then v else channelAt s d := by
  simp only [channelAt, setChannel, modDin, PerLamp.get_set]

theorem driveState_setDrive (c d : DriveChannel) (v : Drive) (s : State) :
    driveState d (setDrive c v s) = if d = c then v.state else driveState d s := by
  simp only [driveState, setDrive, modLio, PerDrive.get_set]
  split <;> rfl

theorem lampLevel_setLamp (c d : LampChannel) (v : Lamp) (s : State) :
    lampLevel d (setLamp c v s) = if d = c then v.level else lampLevel d s := by
  simp only [lampLevel, setLamp, modLio, PerLamp.get_set]
  split <;> rfl

/-! ### Drive and lamp requests (R165, R168) -/

theorem driveState_driveOff (c d : DriveChannel) (s : State) :
    driveState d (driveOff c s) = if d = c ∧ driveIsOn c s = true then .off else driveState d s := by
  unfold driveOff driveIsOn
  cases h : driveState c s <;> simp [driveState_setDrive]

theorem driveIsOn_driveOff (c d : DriveChannel) (s : State) :
    driveIsOn d (driveOff c s) = (decide (d ≠ c) && driveIsOn d s) := by
  by_cases h : d = c
  · subst h
    unfold driveIsOn
    rw [driveState_driveOff]
    cases e : driveState d s <;> simp [driveIsOn, e]
  · unfold driveIsOn
    rw [driveState_driveOff]
    simp [h]

theorem driveState_driveOn (c d : DriveChannel) (sp : Setpoint) (s : State) :
    driveState d (driveOn c sp s) =
      if d = c ∧ driveFaulted c s = false ∧ (driveIsOn c s = true ∨ inhibitActive s = false) then .on sp
      else driveState d s := by
  unfold driveOn driveIsOn driveFaulted
  cases h : driveState c s <;> simp [driveState_setDrive]
  by_cases g : inhibitActive s = true <;> simp [g, driveState_setDrive]

theorem driveState_driveSet (c d : DriveChannel) (sp : Setpoint) (s : State) :
    driveState d (driveSet c sp s) = if d = c ∧ driveIsOn c s = true then .on sp else driveState d s := by
  unfold driveSet driveIsOn
  cases h : driveState c s <;> simp [driveState_setDrive]

theorem lampLevel_refreshOutputs (c : LampChannel) (s : State) : lampLevel c (refreshOutputs s) = lampLevel c s :=
  lampLevel_congr (by simp) c

theorem lampLevel_lampOff (c d : LampChannel) (s : State) :
    lampLevel d (lampOff c s) = if d = c then none else lampLevel d s := by
  unfold lampOff lampIsOn
  by_cases h : (lampLevel c s).isSome = true
  · simp only [h, if_true, lampLevel_refreshOutputs, lampLevel_setLamp]
  · by_cases e : d = c
    · subst e
      have h2 : lampLevel d s = none := by simpa using h
      simp [h2]
    · simp [h, e]

theorem lampLevel_lampOn (c d : LampChannel) (level : Nat) (s : State) :
    lampLevel d (lampOn c level s) =
      if d = c ∧ (lampIsOn c s = true ∨ lampRefused c s = false) then some level else lampLevel d s := by
  unfold lampOn
  by_cases h : lampIsOn c s = true ∨ lampRefused c s = false
  · have h2 : (lampIsOn c s || !lampRefused c s) = true := by simpa using h
    simp only [h2, if_true, lampLevel_refreshOutputs, lampLevel_setLamp, h, and_true]
  · have h2 : (lampIsOn c s || !lampRefused c s) = false := by
      simp only [not_or, Bool.not_eq_true] at h
      simp [h]
    simp [h2, h]

theorem lampLevel_lampSet (c d : LampChannel) (level : Nat) (s : State) :
    lampLevel d (lampSet c level s) = if d = c ∧ lampIsOn c s = true then some level else lampLevel d s := by
  unfold lampSet
  split <;> simp_all [lampLevel_setLamp]

/-! ### Flags and attention items (R180, R191) -/

theorem Flag.place_lt (f : Flag) : f.place < 35 := by
  cases f <;> first | decide | (rename_i c; cases c <;> decide)

theorem allFlags_complete (f : Flag) : f ∈ allFlags := by
  cases f <;> first | decide | (rename_i c; cases c <;> decide)

theorem Flag.place_inj {f g : Flag} (h : f.place = g.place) : f = g := by
  have key : ∀ a ∈ allFlags, ∀ b ∈ allFlags, a.place = b.place → a = b := by decide
  exact key f (allFlags_complete f) g (allFlags_complete g) h

theorem flagHas_flagBit (f g : Flag) : flagHas (flagBit f) g = decide (g = f) := by
  simp only [flagHas, flagBit, BitVec.getLsbD_twoPow, Flag.place_lt, decide_true, Bool.true_and]
  by_cases h : g = f
  · simp [h]
  · have h2 : ¬ f.place = g.place := fun e => h (Flag.place_inj e).symm
    simp [h, h2]

theorem flagHas_or (a b : FlagSet) (f : Flag) : flagHas (a ||| b) f = (flagHas a f || flagHas b f) := by
  simp [flagHas]

theorem flagHas_and (a b : FlagSet) (f : Flag) : flagHas (a &&& b) f = (flagHas a f && flagHas b f) := by
  simp [flagHas]

theorem flagHas_not (a : FlagSet) (f : Flag) : flagHas (~~~a) f = !flagHas a f := by
  simp [flagHas, Flag.place_lt]

theorem setFlag_flags (f : Flag) (s : State) : (setFlag f s).flt.flags = s.flt.flags ||| flagBit f := by
  unfold setFlag
  split
  · rename_i h
    apply BitVec.eq_of_getLsbD_eq
    intro i hi
    by_cases e : i = f.place
    · subst e
      have h2 : s.flt.flags.getLsbD f.place = true := h
      simp [h2]
    · simp [flagBit, BitVec.getLsbD_twoPow, Ne.symm e]
  · dsimp only
    split <;> simp

theorem clearFlag_flags (f : Flag) (s : State) : (clearFlag f s).flt.flags = s.flt.flags &&& ~~~flagBit f := by
  simp [clearFlag]

theorem putFlags_flags (m : FlagSet) (s : State) : (putFlags m s).flt.flags = m := by simp [putFlags]

/-- A set made of the flags of a list holds exactly those flags. -/
theorem flagHas_flagSetOf (l : List Flag) (f : Flag) : flagHas (flagSetOf l) f = decide (f ∈ l) := by
  have key : ∀ (l : List Flag) (m : FlagSet),
      flagHas (l.foldl (fun m g => m ||| flagBit g) m) f = (flagHas m f || decide (f ∈ l)) := by
    intro l
    induction l with
    | nil => intro m; simp
    | cons g l ih => intro m; simp [ih, flagHas_or, flagHas_flagBit, Bool.or_assoc]
  simpa [flagSetOf, flagHas] using key l 0#35

/-- Detection finds exactly the flags whose condition is present (R180). -/
theorem flagHas_detected (s : State) (f : Flag) : flagHas (detected s) f = conditionPresent s f := by
  simp [detected, flagHas_flagSetOf, allFlags_complete]

/-- R183 steps 2 and 3: a flag that is not named stands, a named one stands exactly when its condition is present. -/
theorem isSet_clearFlags (named : FlagSet) (s : State) (f : Flag) :
    isSet f (clearFlags named s) = (isSet f s && (!flagHas named f || conditionPresent s f)) := by
  simp only [isSet, clearFlags, putFlags_flags, flagHas_or, flagHas_and, flagHas_not, flagHas_detected]
  cases flagHas s.flt.flags f <;> cases flagHas named f <;> rfl

theorem AttnItem.place_lt (a : AttnItem) : a.place < 6 := by cases a <;> decide

theorem AttnItem.place_inj {a b : AttnItem} (h : a.place = b.place) : a = b := by
  cases a <;> cases b <;> first | rfl | exact absurd h (by decide)

theorem attnHas_or (m n : AttnSet) (a : AttnItem) : attnHas (m ||| n) a = (attnHas m a || attnHas n a) := by
  simp [attnHas]

theorem attnHas_attnBit (a b : AttnItem) : attnHas (attnBit a) b = decide (b = a) := by
  cases a <;> cases b <;> decide

theorem raiseAttn_pending (a : AttnItem) (s : State) :
    (raiseAttn a s).lnk.attnPending = s.lnk.attnPending ||| attnBit a := by
  unfold raiseAttn
  split
  · rename_i h
    apply BitVec.eq_of_getLsbD_eq
    intro i hi
    by_cases e : i = a.place
    · subst e
      have h2 : s.lnk.attnPending.getLsbD a.place = true := h
      simp [h2]
    · simp [attnBit, BitVec.getLsbD_twoPow, Ne.symm e]
  · simp

/-! ### Records (R6, R8 to R10) -/

theorem appendNotice_bounded {n : Notice} {r : PlateRecord} (h : r.notices.length ≤ 8 ∧ r.notices.Nodup) :
    (appendNotice n r).notices.length ≤ 8 ∧ (appendNotice n r).notices.Nodup := by
  unfold appendNotice
  split
  · exact h
  · split
    · rename_i hn hl
      refine ⟨by simpa [Config.noticeLimit] using hl, ?_⟩
      rw [List.nodup_append]
      refine ⟨h.2, by simp, fun a ha b hb => ?_⟩
      rintro rfl
      exact hn (by simpa using List.mem_singleton.mp hb ▸ ha)
    · exact h

theorem plateAt_modPlate (j k : Slot) (f : PlateRecord → PlateRecord) (s : State) :
    plateAt (modPlate k f s) j = if j = k then (plateAt s k).map f else plateAt s j := by
  unfold modPlate
  split
  · rename_i h
    split
    · rename_i e
      simp [e, h]
    · rfl
  · rename_i r h
    simp [plateAt_setPlate, h]

theorem plateAt_movePlate (j k : Slot) (src dst : PlateState) (f : PlateRecord → PlateRecord) (s : State) :
    plateAt (movePlate k src dst f s) j =
      if j = k then (plateAt s k).map (fun r => if r.state = src then { f r with state := dst } else r)
      else plateAt s j := by
  unfold movePlate
  split
  · rename_i h
    split
    · rename_i e
      simp [e, h]
    · rfl
  · rename_i r h
    split
    · rename_i hs
      simp [plateAt_setPlate, h, hs]
    · rename_i hs
      split
      · rename_i e
        simp [e, h, hs]
      · rfl

theorem plateAt_raiseAttn (a : AttnItem) (s : State) (k : Slot) : plateAt (raiseAttn a s) k = plateAt s k :=
  plateAt_congr (by simp) k

theorem plateAt_setFlag (f : Flag) (s : State) (k : Slot) : plateAt (setFlag f s) k = plateAt s k :=
  plateAt_congr (by simp) k

theorem plateAt_holdPlate (j k : Slot) (at_ : Station) (reason : HoldReason) (s : State) :
    plateAt (holdPlate k at_ reason s) j =
      if j = k then (plateAt s k).map (fun r => if r.state.holdable then
        appendNotice reason.notice { r with state := .held, held := some (at_, reason) } else r)
      else plateAt s j := by
  unfold holdPlate
  split
  · rename_i h
    split
    · rename_i e
      simp [e, h]
    · rfl
  · rename_i r h
    split
    · rename_i hs
      simp [plateAt_raiseAttn, plateAt_setPlate, h, hs]
    · rename_i hs
      split
      · rename_i e
        simp [e, h, hs]
      · rfl

/-! ### Service of entries (R187, R188) -/

theorem entryReady_eq (e : RxEntry) (s : State) :
    entryReady e s = true ↔ s.flt.lineState ≠ .init ∧ s.rss.save = none ∧ (s.lnk.inService = none ∨ s.lnk.inService = some e) := by
  simp [entryReady, and_assoc]

theorem serveEntry_ready {e : RxEntry} {act : State → State} {s : State} (h : entryReady e s = true) :
    serveEntry e act s = act (modLnk (fun l => { l with inService := some e }) s) := by simp [serveEntry, h]

/-- The reply joins the transmit queue and the head entry that waits is taken into service. -/
theorem finishEntry_lnk {s : State} (h : s.flt.lineState ≠ .init) (kind tag : Byte) (r : Reply) :
    finishEntry kind tag r s =
      { s with lnk := { s.lnk with tx := s.lnk.tx ++ [{ kind := kind, tag := tag, body := r.status.code :: r.fields }]
                                   inService := s.lnk.rx.head?
                                   rx := s.lnk.rx.tail } } := by
  unfold finishEntry takeNext
  simp only [modLnk_flt, h, if_false]
  cases hr : s.lnk.rx <;> simp [modLnk, hr]

/-! ### The watchdog (R190) and the delivery of a changed input line (R159) -/

theorem restartWatchdog_eq (s : State) : restartWatchdog s =
    modLnk (heardLink s.rss.working.cfg.watchdog) s := by
  unfold restartWatchdog startWatchdog heardLink modLnk
  by_cases h : s.lnk.handed = true <;> simp [h]

/-- The hand-over makes the group handed over; with a frame heard before, it is that frame's arrival now. -/
theorem handOverWatchdog_eq (s : State) : handOverWatchdog s =
    modLnk (fun l => (if l.heard then heardLink s.rss.working.cfg.watchdog else id) { l with handed := true, heard := false })
      s := by
  unfold handOverWatchdog startWatchdog heardLink modLnk
  by_cases h : s.lnk.heard = true <;> simp [h]

theorem flipInput_eq (i : Fin 12) (s : State) :
    flipInput i s = deliver (inputCfg s i).function (!(inputAt s i).active) (flipped i s) := rfl

/-- The end of the debounce that changes line `i` is the delivery of that change. -/
theorem debounceEnd_changes {i : Fin 12} {fn : InputFunction} {active : Bool} {s : State} (h : Changes i fn active s) :
    debounceEnd i s = deliver fn active (flipped i s) := by
  simp [debounceEnd, Option.isSome_iff_ne_none, h.timed, flipInput_eq, h.carries, h.before]

end Sys2Proof.Machine
end

