-- ==== Sys2Proof/Laws/FramesRequests.lean ====
section
/-! SUPPORT. What each request's own part leaves as it is. -/

namespace Sys2Proof.Machine

/-! ### LineRequests -/

@[simp] theorem actLineHold_frame (s : State) :
    (actLineHold s).1.pending = s.pending ∧ (actLineHold s).1.powered = s.powered
    ∧ (actLineHold s).1.ptb.queue = s.ptb.queue ∧ (actLineHold s).1.ptb.lastUnmatched = s.ptb.lastUnmatched
    ∧ (actLineHold s).1.rss = s.rss ∧ (actLineHold s).1.dry.clock = s.dry.clock
    ∧ (actLineHold s).1.lfn.plate = s.lfn.plate ∧ (actLineHold s).1.trc.level = s.trc.level
    ∧ (actLineHold s).1.trc.handoff = s.trc.handoff ∧ (actLineHold s).1.lio.inputs = s.lio.inputs
    ∧ (actLineHold s).1.lnk.parser = s.lnk.parser ∧ (actLineHold s).1.lnk.inService = s.lnk.inService
    ∧ (actLineHold s).1.lnk.rx = s.lnk.rx ∧ (actLineHold s).1.lnk.tx = s.lnk.tx
    ∧ (actLineHold s).1.lnk.watchdog = s.lnk.watchdog := by
  unfold actLineHold
  simp

@[simp] theorem actLineResume_frame (s : State) :
    (actLineResume s).1.pending = s.pending ∧ (actLineResume s).1.powered = s.powered
    ∧ (actLineResume s).1.ptb.queue = s.ptb.queue ∧ (actLineResume s).1.ptb.lastUnmatched = s.ptb.lastUnmatched
    ∧ (actLineResume s).1.rss = s.rss ∧ (actLineResume s).1.dry.clock = s.dry.clock
    ∧ (actLineResume s).1.lfn.plate = s.lfn.plate ∧ (actLineResume s).1.trc.level = s.trc.level
    ∧ (actLineResume s).1.trc.handoff = s.trc.handoff ∧ (actLineResume s).1.lio.inputs = s.lio.inputs
    ∧ (actLineResume s).1.lnk.parser = s.lnk.parser ∧ (actLineResume s).1.lnk.inService = s.lnk.inService
    ∧ (actLineResume s).1.lnk.rx = s.lnk.rx ∧ (actLineResume s).1.lnk.tx = s.lnk.tx
    ∧ (actLineResume s).1.lnk.watchdog = s.lnk.watchdog := by
  unfold actLineResume
  (repeat' split) <;> simp

@[simp] theorem actLineReset_frame (s : State) :
    (actLineReset s).1.pending = s.pending ∧ (actLineReset s).1.powered = s.powered ∧ (actLineReset s).1.rss = s.rss
    ∧ (actLineReset s).1.dry.clock = s.dry.clock ∧ (actLineReset s).1.lfn.plate = s.lfn.plate
    ∧ (actLineReset s).1.lio.inputs = s.lio.inputs ∧ (actLineReset s).1.lnk.parser = s.lnk.parser
    ∧ (actLineReset s).1.lnk.inService = s.lnk.inService ∧ (actLineReset s).1.lnk.rx = s.lnk.rx
    ∧ (actLineReset s).1.lnk.tx = s.lnk.tx ∧ (actLineReset s).1.lnk.watchdog = s.lnk.watchdog := by
  unfold actLineReset
  (repeat' split) <;> simp

@[simp] theorem actFaultClear_frame (body : List Byte) (s : State) :
    (actFaultClear body s).1.pending = s.pending ∧ (actFaultClear body s).1.powered = s.powered
    ∧ (actFaultClear body s).1.ptb.queue = s.ptb.queue ∧ (actFaultClear body s).1.ptb.lastUnmatched = s.ptb.lastUnmatched
    ∧ (actFaultClear body s).1.rss = s.rss ∧ (actFaultClear body s).1.dry.clock = s.dry.clock
    ∧ (actFaultClear body s).1.lfn.plate = s.lfn.plate ∧ (actFaultClear body s).1.lio.inputs = s.lio.inputs
    ∧ (actFaultClear body s).1.flt.lineState = s.flt.lineState ∧ (actFaultClear body s).1.flt.cause = s.flt.cause
    ∧ (actFaultClear body s).1.flt.masks = s.flt.masks ∧ (actFaultClear body s).1.lnk.parser = s.lnk.parser
    ∧ (actFaultClear body s).1.lnk.inService = s.lnk.inService ∧ (actFaultClear body s).1.lnk.rx = s.lnk.rx
    ∧ (actFaultClear body s).1.lnk.tx = s.lnk.tx ∧ (actFaultClear body s).1.lnk.watchdog = s.lnk.watchdog := by
  unfold actFaultClear
  (repeat' split) <;> simp

@[simp] theorem actFaultMask_frame (body : List Byte) (s : State) :
    (actFaultMask body s).1.pending = s.pending ∧ (actFaultMask body s).1.powered = s.powered
    ∧ (actFaultMask body s).1.ptb = s.ptb ∧ (actFaultMask body s).1.rss = s.rss ∧ (actFaultMask body s).1.din = s.din
    ∧ (actFaultMask body s).1.exu = s.exu ∧ (actFaultMask body s).1.wou = s.wou ∧ (actFaultMask body s).1.dry = s.dry
    ∧ (actFaultMask body s).1.lfn = s.lfn ∧ (actFaultMask body s).1.trc = s.trc
    ∧ (actFaultMask body s).1.lio.inputs = s.lio.inputs ∧ (actFaultMask body s).1.lio.drives = s.lio.drives
    ∧ (actFaultMask body s).1.lio.lamps = s.lio.lamps ∧ (actFaultMask body s).1.flt.lineState = s.flt.lineState
    ∧ (actFaultMask body s).1.flt.cause = s.flt.cause ∧ (actFaultMask body s).1.flt.flags = s.flt.flags
    ∧ (actFaultMask body s).1.lnk.parser = s.lnk.parser ∧ (actFaultMask body s).1.lnk.inService = s.lnk.inService
    ∧ (actFaultMask body s).1.lnk.rx = s.lnk.rx ∧ (actFaultMask body s).1.lnk.tx = s.lnk.tx
    ∧ (actFaultMask body s).1.lnk.watchdog = s.lnk.watchdog := by
  unfold actFaultMask
  (repeat' split) <;> simp

@[simp] theorem actTraceRead_frame (body : List Byte) (s : State) :
    (actTraceRead body s).1.pending = s.pending ∧ (actTraceRead body s).1.powered = s.powered
    ∧ (actTraceRead body s).1.ptb = s.ptb ∧ (actTraceRead body s).1.rss = s.rss
    ∧ (actTraceRead body s).1.din.channels = s.din.channels ∧ (actTraceRead body s).1.din.lampOn = s.din.lampOn
    ∧ (actTraceRead body s).1.exu = s.exu ∧ (actTraceRead body s).1.wou = s.wou ∧ (actTraceRead body s).1.dry = s.dry
    ∧ (actTraceRead body s).1.lfn = s.lfn ∧ (actTraceRead body s).1.trc = s.trc ∧ (actTraceRead body s).1.lio = s.lio
    ∧ (actTraceRead body s).1.flt = s.flt ∧ (actTraceRead body s).1.lnk = s.lnk := by
  unfold actTraceRead
  (repeat' split) <;> simp

@[simp] theorem actTraceClear_frame (s : State) :
    (actTraceClear s).1.pending = s.pending ∧ (actTraceClear s).1.powered = s.powered ∧ (actTraceClear s).1.ptb = s.ptb
    ∧ (actTraceClear s).1.rss = s.rss ∧ (actTraceClear s).1.din.channels = s.din.channels
    ∧ (actTraceClear s).1.din.lampOn = s.din.lampOn ∧ (actTraceClear s).1.exu = s.exu ∧ (actTraceClear s).1.wou = s.wou
    ∧ (actTraceClear s).1.dry = s.dry ∧ (actTraceClear s).1.lfn = s.lfn ∧ (actTraceClear s).1.trc = s.trc
    ∧ (actTraceClear s).1.lio = s.lio ∧ (actTraceClear s).1.flt = s.flt ∧ (actTraceClear s).1.lnk = s.lnk := by
  unfold actTraceClear
  simp

/-! ### PlateRequests -/

@[simp] theorem addPlate_frame (k : Slot) (r : PlateRecord) (s : State) :
    (addPlate k r s).pending = s.pending ∧ (addPlate k r s).powered = s.powered
    ∧ (addPlate k r s).ptb.lastUnmatched = s.ptb.lastUnmatched ∧ (addPlate k r s).rss = s.rss
    ∧ (addPlate k r s).din = s.din ∧ (addPlate k r s).exu = s.exu ∧ (addPlate k r s).wou = s.wou
    ∧ (addPlate k r s).dry = s.dry ∧ (addPlate k r s).lfn = s.lfn ∧ (addPlate k r s).trc = s.trc
    ∧ (addPlate k r s).lio = s.lio ∧ (addPlate k r s).flt = s.flt ∧ (addPlate k r s).lnk = s.lnk := by
  unfold addPlate
  simp

@[simp] theorem actOrder_frame (o : PlateOrder) (s : State) :
    (actOrder o s).1.pending = s.pending ∧ (actOrder o s).1.powered = s.powered
    ∧ (actOrder o s).1.ptb.lastUnmatched = s.ptb.lastUnmatched ∧ (actOrder o s).1.rss = s.rss
    ∧ (actOrder o s).1.din = s.din ∧ (actOrder o s).1.exu = s.exu ∧ (actOrder o s).1.wou = s.wou
    ∧ (actOrder o s).1.dry = s.dry ∧ (actOrder o s).1.lfn = s.lfn ∧ (actOrder o s).1.trc = s.trc
    ∧ (actOrder o s).1.lio = s.lio ∧ (actOrder o s).1.flt = s.flt ∧ (actOrder o s).1.lnk = s.lnk := by
  unfold actOrder
  dsimp only
  (repeat' split) <;> simp

@[simp] theorem actPlateAdd_frame (body : List Byte) (s : State) :
    (actPlateAdd body s).1.pending = s.pending ∧ (actPlateAdd body s).1.powered = s.powered
    ∧ (actPlateAdd body s).1.ptb.lastUnmatched = s.ptb.lastUnmatched ∧ (actPlateAdd body s).1.rss = s.rss
    ∧ (actPlateAdd body s).1.din = s.din ∧ (actPlateAdd body s).1.exu = s.exu ∧ (actPlateAdd body s).1.wou = s.wou
    ∧ (actPlateAdd body s).1.dry = s.dry ∧ (actPlateAdd body s).1.lfn = s.lfn ∧ (actPlateAdd body s).1.trc = s.trc
    ∧ (actPlateAdd body s).1.lio = s.lio ∧ (actPlateAdd body s).1.flt = s.flt ∧ (actPlateAdd body s).1.lnk = s.lnk := by
  unfold actPlateAdd
  (repeat' split) <;> simp

/-- A request on a plate leaves what its part leaves. -/
theorem withPlate_keeps {γ : Type} (g : State → γ) (sel : Option Selector) (act : Slot → PlateRecord → State → State × Reply)
    (s : State) (h : ∀ k r t, g (act k r t).1 = g t) : g (withPlate sel act s).1 = g s := by
  unfold withPlate
  (repeat' split) <;> first
    | rfl
    | exact h _ _ _

theorem onPlate_keeps {γ : Type} (g : State → γ) (body : List Byte) (act : Slot → PlateRecord → State → State × Reply)
    (s : State) (h : ∀ k r t, g (act k r t).1 = g t) : g (onPlate body act s).1 = g s := by
  unfold onPlate
  split
  · exact withPlate_keeps g _ act s h
  · rfl

@[simp] theorem readPlate_frame (k : Slot) (r : PlateRecord) (s : State) :
    (readPlate k r s).1.pending = s.pending ∧ (readPlate k r s).1.powered = s.powered ∧ (readPlate k r s).1.ptb = s.ptb
    ∧ (readPlate k r s).1.rss = s.rss ∧ (readPlate k r s).1.din = s.din ∧ (readPlate k r s).1.exu = s.exu
    ∧ (readPlate k r s).1.wou = s.wou ∧ (readPlate k r s).1.dry = s.dry ∧ (readPlate k r s).1.lfn = s.lfn
    ∧ (readPlate k r s).1.trc = s.trc ∧ (readPlate k r s).1.lio = s.lio ∧ (readPlate k r s).1.flt = s.flt
    ∧ (readPlate k r s).1.lnk = s.lnk := by
  unfold readPlate
  simp

@[simp] theorem cancelPlate_frame (k : Slot) (r : PlateRecord) (s : State) :
    (cancelPlate k r s).1.pending = s.pending ∧ (cancelPlate k r s).1.powered = s.powered
    ∧ (cancelPlate k r s).1.ptb.lastUnmatched = s.ptb.lastUnmatched ∧ (cancelPlate k r s).1.rss = s.rss
    ∧ (cancelPlate k r s).1.din = s.din ∧ (cancelPlate k r s).1.exu = s.exu ∧ (cancelPlate k r s).1.wou = s.wou
    ∧ (cancelPlate k r s).1.dry = s.dry ∧ (cancelPlate k r s).1.lfn = s.lfn ∧ (cancelPlate k r s).1.trc = s.trc
    ∧ (cancelPlate k r s).1.lio = s.lio ∧ (cancelPlate k r s).1.flt = s.flt
    ∧ (cancelPlate k r s).1.lnk.parser = s.lnk.parser ∧ (cancelPlate k r s).1.lnk.inService = s.lnk.inService
    ∧ (cancelPlate k r s).1.lnk.rx = s.lnk.rx ∧ (cancelPlate k r s).1.lnk.tx = s.lnk.tx
    ∧ (cancelPlate k r s).1.lnk.watchdog = s.lnk.watchdog := by
  unfold cancelPlate
  (repeat' split) <;> simp

@[simp] theorem retirePlate_frame (k : Slot) (r : PlateRecord) (s : State) :
    (retirePlate k r s).1.pending = s.pending ∧ (retirePlate k r s).1.powered = s.powered
    ∧ (retirePlate k r s).1.ptb.queue = s.ptb.queue ∧ (retirePlate k r s).1.ptb.lastUnmatched = s.ptb.lastUnmatched
    ∧ (retirePlate k r s).1.rss = s.rss ∧ (retirePlate k r s).1.din = s.din ∧ (retirePlate k r s).1.exu = s.exu
    ∧ (retirePlate k r s).1.wou = s.wou ∧ (retirePlate k r s).1.dry = s.dry ∧ (retirePlate k r s).1.lfn = s.lfn
    ∧ (retirePlate k r s).1.trc = s.trc ∧ (retirePlate k r s).1.lio = s.lio ∧ (retirePlate k r s).1.flt = s.flt
    ∧ (retirePlate k r s).1.lnk = s.lnk := by
  unfold retirePlate
  (repeat' split) <;> simp

@[simp] theorem movePlateToHead_frame (k : Slot) (r : PlateRecord) (s : State) :
    (movePlateToHead k r s).1.pending = s.pending ∧ (movePlateToHead k r s).1.powered = s.powered
    ∧ (movePlateToHead k r s).1.ptb.plates = s.ptb.plates
    ∧ (movePlateToHead k r s).1.ptb.lastUnmatched = s.ptb.lastUnmatched ∧ (movePlateToHead k r s).1.rss = s.rss
    ∧ (movePlateToHead k r s).1.din = s.din ∧ (movePlateToHead k r s).1.exu = s.exu
    ∧ (movePlateToHead k r s).1.wou = s.wou ∧ (movePlateToHead k r s).1.dry = s.dry
    ∧ (movePlateToHead k r s).1.lfn = s.lfn ∧ (movePlateToHead k r s).1.trc = s.trc
    ∧ (movePlateToHead k r s).1.lio = s.lio ∧ (movePlateToHead k r s).1.flt = s.flt
    ∧ (movePlateToHead k r s).1.lnk = s.lnk := by
  unfold movePlateToHead
  (repeat' split) <;> simp

@[simp] theorem ejectPlate_frame (k : Slot) (r : PlateRecord) (s : State) :
    (ejectPlate k r s).1.pending = s.pending ∧ (ejectPlate k r s).1.powered = s.powered
    ∧ (ejectPlate k r s).1.ptb.queue = s.ptb.queue ∧ (ejectPlate k r s).1.ptb.lastUnmatched = s.ptb.lastUnmatched
    ∧ (ejectPlate k r s).1.rss.working = s.rss.working ∧ (ejectPlate k r s).1.rss.unsaved = s.rss.unsaved
    ∧ (ejectPlate k r s).1.rss.bankA = s.rss.bankA ∧ (ejectPlate k r s).1.rss.bankB = s.rss.bankB
    ∧ (ejectPlate k r s).1.rss.save = s.rss.save ∧ (ejectPlate k r s).1.wou = s.wou ∧ (ejectPlate k r s).1.dry = s.dry
    ∧ (ejectPlate k r s).1.trc.level = s.trc.level ∧ (ejectPlate k r s).1.trc.handoff = s.trc.handoff
    ∧ (ejectPlate k r s).1.lio.inputs = s.lio.inputs ∧ (ejectPlate k r s).1.flt.lineState = s.flt.lineState
    ∧ (ejectPlate k r s).1.flt.cause = s.flt.cause ∧ (ejectPlate k r s).1.flt.masks = s.flt.masks
    ∧ (ejectPlate k r s).1.lnk.parser = s.lnk.parser ∧ (ejectPlate k r s).1.lnk.inService = s.lnk.inService
    ∧ (ejectPlate k r s).1.lnk.rx = s.lnk.rx ∧ (ejectPlate k r s).1.lnk.tx = s.lnk.tx
    ∧ (ejectPlate k r s).1.lnk.watchdog = s.lnk.watchdog := by
  unfold ejectPlate
  (repeat' split) <;> simp

@[simp] theorem unhold_frame (k : Slot) (dst : PlateState) (s : State) :
    (unhold k dst s).pending = s.pending ∧ (unhold k dst s).powered = s.powered ∧ (unhold k dst s).ptb.queue = s.ptb.queue
    ∧ (unhold k dst s).ptb.lastUnmatched = s.ptb.lastUnmatched ∧ (unhold k dst s).rss = s.rss
    ∧ (unhold k dst s).din = s.din ∧ (unhold k dst s).exu = s.exu ∧ (unhold k dst s).wou = s.wou
    ∧ (unhold k dst s).dry = s.dry ∧ (unhold k dst s).lfn = s.lfn ∧ (unhold k dst s).trc = s.trc
    ∧ (unhold k dst s).lio = s.lio ∧ (unhold k dst s).flt = s.flt ∧ (unhold k dst s).lnk = s.lnk := by
  unfold unhold
  simp

@[simp] theorem resumePlate_frame (extension : Nat) (k : Slot) (r : PlateRecord) (s : State) :
    (resumePlate extension k r s).1.pending = s.pending ∧ (resumePlate extension k r s).1.powered = s.powered
    ∧ (resumePlate extension k r s).1.ptb.queue = s.ptb.queue
    ∧ (resumePlate extension k r s).1.ptb.lastUnmatched = s.ptb.lastUnmatched
    ∧ (resumePlate extension k r s).1.rss = s.rss ∧ (resumePlate extension k r s).1.wou = s.wou
    ∧ (resumePlate extension k r s).1.dry = s.dry ∧ (resumePlate extension k r s).1.trc.elevator = s.trc.elevator
    ∧ (resumePlate extension k r s).1.trc.level = s.trc.level
    ∧ (resumePlate extension k r s).1.trc.request = s.trc.request
    ∧ (resumePlate extension k r s).1.trc.table = s.trc.table
    ∧ (resumePlate extension k r s).1.trc.handoff = s.trc.handoff
    ∧ (resumePlate extension k r s).1.lio.inputs = s.lio.inputs ∧ (resumePlate extension k r s).1.flt = s.flt
    ∧ (resumePlate extension k r s).1.lnk.parser = s.lnk.parser
    ∧ (resumePlate extension k r s).1.lnk.inService = s.lnk.inService ∧ (resumePlate extension k r s).1.lnk.rx = s.lnk.rx
    ∧ (resumePlate extension k r s).1.lnk.tx = s.lnk.tx ∧ (resumePlate extension k r s).1.lnk.watchdog = s.lnk.watchdog := by
  unfold resumePlate
  (repeat' split) <;> simp

@[simp] theorem actPlateResume_frame (body : List Byte) (s : State) :
    (actPlateResume body s).1.pending = s.pending ∧ (actPlateResume body s).1.powered = s.powered
    ∧ (actPlateResume body s).1.ptb.queue = s.ptb.queue
    ∧ (actPlateResume body s).1.ptb.lastUnmatched = s.ptb.lastUnmatched ∧ (actPlateResume body s).1.rss = s.rss
    ∧ (actPlateResume body s).1.wou = s.wou ∧ (actPlateResume body s).1.dry = s.dry
    ∧ (actPlateResume body s).1.trc.elevator = s.trc.elevator ∧ (actPlateResume body s).1.trc.level = s.trc.level
    ∧ (actPlateResume body s).1.trc.request = s.trc.request ∧ (actPlateResume body s).1.trc.table = s.trc.table
    ∧ (actPlateResume body s).1.trc.handoff = s.trc.handoff ∧ (actPlateResume body s).1.lio.inputs = s.lio.inputs
    ∧ (actPlateResume body s).1.flt = s.flt ∧ (actPlateResume body s).1.lnk.parser = s.lnk.parser
    ∧ (actPlateResume body s).1.lnk.inService = s.lnk.inService ∧ (actPlateResume body s).1.lnk.rx = s.lnk.rx
    ∧ (actPlateResume body s).1.lnk.tx = s.lnk.tx ∧ (actPlateResume body s).1.lnk.watchdog = s.lnk.watchdog := by
  unfold actPlateResume
  (repeat' split)
  · refine ⟨?_, ?_, ?_, ?_, ?_, ?_, ?_, ?_, ?_, ?_, ?_, ?_, ?_, ?_, ?_, ?_, ?_, ?_, ?_⟩
    · exact withPlate_keeps (fun t => t.pending) _ _ s (by intro k r t; simp)
    · exact withPlate_keeps (fun t => t.powered) _ _ s (by intro k r t; simp)
    · exact withPlate_keeps (fun t => t.ptb.queue) _ _ s (by intro k r t; simp)
    · exact withPlate_keeps (fun t => t.ptb.lastUnmatched) _ _ s (by intro k r t; simp)
    · exact withPlate_keeps (fun t => t.rss) _ _ s (by intro k r t; simp)
    · exact withPlate_keeps (fun t => t.wou) _ _ s (by intro k r t; simp)
    · exact withPlate_keeps (fun t => t.dry) _ _ s (by intro k r t; simp)
    · exact withPlate_keeps (fun t => t.trc.elevator) _ _ s (by intro k r t; simp)
    · exact withPlate_keeps (fun t => t.trc.level) _ _ s (by intro k r t; simp)
    · exact withPlate_keeps (fun t => t.trc.request) _ _ s (by intro k r t; simp)
    · exact withPlate_keeps (fun t => t.trc.table) _ _ s (by intro k r t; simp)
    · exact withPlate_keeps (fun t => t.trc.handoff) _ _ s (by intro k r t; simp)
    · exact withPlate_keeps (fun t => t.lio.inputs) _ _ s (by intro k r t; simp)
    · exact withPlate_keeps (fun t => t.flt) _ _ s (by intro k r t; simp)
    · exact withPlate_keeps (fun t => t.lnk.parser) _ _ s (by intro k r t; simp)
    · exact withPlate_keeps (fun t => t.lnk.inService) _ _ s (by intro k r t; simp)
    · exact withPlate_keeps (fun t => t.lnk.rx) _ _ s (by intro k r t; simp)
    · exact withPlate_keeps (fun t => t.lnk.tx) _ _ s (by intro k r t; simp)
    · exact withPlate_keeps (fun t => t.lnk.watchdog) _ _ s (by intro k r t; simp)
  all_goals simp

@[simp] theorem amendPlate_frame (a : Amendment) (k : Slot) (r : PlateRecord) (s : State) :
    (amendPlate a k r s).1.pending = s.pending ∧ (amendPlate a k r s).1.powered = s.powered
    ∧ (amendPlate a k r s).1.ptb.queue = s.ptb.queue ∧ (amendPlate a k r s).1.ptb.lastUnmatched = s.ptb.lastUnmatched
    ∧ (amendPlate a k r s).1.rss = s.rss ∧ (amendPlate a k r s).1.din = s.din ∧ (amendPlate a k r s).1.exu = s.exu
    ∧ (amendPlate a k r s).1.wou = s.wou ∧ (amendPlate a k r s).1.dry = s.dry ∧ (amendPlate a k r s).1.lfn = s.lfn
    ∧ (amendPlate a k r s).1.trc = s.trc ∧ (amendPlate a k r s).1.lio = s.lio ∧ (amendPlate a k r s).1.flt = s.flt
    ∧ (amendPlate a k r s).1.lnk = s.lnk := by
  unfold amendPlate
  dsimp only
  (repeat' split) <;> simp

@[simp] theorem actPlateAmend_frame (body : List Byte) (s : State) :
    (actPlateAmend body s).1.pending = s.pending ∧ (actPlateAmend body s).1.powered = s.powered
    ∧ (actPlateAmend body s).1.ptb.queue = s.ptb.queue ∧ (actPlateAmend body s).1.ptb.lastUnmatched = s.ptb.lastUnmatched
    ∧ (actPlateAmend body s).1.rss = s.rss ∧ (actPlateAmend body s).1.din = s.din ∧ (actPlateAmend body s).1.exu = s.exu
    ∧ (actPlateAmend body s).1.wou = s.wou ∧ (actPlateAmend body s).1.dry = s.dry ∧ (actPlateAmend body s).1.lfn = s.lfn
    ∧ (actPlateAmend body s).1.trc = s.trc ∧ (actPlateAmend body s).1.lio = s.lio ∧ (actPlateAmend body s).1.flt = s.flt
    ∧ (actPlateAmend body s).1.lnk = s.lnk := by
  unfold actPlateAmend
  (repeat' split)
  · refine ⟨?_, ?_, ?_, ?_, ?_, ?_, ?_, ?_, ?_, ?_, ?_, ?_, ?_, ?_⟩
    · exact withPlate_keeps (fun t => t.pending) _ _ s (by intro k r t; simp)
    · exact withPlate_keeps (fun t => t.powered) _ _ s (by intro k r t; simp)
    · exact withPlate_keeps (fun t => t.ptb.queue) _ _ s (by intro k r t; simp)
    · exact withPlate_keeps (fun t => t.ptb.lastUnmatched) _ _ s (by intro k r t; simp)
    · exact withPlate_keeps (fun t => t.rss) _ _ s (by intro k r t; simp)
    · exact withPlate_keeps (fun t => t.din) _ _ s (by intro k r t; simp)
    · exact withPlate_keeps (fun t => t.exu) _ _ s (by intro k r t; simp)
    · exact withPlate_keeps (fun t => t.wou) _ _ s (by intro k r t; simp)
    · exact withPlate_keeps (fun t => t.dry) _ _ s (by intro k r t; simp)
    · exact withPlate_keeps (fun t => t.lfn) _ _ s (by intro k r t; simp)
    · exact withPlate_keeps (fun t => t.trc) _ _ s (by intro k r t; simp)
    · exact withPlate_keeps (fun t => t.lio) _ _ s (by intro k r t; simp)
    · exact withPlate_keeps (fun t => t.flt) _ _ s (by intro k r t; simp)
    · exact withPlate_keeps (fun t => t.lnk) _ _ s (by intro k r t; simp)
  all_goals simp

/-! ### SettingsRequests -/

@[simp] theorem setRecipe_frame (i : Fin 24) (r : Option Recipe) (s : State) :
    (setRecipe i r s).pending = s.pending ∧ (setRecipe i r s).powered = s.powered ∧ (setRecipe i r s).ptb = s.ptb
    ∧ (setRecipe i r s).rss.bankA = s.rss.bankA ∧ (setRecipe i r s).rss.bankB = s.rss.bankB
    ∧ (setRecipe i r s).rss.save = s.rss.save ∧ (setRecipe i r s).rss.counters = s.rss.counters
    ∧ (setRecipe i r s).din = s.din ∧ (setRecipe i r s).exu = s.exu ∧ (setRecipe i r s).wou = s.wou
    ∧ (setRecipe i r s).dry = s.dry ∧ (setRecipe i r s).lfn = s.lfn ∧ (setRecipe i r s).trc = s.trc
    ∧ (setRecipe i r s).lio = s.lio ∧ (setRecipe i r s).flt = s.flt ∧ (setRecipe i r s).lnk = s.lnk := by
  unfold setRecipe
  simp

@[simp] theorem actRecipeWrite_frame (body : List Byte) (s : State) :
    (actRecipeWrite body s).1.pending = s.pending ∧ (actRecipeWrite body s).1.powered = s.powered
    ∧ (actRecipeWrite body s).1.ptb = s.ptb ∧ (actRecipeWrite body s).1.rss.bankA = s.rss.bankA
    ∧ (actRecipeWrite body s).1.rss.bankB = s.rss.bankB ∧ (actRecipeWrite body s).1.rss.save = s.rss.save
    ∧ (actRecipeWrite body s).1.rss.counters = s.rss.counters ∧ (actRecipeWrite body s).1.din = s.din
    ∧ (actRecipeWrite body s).1.exu = s.exu ∧ (actRecipeWrite body s).1.wou = s.wou
    ∧ (actRecipeWrite body s).1.dry = s.dry ∧ (actRecipeWrite body s).1.lfn = s.lfn
    ∧ (actRecipeWrite body s).1.trc = s.trc ∧ (actRecipeWrite body s).1.lio = s.lio
    ∧ (actRecipeWrite body s).1.flt = s.flt ∧ (actRecipeWrite body s).1.lnk = s.lnk := by
  unfold actRecipeWrite
  dsimp only
  (repeat' split) <;> simp

@[simp] theorem actRecipeRead_frame (body : List Byte) (s : State) :
    (actRecipeRead body s).1.pending = s.pending ∧ (actRecipeRead body s).1.powered = s.powered
    ∧ (actRecipeRead body s).1.ptb = s.ptb ∧ (actRecipeRead body s).1.rss = s.rss ∧ (actRecipeRead body s).1.din = s.din
    ∧ (actRecipeRead body s).1.exu = s.exu ∧ (actRecipeRead body s).1.wou = s.wou ∧ (actRecipeRead body s).1.dry = s.dry
    ∧ (actRecipeRead body s).1.lfn = s.lfn ∧ (actRecipeRead body s).1.trc = s.trc ∧ (actRecipeRead body s).1.lio = s.lio
    ∧ (actRecipeRead body s).1.flt = s.flt ∧ (actRecipeRead body s).1.lnk = s.lnk := by
  unfold actRecipeRead
  (repeat' split) <;> simp

@[simp] theorem actRecipeDelete_frame (body : List Byte) (s : State) :
    (actRecipeDelete body s).1.pending = s.pending ∧ (actRecipeDelete body s).1.powered = s.powered
    ∧ (actRecipeDelete body s).1.ptb = s.ptb ∧ (actRecipeDelete body s).1.rss.bankA = s.rss.bankA
    ∧ (actRecipeDelete body s).1.rss.bankB = s.rss.bankB ∧ (actRecipeDelete body s).1.rss.save = s.rss.save
    ∧ (actRecipeDelete body s).1.rss.counters = s.rss.counters ∧ (actRecipeDelete body s).1.din = s.din
    ∧ (actRecipeDelete body s).1.exu = s.exu ∧ (actRecipeDelete body s).1.wou = s.wou
    ∧ (actRecipeDelete body s).1.dry = s.dry ∧ (actRecipeDelete body s).1.lfn = s.lfn
    ∧ (actRecipeDelete body s).1.trc = s.trc ∧ (actRecipeDelete body s).1.lio = s.lio
    ∧ (actRecipeDelete body s).1.flt = s.flt ∧ (actRecipeDelete body s).1.lnk = s.lnk := by
  unfold actRecipeDelete
  (repeat' split) <;> simp

@[simp] theorem replaceLamp_frame (g : CalGroups) (s : State) (ch : LampChannel) :
    (replaceLamp g s ch).pending = s.pending ∧ (replaceLamp g s ch).powered = s.powered ∧ (replaceLamp g s ch).ptb = s.ptb
    ∧ (replaceLamp g s ch).rss.working = s.rss.working ∧ (replaceLamp g s ch).rss.unsaved = s.rss.unsaved
    ∧ (replaceLamp g s ch).rss.bankA = s.rss.bankA ∧ (replaceLamp g s ch).rss.bankB = s.rss.bankB
    ∧ (replaceLamp g s ch).rss.save = s.rss.save ∧ (replaceLamp g s ch).din.channels = s.din.channels
    ∧ (replaceLamp g s ch).din.trace = s.din.trace ∧ (replaceLamp g s ch).exu = s.exu ∧ (replaceLamp g s ch).wou = s.wou
    ∧ (replaceLamp g s ch).dry = s.dry ∧ (replaceLamp g s ch).lfn = s.lfn ∧ (replaceLamp g s ch).trc = s.trc
    ∧ (replaceLamp g s ch).lio = s.lio ∧ (replaceLamp g s ch).flt = s.flt ∧ (replaceLamp g s ch).lnk = s.lnk := by
  unfold replaceLamp
  (repeat' split) <;> simp

@[simp] theorem handCal_frame (g : CalGroups) (s : State) :
    (handCal g s).pending = s.pending ∧ (handCal g s).powered = s.powered ∧ (handCal g s).ptb.queue = s.ptb.queue
    ∧ (handCal g s).ptb.lastUnmatched = s.ptb.lastUnmatched ∧ (handCal g s).rss = s.rss ∧ (handCal g s).din = s.din
    ∧ (handCal g s).dry.clock = s.dry.clock ∧ (handCal g s).lfn = s.lfn ∧ (handCal g s).trc = s.trc
    ∧ (handCal g s).lio.inputs = s.lio.inputs ∧ (handCal g s).lio.lamps = s.lio.lamps
    ∧ (handCal g s).flt.lineState = s.flt.lineState ∧ (handCal g s).flt.cause = s.flt.cause
    ∧ (handCal g s).flt.masks = s.flt.masks ∧ (handCal g s).lnk.parser = s.lnk.parser
    ∧ (handCal g s).lnk.inService = s.lnk.inService ∧ (handCal g s).lnk.rx = s.lnk.rx ∧ (handCal g s).lnk.tx = s.lnk.tx
    ∧ (handCal g s).lnk.watchdog = s.lnk.watchdog := by
  unfold handCal
  dsimp only
  (repeat' split) <;> simp

@[simp] theorem applyCal_frame (g : CalGroups) (s : State) :
    (applyCal g s).pending = s.pending ∧ (applyCal g s).powered = s.powered ∧ (applyCal g s).ptb.queue = s.ptb.queue
    ∧ (applyCal g s).ptb.lastUnmatched = s.ptb.lastUnmatched ∧ (applyCal g s).din.channels = s.din.channels
    ∧ (applyCal g s).din.trace = s.din.trace ∧ (applyCal g s).dry.clock = s.dry.clock ∧ (applyCal g s).lfn = s.lfn
    ∧ (applyCal g s).trc = s.trc ∧ (applyCal g s).lio.inputs = s.lio.inputs ∧ (applyCal g s).lio.lamps = s.lio.lamps
    ∧ (applyCal g s).flt.lineState = s.flt.lineState ∧ (applyCal g s).flt.cause = s.flt.cause
    ∧ (applyCal g s).flt.masks = s.flt.masks ∧ (applyCal g s).lnk.parser = s.lnk.parser
    ∧ (applyCal g s).lnk.inService = s.lnk.inService ∧ (applyCal g s).lnk.rx = s.lnk.rx ∧ (applyCal g s).lnk.tx = s.lnk.tx
    ∧ (applyCal g s).lnk.watchdog = s.lnk.watchdog := by
  unfold applyCal
  dsimp only
  simp

@[simp] theorem actCalGroups_frame (p : Byte) (g : CalGroups) (s : State) :
    (actCalGroups p g s).1.pending = s.pending ∧ (actCalGroups p g s).1.powered = s.powered
    ∧ (actCalGroups p g s).1.ptb.queue = s.ptb.queue ∧ (actCalGroups p g s).1.ptb.lastUnmatched = s.ptb.lastUnmatched
    ∧ (actCalGroups p g s).1.din.channels = s.din.channels ∧ (actCalGroups p g s).1.din.trace = s.din.trace
    ∧ (actCalGroups p g s).1.dry.clock = s.dry.clock ∧ (actCalGroups p g s).1.lfn = s.lfn
    ∧ (actCalGroups p g s).1.trc = s.trc ∧ (actCalGroups p g s).1.lio.inputs = s.lio.inputs
    ∧ (actCalGroups p g s).1.lio.lamps = s.lio.lamps ∧ (actCalGroups p g s).1.flt.lineState = s.flt.lineState
    ∧ (actCalGroups p g s).1.flt.cause = s.flt.cause ∧ (actCalGroups p g s).1.flt.masks = s.flt.masks
    ∧ (actCalGroups p g s).1.lnk.parser = s.lnk.parser ∧ (actCalGroups p g s).1.lnk.inService = s.lnk.inService
    ∧ (actCalGroups p g s).1.lnk.rx = s.lnk.rx ∧ (actCalGroups p g s).1.lnk.tx = s.lnk.tx
    ∧ (actCalGroups p g s).1.lnk.watchdog = s.lnk.watchdog := by
  unfold actCalGroups
  (repeat' split) <;> simp

@[simp] theorem actCalWrite_frame (body : List Byte) (s : State) :
    (actCalWrite body s).1.pending = s.pending ∧ (actCalWrite body s).1.powered = s.powered
    ∧ (actCalWrite body s).1.ptb.queue = s.ptb.queue ∧ (actCalWrite body s).1.ptb.lastUnmatched = s.ptb.lastUnmatched
    ∧ (actCalWrite body s).1.din.channels = s.din.channels ∧ (actCalWrite body s).1.din.trace = s.din.trace
    ∧ (actCalWrite body s).1.dry.clock = s.dry.clock ∧ (actCalWrite body s).1.lfn = s.lfn
    ∧ (actCalWrite body s).1.trc = s.trc ∧ (actCalWrite body s).1.lio.inputs = s.lio.inputs
    ∧ (actCalWrite body s).1.lio.lamps = s.lio.lamps ∧ (actCalWrite body s).1.flt.lineState = s.flt.lineState
    ∧ (actCalWrite body s).1.flt.cause = s.flt.cause ∧ (actCalWrite body s).1.flt.masks = s.flt.masks
    ∧ (actCalWrite body s).1.lnk.parser = s.lnk.parser ∧ (actCalWrite body s).1.lnk.inService = s.lnk.inService
    ∧ (actCalWrite body s).1.lnk.rx = s.lnk.rx ∧ (actCalWrite body s).1.lnk.tx = s.lnk.tx
    ∧ (actCalWrite body s).1.lnk.watchdog = s.lnk.watchdog := by
  unfold actCalWrite
  (repeat' split) <;> simp

@[simp] theorem handWatchdog_frame (g : ConfigGroups) (s : State) :
    (handWatchdog g s).pending = s.pending ∧ (handWatchdog g s).powered = s.powered ∧ (handWatchdog g s).ptb = s.ptb
    ∧ (handWatchdog g s).rss = s.rss ∧ (handWatchdog g s).din = s.din ∧ (handWatchdog g s).exu = s.exu
    ∧ (handWatchdog g s).wou = s.wou ∧ (handWatchdog g s).dry = s.dry ∧ (handWatchdog g s).lfn = s.lfn
    ∧ (handWatchdog g s).trc = s.trc ∧ (handWatchdog g s).lio = s.lio ∧ (handWatchdog g s).flt = s.flt
    ∧ (handWatchdog g s).lnk.parser = s.lnk.parser ∧ (handWatchdog g s).lnk.inService = s.lnk.inService
    ∧ (handWatchdog g s).lnk.rx = s.lnk.rx ∧ (handWatchdog g s).lnk.tx = s.lnk.tx := by
  unfold handWatchdog
  (repeat' split) <;> simp

@[simp] theorem announceEnabled_frame (old new : AttnSet) (s : State) :
    (announceEnabled old new s).pending = s.pending ∧ (announceEnabled old new s).powered = s.powered
    ∧ (announceEnabled old new s).ptb = s.ptb ∧ (announceEnabled old new s).rss = s.rss
    ∧ (announceEnabled old new s).din = s.din ∧ (announceEnabled old new s).exu = s.exu
    ∧ (announceEnabled old new s).wou = s.wou ∧ (announceEnabled old new s).dry = s.dry
    ∧ (announceEnabled old new s).lfn = s.lfn ∧ (announceEnabled old new s).trc = s.trc
    ∧ (announceEnabled old new s).lio = s.lio ∧ (announceEnabled old new s).flt = s.flt
    ∧ (announceEnabled old new s).lnk.parser = s.lnk.parser ∧ (announceEnabled old new s).lnk.inService = s.lnk.inService
    ∧ (announceEnabled old new s).lnk.rx = s.lnk.rx ∧ (announceEnabled old new s).lnk.tx = s.lnk.tx
    ∧ (announceEnabled old new s).lnk.watchdog = s.lnk.watchdog := by
  unfold announceEnabled
  (repeat' split) <;> simp

@[simp] theorem handConfig_frame (g : ConfigGroups) (before s : State) :
    (handConfig g before s).pending = s.pending ∧ (handConfig g before s).powered = s.powered
    ∧ (handConfig g before s).ptb.queue = s.ptb.queue ∧ (handConfig g before s).ptb.lastUnmatched = s.ptb.lastUnmatched
    ∧ (handConfig g before s).rss.working = s.rss.working ∧ (handConfig g before s).rss.unsaved = s.rss.unsaved
    ∧ (handConfig g before s).rss.bankA = s.rss.bankA ∧ (handConfig g before s).rss.bankB = s.rss.bankB
    ∧ (handConfig g before s).rss.save = s.rss.save ∧ (handConfig g before s).dry.clock = s.dry.clock
    ∧ (handConfig g before s).lnk.parser = s.lnk.parser ∧ (handConfig g before s).lnk.inService = s.lnk.inService
    ∧ (handConfig g before s).lnk.rx = s.lnk.rx ∧ (handConfig g before s).lnk.tx = s.lnk.tx := by
  unfold handConfig
  dsimp only
  simp

@[simp] theorem applyConfig_frame (g : ConfigGroups) (s : State) :
    (applyConfig g s).pending = s.pending ∧ (applyConfig g s).powered = s.powered
    ∧ (applyConfig g s).ptb.queue = s.ptb.queue ∧ (applyConfig g s).ptb.lastUnmatched = s.ptb.lastUnmatched
    ∧ (applyConfig g s).dry.clock = s.dry.clock ∧ (applyConfig g s).lnk.parser = s.lnk.parser
    ∧ (applyConfig g s).lnk.inService = s.lnk.inService ∧ (applyConfig g s).lnk.rx = s.lnk.rx
    ∧ (applyConfig g s).lnk.tx = s.lnk.tx := by
  unfold applyConfig
  simp

@[simp] theorem actConfigGroups_frame (p : Byte) (g : ConfigGroups) (s : State) :
    (actConfigGroups p g s).1.pending = s.pending ∧ (actConfigGroups p g s).1.powered = s.powered
    ∧ (actConfigGroups p g s).1.ptb.queue = s.ptb.queue
    ∧ (actConfigGroups p g s).1.ptb.lastUnmatched = s.ptb.lastUnmatched
    ∧ (actConfigGroups p g s).1.dry.clock = s.dry.clock ∧ (actConfigGroups p g s).1.lnk.parser = s.lnk.parser
    ∧ (actConfigGroups p g s).1.lnk.inService = s.lnk.inService ∧ (actConfigGroups p g s).1.lnk.rx = s.lnk.rx
    ∧ (actConfigGroups p g s).1.lnk.tx = s.lnk.tx := by
  unfold actConfigGroups
  (repeat' split) <;> simp

@[simp] theorem actConfigWrite_frame (body : List Byte) (s : State) :
    (actConfigWrite body s).1.pending = s.pending ∧ (actConfigWrite body s).1.powered = s.powered
    ∧ (actConfigWrite body s).1.ptb.queue = s.ptb.queue
    ∧ (actConfigWrite body s).1.ptb.lastUnmatched = s.ptb.lastUnmatched
    ∧ (actConfigWrite body s).1.dry.clock = s.dry.clock ∧ (actConfigWrite body s).1.lnk.parser = s.lnk.parser
    ∧ (actConfigWrite body s).1.lnk.inService = s.lnk.inService ∧ (actConfigWrite body s).1.lnk.rx = s.lnk.rx
    ∧ (actConfigWrite body s).1.lnk.tx = s.lnk.tx := by
  unfold actConfigWrite
  (repeat' split) <;> simp

@[simp] theorem beginSave_frame (tag : Byte) (s : State) :
    (beginSave tag s).pending = s.pending ∧ (beginSave tag s).powered = s.powered ∧ (beginSave tag s).ptb = s.ptb
    ∧ (beginSave tag s).din = s.din ∧ (beginSave tag s).exu = s.exu ∧ (beginSave tag s).wou = s.wou
    ∧ (beginSave tag s).dry = s.dry ∧ (beginSave tag s).lfn = s.lfn ∧ (beginSave tag s).trc = s.trc
    ∧ (beginSave tag s).lio = s.lio ∧ (beginSave tag s).flt = s.flt ∧ (beginSave tag s).lnk = s.lnk := by
  unfold beginSave
  simp

@[simp] theorem clearStoreCheck_frame (s : State) :
    (clearStoreCheck s).pending = s.pending ∧ (clearStoreCheck s).powered = s.powered ∧ (clearStoreCheck s).ptb = s.ptb
    ∧ (clearStoreCheck s).rss = s.rss ∧ (clearStoreCheck s).din = s.din ∧ (clearStoreCheck s).exu.state = s.exu.state
    ∧ (clearStoreCheck s).exu.plate = s.exu.plate ∧ (clearStoreCheck s).wou = s.wou ∧ (clearStoreCheck s).dry = s.dry
    ∧ (clearStoreCheck s).lfn = s.lfn ∧ (clearStoreCheck s).trc = s.trc ∧ (clearStoreCheck s).lio.inputs = s.lio.inputs
    ∧ (clearStoreCheck s).lio.drives = s.lio.drives ∧ (clearStoreCheck s).lio.lamps = s.lio.lamps
    ∧ (clearStoreCheck s).flt.lineState = s.flt.lineState ∧ (clearStoreCheck s).flt.cause = s.flt.cause
    ∧ (clearStoreCheck s).flt.masks = s.flt.masks ∧ (clearStoreCheck s).lnk = s.lnk := by
  unfold clearStoreCheck
  (repeat' split) <;> simp

@[simp] theorem saveVerified_frame (s : State) :
    (saveVerified s).pending = s.pending ∧ (saveVerified s).powered = s.powered ∧ (saveVerified s).ptb = s.ptb
    ∧ (saveVerified s).rss.working = s.rss.working ∧ (saveVerified s).rss.bankA = s.rss.bankA
    ∧ (saveVerified s).rss.bankB = s.rss.bankB ∧ (saveVerified s).rss.save = s.rss.save
    ∧ (saveVerified s).rss.counters = s.rss.counters ∧ (saveVerified s).din = s.din
    ∧ (saveVerified s).exu.state = s.exu.state ∧ (saveVerified s).exu.plate = s.exu.plate ∧ (saveVerified s).wou = s.wou
    ∧ (saveVerified s).dry = s.dry ∧ (saveVerified s).lfn = s.lfn ∧ (saveVerified s).trc = s.trc
    ∧ (saveVerified s).lio.inputs = s.lio.inputs ∧ (saveVerified s).lio.drives = s.lio.drives
    ∧ (saveVerified s).lio.lamps = s.lio.lamps ∧ (saveVerified s).flt.lineState = s.flt.lineState
    ∧ (saveVerified s).flt.cause = s.flt.cause ∧ (saveVerified s).flt.masks = s.flt.masks ∧ (saveVerified s).lnk = s.lnk := by
  unfold saveVerified
  simp

@[simp] theorem endSave_frame (verified : Bool) (s : State) :
    (endSave verified s).pending = s.pending ∧ (endSave verified s).powered = s.powered ∧ (endSave verified s).ptb = s.ptb
    ∧ (endSave verified s).din = s.din ∧ (endSave verified s).exu.state = s.exu.state
    ∧ (endSave verified s).exu.plate = s.exu.plate ∧ (endSave verified s).wou = s.wou ∧ (endSave verified s).dry = s.dry
    ∧ (endSave verified s).lfn = s.lfn ∧ (endSave verified s).trc = s.trc ∧ (endSave verified s).lio.inputs = s.lio.inputs
    ∧ (endSave verified s).lio.drives = s.lio.drives ∧ (endSave verified s).lio.lamps = s.lio.lamps
    ∧ (endSave verified s).flt.lineState = s.flt.lineState ∧ (endSave verified s).flt.cause = s.flt.cause
    ∧ (endSave verified s).flt.masks = s.flt.masks ∧ (endSave verified s).lnk.parser = s.lnk.parser
    ∧ (endSave verified s).lnk.watchdog = s.lnk.watchdog := by
  unfold endSave
  dsimp only
  (repeat' split) <;> simp

@[simp] theorem serveSave_frame (f : RxFrame) (s : State) :
    (serveSave f s).pending = s.pending ∧ (serveSave f s).powered = s.powered ∧ (serveSave f s).ptb = s.ptb
    ∧ (serveSave f s).din = s.din ∧ (serveSave f s).exu = s.exu ∧ (serveSave f s).wou = s.wou
    ∧ (serveSave f s).dry = s.dry ∧ (serveSave f s).lfn = s.lfn ∧ (serveSave f s).trc = s.trc
    ∧ (serveSave f s).lio.inputs = s.lio.inputs ∧ (serveSave f s).lio.drives = s.lio.drives
    ∧ (serveSave f s).lio.lamps = s.lio.lamps ∧ (serveSave f s).flt.lineState = s.flt.lineState
    ∧ (serveSave f s).flt.cause = s.flt.cause ∧ (serveSave f s).flt.masks = s.flt.masks := by
  unfold serveSave serveEntry
  (repeat' split) <;> simp

/-! ### UnitRequests -/

@[simp] theorem actReplenishNow_frame (s : State) :
    (actReplenishNow s).1.pending = s.pending ∧ (actReplenishNow s).1.powered = s.powered
    ∧ (actReplenishNow s).1.ptb.queue = s.ptb.queue ∧ (actReplenishNow s).1.ptb.lastUnmatched = s.ptb.lastUnmatched
    ∧ (actReplenishNow s).1.rss = s.rss ∧ (actReplenishNow s).1.din = s.din
    ∧ (actReplenishNow s).1.dry.clock = s.dry.clock ∧ (actReplenishNow s).1.lfn = s.lfn
    ∧ (actReplenishNow s).1.trc = s.trc ∧ (actReplenishNow s).1.lio.inputs = s.lio.inputs
    ∧ (actReplenishNow s).1.lio.lamps = s.lio.lamps ∧ (actReplenishNow s).1.flt.lineState = s.flt.lineState
    ∧ (actReplenishNow s).1.flt.cause = s.flt.cause ∧ (actReplenishNow s).1.flt.masks = s.flt.masks
    ∧ (actReplenishNow s).1.lnk.parser = s.lnk.parser ∧ (actReplenishNow s).1.lnk.inService = s.lnk.inService
    ∧ (actReplenishNow s).1.lnk.rx = s.lnk.rx ∧ (actReplenishNow s).1.lnk.tx = s.lnk.tx
    ∧ (actReplenishNow s).1.lnk.watchdog = s.lnk.watchdog := by
  unfold actReplenishNow
  (repeat' split) <;> simp

@[simp] theorem actBathChanged_frame (s : State) :
    (actBathChanged s).1.pending = s.pending ∧ (actBathChanged s).1.powered = s.powered
    ∧ (actBathChanged s).1.ptb.queue = s.ptb.queue ∧ (actBathChanged s).1.ptb.lastUnmatched = s.ptb.lastUnmatched
    ∧ (actBathChanged s).1.rss.working = s.rss.working ∧ (actBathChanged s).1.rss.unsaved = s.rss.unsaved
    ∧ (actBathChanged s).1.rss.bankA = s.rss.bankA ∧ (actBathChanged s).1.rss.bankB = s.rss.bankB
    ∧ (actBathChanged s).1.rss.save = s.rss.save ∧ (actBathChanged s).1.din = s.din
    ∧ (actBathChanged s).1.dry.clock = s.dry.clock ∧ (actBathChanged s).1.lfn = s.lfn ∧ (actBathChanged s).1.trc = s.trc
    ∧ (actBathChanged s).1.lio.inputs = s.lio.inputs ∧ (actBathChanged s).1.lio.lamps = s.lio.lamps
    ∧ (actBathChanged s).1.flt.lineState = s.flt.lineState ∧ (actBathChanged s).1.flt.cause = s.flt.cause
    ∧ (actBathChanged s).1.flt.masks = s.flt.masks ∧ (actBathChanged s).1.lnk.parser = s.lnk.parser
    ∧ (actBathChanged s).1.lnk.inService = s.lnk.inService ∧ (actBathChanged s).1.lnk.rx = s.lnk.rx
    ∧ (actBathChanged s).1.lnk.tx = s.lnk.tx ∧ (actBathChanged s).1.lnk.watchdog = s.lnk.watchdog := by
  unfold actBathChanged
  (repeat' split) <;> simp

@[simp] theorem storeSetpoint_frame (t : Nat) (s : State) :
    (storeSetpoint t s).pending = s.pending ∧ (storeSetpoint t s).powered = s.powered ∧ (storeSetpoint t s).ptb = s.ptb
    ∧ (storeSetpoint t s).rss.unsaved = s.rss.unsaved ∧ (storeSetpoint t s).rss.bankA = s.rss.bankA
    ∧ (storeSetpoint t s).rss.bankB = s.rss.bankB ∧ (storeSetpoint t s).rss.save = s.rss.save
    ∧ (storeSetpoint t s).rss.counters = s.rss.counters ∧ (storeSetpoint t s).din = s.din
    ∧ (storeSetpoint t s).exu = s.exu ∧ (storeSetpoint t s).wou = s.wou ∧ (storeSetpoint t s).dry = s.dry
    ∧ (storeSetpoint t s).lfn = s.lfn ∧ (storeSetpoint t s).trc = s.trc ∧ (storeSetpoint t s).lio = s.lio
    ∧ (storeSetpoint t s).flt = s.flt ∧ (storeSetpoint t s).lnk = s.lnk := by
  unfold storeSetpoint
  simp

@[simp] theorem actDryerSet_frame (body : List Byte) (s : State) :
    (actDryerSet body s).1.pending = s.pending ∧ (actDryerSet body s).1.powered = s.powered
    ∧ (actDryerSet body s).1.ptb = s.ptb ∧ (actDryerSet body s).1.rss.bankA = s.rss.bankA
    ∧ (actDryerSet body s).1.rss.bankB = s.rss.bankB ∧ (actDryerSet body s).1.rss.save = s.rss.save
    ∧ (actDryerSet body s).1.rss.counters = s.rss.counters ∧ (actDryerSet body s).1.din = s.din
    ∧ (actDryerSet body s).1.exu = s.exu ∧ (actDryerSet body s).1.wou = s.wou ∧ (actDryerSet body s).1.dry = s.dry
    ∧ (actDryerSet body s).1.lfn = s.lfn ∧ (actDryerSet body s).1.trc = s.trc
    ∧ (actDryerSet body s).1.lio.inputs = s.lio.inputs ∧ (actDryerSet body s).1.lio.outputs = s.lio.outputs
    ∧ (actDryerSet body s).1.lio.lamps = s.lio.lamps ∧ (actDryerSet body s).1.flt = s.flt
    ∧ (actDryerSet body s).1.lnk = s.lnk := by
  unfold actDryerSet
  (repeat' split) <;> simp

@[simp] theorem enableAttention_frame (m : AttnSet) (s : State) :
    (enableAttention m s).pending = s.pending ∧ (enableAttention m s).powered = s.powered
    ∧ (enableAttention m s).ptb = s.ptb ∧ (enableAttention m s).rss.bankA = s.rss.bankA
    ∧ (enableAttention m s).rss.bankB = s.rss.bankB ∧ (enableAttention m s).rss.save = s.rss.save
    ∧ (enableAttention m s).rss.counters = s.rss.counters ∧ (enableAttention m s).din = s.din
    ∧ (enableAttention m s).exu = s.exu ∧ (enableAttention m s).wou = s.wou ∧ (enableAttention m s).dry = s.dry
    ∧ (enableAttention m s).lfn = s.lfn ∧ (enableAttention m s).trc = s.trc ∧ (enableAttention m s).lio = s.lio
    ∧ (enableAttention m s).flt = s.flt ∧ (enableAttention m s).lnk.parser = s.lnk.parser
    ∧ (enableAttention m s).lnk.inService = s.lnk.inService ∧ (enableAttention m s).lnk.rx = s.lnk.rx
    ∧ (enableAttention m s).lnk.tx = s.lnk.tx ∧ (enableAttention m s).lnk.watchdog = s.lnk.watchdog := by
  unfold enableAttention
  simp

@[simp] theorem actAttnEnable_frame (body : List Byte) (s : State) :
    (actAttnEnable body s).1.pending = s.pending ∧ (actAttnEnable body s).1.powered = s.powered
    ∧ (actAttnEnable body s).1.ptb = s.ptb ∧ (actAttnEnable body s).1.rss.bankA = s.rss.bankA
    ∧ (actAttnEnable body s).1.rss.bankB = s.rss.bankB ∧ (actAttnEnable body s).1.rss.save = s.rss.save
    ∧ (actAttnEnable body s).1.rss.counters = s.rss.counters ∧ (actAttnEnable body s).1.din = s.din
    ∧ (actAttnEnable body s).1.exu = s.exu ∧ (actAttnEnable body s).1.wou = s.wou ∧ (actAttnEnable body s).1.dry = s.dry
    ∧ (actAttnEnable body s).1.lfn = s.lfn ∧ (actAttnEnable body s).1.trc = s.trc ∧ (actAttnEnable body s).1.lio = s.lio
    ∧ (actAttnEnable body s).1.flt = s.flt ∧ (actAttnEnable body s).1.lnk.parser = s.lnk.parser
    ∧ (actAttnEnable body s).1.lnk.inService = s.lnk.inService ∧ (actAttnEnable body s).1.lnk.rx = s.lnk.rx
    ∧ (actAttnEnable body s).1.lnk.tx = s.lnk.tx ∧ (actAttnEnable body s).1.lnk.watchdog = s.lnk.watchdog := by
  unfold actAttnEnable
  (repeat' split) <;> simp

@[simp] theorem clearAttention_frame (m : AttnSet) (s : State) :
    (clearAttention m s).pending = s.pending ∧ (clearAttention m s).powered = s.powered ∧ (clearAttention m s).ptb = s.ptb
    ∧ (clearAttention m s).rss = s.rss ∧ (clearAttention m s).din = s.din ∧ (clearAttention m s).exu = s.exu
    ∧ (clearAttention m s).wou = s.wou ∧ (clearAttention m s).dry = s.dry ∧ (clearAttention m s).lfn = s.lfn
    ∧ (clearAttention m s).trc = s.trc ∧ (clearAttention m s).lio = s.lio ∧ (clearAttention m s).flt = s.flt
    ∧ (clearAttention m s).lnk.parser = s.lnk.parser ∧ (clearAttention m s).lnk.inService = s.lnk.inService
    ∧ (clearAttention m s).lnk.rx = s.lnk.rx ∧ (clearAttention m s).lnk.tx = s.lnk.tx
    ∧ (clearAttention m s).lnk.watchdog = s.lnk.watchdog := by
  unfold clearAttention
  simp

@[simp] theorem actAttnClear_frame (body : List Byte) (s : State) :
    (actAttnClear body s).1.pending = s.pending ∧ (actAttnClear body s).1.powered = s.powered
    ∧ (actAttnClear body s).1.ptb = s.ptb ∧ (actAttnClear body s).1.rss = s.rss ∧ (actAttnClear body s).1.din = s.din
    ∧ (actAttnClear body s).1.exu = s.exu ∧ (actAttnClear body s).1.wou = s.wou ∧ (actAttnClear body s).1.dry = s.dry
    ∧ (actAttnClear body s).1.lfn = s.lfn ∧ (actAttnClear body s).1.trc = s.trc ∧ (actAttnClear body s).1.lio = s.lio
    ∧ (actAttnClear body s).1.flt = s.flt ∧ (actAttnClear body s).1.lnk.parser = s.lnk.parser
    ∧ (actAttnClear body s).1.lnk.inService = s.lnk.inService ∧ (actAttnClear body s).1.lnk.rx = s.lnk.rx
    ∧ (actAttnClear body s).1.lnk.tx = s.lnk.tx ∧ (actAttnClear body s).1.lnk.watchdog = s.lnk.watchdog := by
  unfold actAttnClear
  (repeat' split) <;> simp

@[simp] theorem storeUser_frame (s : State) (p : Nat × Byte) :
    (storeUser s p).pending = s.pending ∧ (storeUser s p).powered = s.powered ∧ (storeUser s p).ptb = s.ptb
    ∧ (storeUser s p).rss = s.rss ∧ (storeUser s p).din = s.din ∧ (storeUser s p).exu = s.exu
    ∧ (storeUser s p).wou = s.wou ∧ (storeUser s p).dry = s.dry ∧ (storeUser s p).lfn = s.lfn
    ∧ (storeUser s p).trc = s.trc ∧ (storeUser s p).lio.inputs = s.lio.inputs ∧ (storeUser s p).lio.drives = s.lio.drives
    ∧ (storeUser s p).lio.lamps = s.lio.lamps ∧ (storeUser s p).flt = s.flt ∧ (storeUser s p).lnk = s.lnk := by
  unfold storeUser
  simp

@[simp] theorem applyUser_frame (s : State) (p : Nat × Byte) :
    (applyUser s p).pending = s.pending ∧ (applyUser s p).powered = s.powered ∧ (applyUser s p).ptb = s.ptb
    ∧ (applyUser s p).rss = s.rss ∧ (applyUser s p).din = s.din ∧ (applyUser s p).exu = s.exu
    ∧ (applyUser s p).wou = s.wou ∧ (applyUser s p).dry = s.dry ∧ (applyUser s p).lfn = s.lfn
    ∧ (applyUser s p).trc = s.trc ∧ (applyUser s p).lio.inputs = s.lio.inputs ∧ (applyUser s p).lio.drives = s.lio.drives
    ∧ (applyUser s p).lio.lamps = s.lio.lamps ∧ (applyUser s p).flt = s.flt ∧ (applyUser s p).lnk = s.lnk := by
  unfold applyUser
  (repeat' split) <;> simp

@[simp] theorem setUsers_frame (l : List (Nat × Byte)) (s : State) :
    (setUsers l s).pending = s.pending ∧ (setUsers l s).powered = s.powered ∧ (setUsers l s).ptb = s.ptb
    ∧ (setUsers l s).rss = s.rss ∧ (setUsers l s).din = s.din ∧ (setUsers l s).exu = s.exu ∧ (setUsers l s).wou = s.wou
    ∧ (setUsers l s).dry = s.dry ∧ (setUsers l s).lfn = s.lfn ∧ (setUsers l s).trc = s.trc
    ∧ (setUsers l s).lio.inputs = s.lio.inputs ∧ (setUsers l s).lio.drives = s.lio.drives
    ∧ (setUsers l s).lio.lamps = s.lio.lamps ∧ (setUsers l s).flt = s.flt ∧ (setUsers l s).lnk = s.lnk := by
  unfold setUsers
  simp

@[simp] theorem actOutputSet_frame (body : List Byte) (s : State) :
    (actOutputSet body s).1.pending = s.pending ∧ (actOutputSet body s).1.powered = s.powered
    ∧ (actOutputSet body s).1.ptb = s.ptb ∧ (actOutputSet body s).1.rss = s.rss ∧ (actOutputSet body s).1.din = s.din
    ∧ (actOutputSet body s).1.exu = s.exu ∧ (actOutputSet body s).1.wou = s.wou ∧ (actOutputSet body s).1.dry = s.dry
    ∧ (actOutputSet body s).1.lfn = s.lfn ∧ (actOutputSet body s).1.trc = s.trc
    ∧ (actOutputSet body s).1.lio.inputs = s.lio.inputs ∧ (actOutputSet body s).1.lio.drives = s.lio.drives
    ∧ (actOutputSet body s).1.lio.lamps = s.lio.lamps ∧ (actOutputSet body s).1.flt = s.flt
    ∧ (actOutputSet body s).1.lnk = s.lnk := by
  unfold actOutputSet
  (repeat' split) <;> simp

end Sys2Proof.Machine
end

