-- ==== Sys2Proof/Laws/FramesStart.lean ====
section
/-! SUPPORT. What the start-up, a sample and the passing of time leave as they are. -/

namespace Sys2Proof.Machine

/-! ### StartUp -/

@[simp] theorem loadSettings_frame (s : State) :
    (loadSettings s).pending = s.pending ∧ (loadSettings s).powered = s.powered ∧ (loadSettings s).ptb = s.ptb
    ∧ (loadSettings s).rss.bankA = s.rss.bankA ∧ (loadSettings s).rss.bankB = s.rss.bankB
    ∧ (loadSettings s).rss.save = s.rss.save ∧ (loadSettings s).rss.counters = s.rss.counters
    ∧ (loadSettings s).din = s.din ∧ (loadSettings s).exu = s.exu ∧ (loadSettings s).wou = s.wou
    ∧ (loadSettings s).dry = s.dry ∧ (loadSettings s).lfn = s.lfn ∧ (loadSettings s).trc = s.trc
    ∧ (loadSettings s).lio.inputs = s.lio.inputs ∧ (loadSettings s).lio.drives = s.lio.drives
    ∧ (loadSettings s).lio.lamps = s.lio.lamps ∧ (loadSettings s).flt.lineState = s.flt.lineState
    ∧ (loadSettings s).flt.cause = s.flt.cause ∧ (loadSettings s).flt.masks = s.flt.masks
    ∧ (loadSettings s).lnk.parser = s.lnk.parser ∧ (loadSettings s).lnk.inService = s.lnk.inService
    ∧ (loadSettings s).lnk.rx = s.lnk.rx ∧ (loadSettings s).lnk.tx = s.lnk.tx
    ∧ (loadSettings s).lnk.watchdog = s.lnk.watchdog := by
  unfold loadSettings
  (repeat' split) <;> simp

@[simp] theorem readInput_frame (levels : BitVec 12) (s : State) (i : Fin 12) :
    (readInput levels s i).pending = s.pending ∧ (readInput levels s i).powered = s.powered
    ∧ (readInput levels s i).ptb = s.ptb ∧ (readInput levels s i).rss = s.rss ∧ (readInput levels s i).din = s.din
    ∧ (readInput levels s i).exu = s.exu ∧ (readInput levels s i).wou = s.wou ∧ (readInput levels s i).dry = s.dry
    ∧ (readInput levels s i).lfn = s.lfn ∧ (readInput levels s i).trc = s.trc
    ∧ (readInput levels s i).lio.outputs = s.lio.outputs ∧ (readInput levels s i).lio.drives = s.lio.drives
    ∧ (readInput levels s i).lio.lamps = s.lio.lamps ∧ (readInput levels s i).flt = s.flt
    ∧ (readInput levels s i).lnk = s.lnk := by
  unfold readInput
  simp

@[simp] theorem giveCounters_frame (s : State) :
    (giveCounters s).pending = s.pending ∧ (giveCounters s).powered = s.powered ∧ (giveCounters s).ptb = s.ptb
    ∧ (giveCounters s).rss = s.rss ∧ (giveCounters s).din.channels = s.din.channels
    ∧ (giveCounters s).din.trace = s.din.trace ∧ (giveCounters s).exu = s.exu ∧ (giveCounters s).wou.list = s.wou.list
    ∧ (giveCounters s).wou.transport = s.wou.transport ∧ (giveCounters s).wou.committed = s.wou.committed
    ∧ (giveCounters s).wou.replenish = s.wou.replenish ∧ (giveCounters s).dry = s.dry ∧ (giveCounters s).lfn = s.lfn
    ∧ (giveCounters s).trc = s.trc ∧ (giveCounters s).lio = s.lio ∧ (giveCounters s).flt = s.flt
    ∧ (giveCounters s).lnk = s.lnk := by
  unfold giveCounters
  simp

@[simp] theorem replaceCounters_frame (s : State) :
    (replaceCounters s).pending = s.pending ∧ (replaceCounters s).powered = s.powered ∧ (replaceCounters s).ptb = s.ptb
    ∧ (replaceCounters s).rss.working = s.rss.working ∧ (replaceCounters s).rss.unsaved = s.rss.unsaved
    ∧ (replaceCounters s).rss.bankA = s.rss.bankA ∧ (replaceCounters s).rss.bankB = s.rss.bankB
    ∧ (replaceCounters s).rss.save = s.rss.save ∧ (replaceCounters s).din.channels = s.din.channels
    ∧ (replaceCounters s).din.trace = s.din.trace ∧ (replaceCounters s).exu = s.exu
    ∧ (replaceCounters s).wou.list = s.wou.list ∧ (replaceCounters s).wou.transport = s.wou.transport
    ∧ (replaceCounters s).wou.committed = s.wou.committed ∧ (replaceCounters s).wou.replenish = s.wou.replenish
    ∧ (replaceCounters s).dry = s.dry ∧ (replaceCounters s).lfn = s.lfn ∧ (replaceCounters s).trc = s.trc
    ∧ (replaceCounters s).lio.inputs = s.lio.inputs ∧ (replaceCounters s).lio.drives = s.lio.drives
    ∧ (replaceCounters s).lio.lamps = s.lio.lamps ∧ (replaceCounters s).flt.lineState = s.flt.lineState
    ∧ (replaceCounters s).flt.cause = s.flt.cause ∧ (replaceCounters s).flt.masks = s.flt.masks
    ∧ (replaceCounters s).lnk.parser = s.lnk.parser ∧ (replaceCounters s).lnk.inService = s.lnk.inService
    ∧ (replaceCounters s).lnk.rx = s.lnk.rx ∧ (replaceCounters s).lnk.tx = s.lnk.tx
    ∧ (replaceCounters s).lnk.watchdog = s.lnk.watchdog := by
  unfold replaceCounters
  simp

@[simp] theorem loadCounters_frame (s : State) :
    (loadCounters s).pending = s.pending ∧ (loadCounters s).powered = s.powered ∧ (loadCounters s).ptb = s.ptb
    ∧ (loadCounters s).rss.working = s.rss.working ∧ (loadCounters s).rss.unsaved = s.rss.unsaved
    ∧ (loadCounters s).rss.bankA = s.rss.bankA ∧ (loadCounters s).rss.bankB = s.rss.bankB
    ∧ (loadCounters s).rss.save = s.rss.save ∧ (loadCounters s).din.channels = s.din.channels
    ∧ (loadCounters s).din.trace = s.din.trace ∧ (loadCounters s).exu = s.exu ∧ (loadCounters s).wou.list = s.wou.list
    ∧ (loadCounters s).wou.transport = s.wou.transport ∧ (loadCounters s).wou.committed = s.wou.committed
    ∧ (loadCounters s).wou.replenish = s.wou.replenish ∧ (loadCounters s).dry = s.dry ∧ (loadCounters s).lfn = s.lfn
    ∧ (loadCounters s).trc = s.trc ∧ (loadCounters s).lio.inputs = s.lio.inputs
    ∧ (loadCounters s).lio.drives = s.lio.drives ∧ (loadCounters s).lio.lamps = s.lio.lamps
    ∧ (loadCounters s).flt.lineState = s.flt.lineState ∧ (loadCounters s).flt.cause = s.flt.cause
    ∧ (loadCounters s).flt.masks = s.flt.masks ∧ (loadCounters s).lnk.parser = s.lnk.parser
    ∧ (loadCounters s).lnk.inService = s.lnk.inService ∧ (loadCounters s).lnk.rx = s.lnk.rx
    ∧ (loadCounters s).lnk.tx = s.lnk.tx ∧ (loadCounters s).lnk.watchdog = s.lnk.watchdog := by
  unfold loadCounters
  (repeat' split) <;> simp

@[simp] theorem endInitLine_frame (s : State) :
    (endInitLine s).pending = s.pending ∧ (endInitLine s).powered = s.powered ∧ (endInitLine s).ptb.queue = s.ptb.queue
    ∧ (endInitLine s).ptb.lastUnmatched = s.ptb.lastUnmatched ∧ (endInitLine s).rss = s.rss
    ∧ (endInitLine s).dry.clock = s.dry.clock ∧ (endInitLine s).lfn.plate = s.lfn.plate
    ∧ (endInitLine s).trc.level = s.trc.level ∧ (endInitLine s).trc.handoff = s.trc.handoff
    ∧ (endInitLine s).lio.inputs = s.lio.inputs ∧ (endInitLine s).lnk.parser = s.lnk.parser
    ∧ (endInitLine s).lnk.inService = s.lnk.inService ∧ (endInitLine s).lnk.rx = s.lnk.rx
    ∧ (endInitLine s).lnk.tx = s.lnk.tx ∧ (endInitLine s).lnk.watchdog = s.lnk.watchdog := by
  unfold endInitLine
  (repeat' split) <;> simp

@[simp] theorem discardArming_frame (s : State) :
    (discardArming s).pending = s.pending ∧ (discardArming s).powered = s.powered ∧ (discardArming s).ptb = s.ptb
    ∧ (discardArming s).rss = s.rss ∧ (discardArming s).din = s.din ∧ (discardArming s).exu.state = s.exu.state
    ∧ (discardArming s).exu.plate = s.exu.plate ∧ (discardArming s).wou = s.wou ∧ (discardArming s).dry = s.dry
    ∧ (discardArming s).lfn = s.lfn ∧ (discardArming s).trc = s.trc ∧ (discardArming s).lio = s.lio
    ∧ (discardArming s).flt = s.flt ∧ (discardArming s).lnk = s.lnk := by
  unfold discardArming
  simp

@[simp] theorem endInitExu_frame (s : State) :
    (endInitExu s).pending = s.pending ∧ (endInitExu s).powered = s.powered ∧ (endInitExu s).ptb = s.ptb
    ∧ (endInitExu s).rss = s.rss ∧ (endInitExu s).din = s.din ∧ (endInitExu s).exu.plate = s.exu.plate
    ∧ (endInitExu s).wou = s.wou ∧ (endInitExu s).dry = s.dry ∧ (endInitExu s).lfn = s.lfn ∧ (endInitExu s).trc = s.trc
    ∧ (endInitExu s).lio = s.lio ∧ (endInitExu s).flt = s.flt ∧ (endInitExu s).lnk = s.lnk := by
  unfold endInitExu
  dsimp only
  (repeat' split) <;> simp

@[simp] theorem endInitLfn_frame (s : State) :
    (endInitLfn s).pending = s.pending ∧ (endInitLfn s).powered = s.powered ∧ (endInitLfn s).ptb = s.ptb
    ∧ (endInitLfn s).rss = s.rss ∧ (endInitLfn s).din = s.din ∧ (endInitLfn s).exu = s.exu ∧ (endInitLfn s).wou = s.wou
    ∧ (endInitLfn s).dry = s.dry ∧ (endInitLfn s).lfn.plate = s.lfn.plate ∧ (endInitLfn s).trc = s.trc
    ∧ (endInitLfn s).lio = s.lio ∧ (endInitLfn s).flt = s.flt ∧ (endInitLfn s).lnk = s.lnk := by
  unfold endInitLfn
  (repeat' split) <;> simp

@[simp] theorem endInitTrc_frame (level : Fin 8) (s : State) :
    (endInitTrc level s).pending = s.pending ∧ (endInitTrc level s).powered = s.powered ∧ (endInitTrc level s).ptb = s.ptb
    ∧ (endInitTrc level s).rss = s.rss ∧ (endInitTrc level s).din = s.din ∧ (endInitTrc level s).exu = s.exu
    ∧ (endInitTrc level s).wou = s.wou ∧ (endInitTrc level s).dry = s.dry ∧ (endInitTrc level s).lfn = s.lfn
    ∧ (endInitTrc level s).trc.elevator = s.trc.elevator ∧ (endInitTrc level s).trc.request = s.trc.request
    ∧ (endInitTrc level s).lio = s.lio ∧ (endInitTrc level s).flt = s.flt ∧ (endInitTrc level s).lnk = s.lnk := by
  unfold endInitTrc
  (repeat' split) <;> simp

@[simp] theorem finishStartUp_frame (level : Fin 8) (s : State) :
    (finishStartUp level s).pending = s.pending ∧ (finishStartUp level s).powered = s.powered
    ∧ (finishStartUp level s).ptb.queue = s.ptb.queue ∧ (finishStartUp level s).ptb.lastUnmatched = s.ptb.lastUnmatched
    ∧ (finishStartUp level s).rss = s.rss ∧ (finishStartUp level s).dry.clock = s.dry.clock
    ∧ (finishStartUp level s).lfn.plate = s.lfn.plate ∧ (finishStartUp level s).lio.inputs = s.lio.inputs
    ∧ (finishStartUp level s).lnk.parser = s.lnk.parser
    ∧ (finishStartUp level s).lnk.tx = s.lnk.tx := by
  unfold finishStartUp
  (repeat' split) <;> simp

/-! ### Events -/

@[simp] theorem sample_frame (ch : LampChannel) (raw : Nat) (s : State) :
    (sample ch raw s).pending = s.pending ∧ (sample ch raw s).powered = s.powered
    ∧ (sample ch raw s).ptb.queue = s.ptb.queue ∧ (sample ch raw s).ptb.lastUnmatched = s.ptb.lastUnmatched
    ∧ (sample ch raw s).rss.working = s.rss.working ∧ (sample ch raw s).rss.unsaved = s.rss.unsaved
    ∧ (sample ch raw s).rss.bankA = s.rss.bankA ∧ (sample ch raw s).rss.bankB = s.rss.bankB
    ∧ (sample ch raw s).rss.save = s.rss.save ∧ (sample ch raw s).dry.clock = s.dry.clock
    ∧ (sample ch raw s).lfn.plate = s.lfn.plate ∧ (sample ch raw s).trc.elevator = s.trc.elevator
    ∧ (sample ch raw s).trc.level = s.trc.level ∧ (sample ch raw s).trc.request = s.trc.request
    ∧ (sample ch raw s).trc.table = s.trc.table ∧ (sample ch raw s).trc.handoff = s.trc.handoff
    ∧ (sample ch raw s).lio.inputs = s.lio.inputs ∧ (sample ch raw s).flt.lineState = s.flt.lineState
    ∧ (sample ch raw s).flt.cause = s.flt.cause ∧ (sample ch raw s).flt.masks = s.flt.masks
    ∧ (sample ch raw s).lnk.parser = s.lnk.parser ∧ (sample ch raw s).lnk.inService = s.lnk.inService
    ∧ (sample ch raw s).lnk.rx = s.lnk.rx ∧ (sample ch raw s).lnk.tx = s.lnk.tx
    ∧ (sample ch raw s).lnk.watchdog = s.lnk.watchdog := by
  unfold sample
  (try dsimp only)
  (repeat' split) <;> first
    | (simp; done)
    | (rename_i heq; have e := (congrArg Prod.fst heq).symm; dsimp only at e; subst e; simp; done)

/-! ### Clock -/

@[simp] theorem moveTransport_frame (s : State) :
    (moveTransport s).pending = s.pending ∧ (moveTransport s).powered = s.powered ∧ (moveTransport s).ptb = s.ptb
    ∧ (moveTransport s).rss = s.rss ∧ (moveTransport s).din = s.din ∧ (moveTransport s).exu = s.exu
    ∧ (moveTransport s).wou.transport = s.wou.transport ∧ (moveTransport s).wou.lambda = s.wou.lambda
    ∧ (moveTransport s).wou.committed = s.wou.committed ∧ (moveTransport s).wou.replenish = s.wou.replenish
    ∧ (moveTransport s).dry = s.dry ∧ (moveTransport s).lfn = s.lfn ∧ (moveTransport s).trc = s.trc
    ∧ (moveTransport s).lio = s.lio ∧ (moveTransport s).flt = s.flt ∧ (moveTransport s).lnk = s.lnk := by
  unfold moveTransport
  (repeat' split) <;> simp

@[simp] theorem showStall_frame (s : State) :
    (showStall s).pending = s.pending ∧ (showStall s).powered = s.powered ∧ (showStall s).ptb.queue = s.ptb.queue
    ∧ (showStall s).ptb.lastUnmatched = s.ptb.lastUnmatched ∧ (showStall s).rss = s.rss ∧ (showStall s).din = s.din
    ∧ (showStall s).exu = s.exu ∧ (showStall s).wou = s.wou ∧ (showStall s).dry = s.dry ∧ (showStall s).lfn = s.lfn
    ∧ (showStall s).trc = s.trc ∧ (showStall s).lio = s.lio ∧ (showStall s).flt = s.flt ∧ (showStall s).lnk = s.lnk := by
  unfold showStall
  (repeat' split) <;> simp

@[simp] theorem tickLines_frame (s : State) :
    (tickLines s).pending = s.pending ∧ (tickLines s).powered = s.powered ∧ (tickLines s).ptb = s.ptb
    ∧ (tickLines s).rss = s.rss ∧ (tickLines s).din = s.din ∧ (tickLines s).exu = s.exu ∧ (tickLines s).wou = s.wou
    ∧ (tickLines s).dry = s.dry ∧ (tickLines s).lfn = s.lfn ∧ (tickLines s).trc = s.trc
    ∧ (tickLines s).lio.drives = s.lio.drives ∧ (tickLines s).lio.lamps = s.lio.lamps ∧ (tickLines s).flt = s.flt
    ∧ (tickLines s).lnk = s.lnk := by
  unfold tickLines
  simp

@[simp] theorem passMs_frame (s : State) :
    (passMs s).pending = s.pending ∧ (passMs s).powered = s.powered ∧ (passMs s).ptb.queue = s.ptb.queue
    ∧ (passMs s).ptb.lastUnmatched = s.ptb.lastUnmatched ∧ (passMs s).rss = s.rss ∧ (passMs s).din = s.din
    ∧ (passMs s).exu.state = s.exu.state ∧ (passMs s).exu.plate = s.exu.plate ∧ (passMs s).wou.transport = s.wou.transport
    ∧ (passMs s).wou.lambda = s.wou.lambda ∧ (passMs s).wou.committed = s.wou.committed ∧ (passMs s).dry = s.dry
    ∧ (passMs s).lfn = s.lfn ∧ (passMs s).trc.elevator = s.trc.elevator ∧ (passMs s).trc.level = s.trc.level
    ∧ (passMs s).trc.request = s.trc.request ∧ (passMs s).trc.table = s.trc.table ∧ (passMs s).trc.handoff = s.trc.handoff
    ∧ (passMs s).lio.drives = s.lio.drives ∧ (passMs s).lio.lamps = s.lio.lamps ∧ (passMs s).flt = s.flt
    ∧ (passMs s).lnk.parser = s.lnk.parser ∧ (passMs s).lnk.inService = s.lnk.inService ∧ (passMs s).lnk.rx = s.lnk.rx
    ∧ (passMs s).lnk.tx = s.lnk.tx := by
  unfold passMs
  simp

@[simp] theorem tick_frame (s : State) :
    (tick s).powered = s.powered ∧ (tick s).ptb.queue = s.ptb.queue ∧ (tick s).ptb.lastUnmatched = s.ptb.lastUnmatched
    ∧ (tick s).rss = s.rss ∧ (tick s).din = s.din ∧ (tick s).exu.state = s.exu.state ∧ (tick s).exu.plate = s.exu.plate
    ∧ (tick s).wou.transport = s.wou.transport ∧ (tick s).wou.lambda = s.wou.lambda
    ∧ (tick s).wou.committed = s.wou.committed ∧ (tick s).dry = s.dry ∧ (tick s).lfn = s.lfn
    ∧ (tick s).trc.elevator = s.trc.elevator ∧ (tick s).trc.level = s.trc.level ∧ (tick s).trc.request = s.trc.request
    ∧ (tick s).trc.table = s.trc.table ∧ (tick s).trc.handoff = s.trc.handoff ∧ (tick s).lio.drives = s.lio.drives
    ∧ (tick s).lio.lamps = s.lio.lamps ∧ (tick s).flt = s.flt ∧ (tick s).lnk.parser = s.lnk.parser
    ∧ (tick s).lnk.inService = s.lnk.inService ∧ (tick s).lnk.rx = s.lnk.rx ∧ (tick s).lnk.tx = s.lnk.tx := by
  unfold tick
  dsimp only
  simp

@[simp] theorem idle_frame (s : State) :
    (idle s).powered = s.powered ∧ (idle s).ptb.queue = s.ptb.queue ∧ (idle s).ptb.lastUnmatched = s.ptb.lastUnmatched
    ∧ (idle s).rss = s.rss ∧ (idle s).din = s.din ∧ (idle s).exu.state = s.exu.state ∧ (idle s).exu.plate = s.exu.plate
    ∧ (idle s).wou.transport = s.wou.transport ∧ (idle s).wou.lambda = s.wou.lambda
    ∧ (idle s).wou.committed = s.wou.committed ∧ (idle s).dry = s.dry ∧ (idle s).lfn = s.lfn
    ∧ (idle s).trc.elevator = s.trc.elevator ∧ (idle s).trc.level = s.trc.level ∧ (idle s).trc.request = s.trc.request
    ∧ (idle s).trc.table = s.trc.table ∧ (idle s).trc.handoff = s.trc.handoff ∧ (idle s).lio.drives = s.lio.drives
    ∧ (idle s).lio.lamps = s.lio.lamps ∧ (idle s).flt = s.flt ∧ (idle s).lnk.parser = s.lnk.parser
    ∧ (idle s).lnk.inService = s.lnk.inService ∧ (idle s).lnk.rx = s.lnk.rx ∧ (idle s).lnk.tx = s.lnk.tx := by
  unfold idle
  (repeat' split) <;> simp

end Sys2Proof.Machine
end

