-- ==== Sys2Proof/Tests/Slice0.lean ====
section
/-! SUPPORT. Tests of this model: operands that are refused, values worked in the manual's own examples, single steps, and
for each statement with hypotheses concrete states and operands that meet them, clause by clause, at boundary values. -/

namespace Sys2Proof.Tests

open Sys2Proof Sys2Proof.Machine

-- One theorem after the other: each waits for the kernel, and the threads that wait would be many.
set_option Elab.async false

/-! ### States the tests are built from -/

/-- INIT has ended, the line is RUN, no flag is set, and no counters write is in progress. -/
def up : State :=
  { State.reset with
    rss := { State.reset.rss with countersWriting := false, countersFailed := false }
    flt := { State.reset.flt with lineState := .run, flags := 0#35 } }

def inLine (l : LineState) (s : State) : State := modFlt (fun f => { f with lineState := l }) s
def flagged (m : FlagSet) (s : State) : State := modFlt (fun f => { f with flags := m }) s

/-- The recipe values of the worked runs of 3.7. -/
def proc : Process :=
  { back := ⟨900, 80, 1600⟩, main := ⟨1200, 80, 1800⟩, exposureStretch := 150, holdOnUnderdose := true, vNom := 600,
    dryTime := 10, uva := ⟨1500, 100, 0⟩, uvc := ⟨0, 100, 0⟩, finisherStretch := 120 }

def plate (id : Nat) (st : PlateState) : PlateRecord :=
  { plateId := id, state := st, recipeNo := 1, working := proc, width := 1000, length := 1200, thickness := 2840,
    relief := 600, coverage := 30, sortCode := none, results := perLamp newResult, interruptions := 0, notices := [],
    moreNotices := false, intakePosition := none, held := none, washout := none, drawer := none, dry := none,
    outcome := none }

/-- One record, in slot 1, with plate id 3101. -/
def one (st : PlateState) : State := setPlate 0 (some (plate 3101 st)) up

/-- One QUEUED record and its entry. -/
def queued : State := modPtb (fun t => { t with queue := [0] }) (one .queued)

def held (station : Station) (reason : HoldReason) : State :=
  setPlate 0 (some { plate 3101 .held with held := some (station, reason) }) up

/-- Slot 1 of the recipes holds the recipe. -/
def recipe : Recipe := { name := [65#8], process := proc }
def cookbook (s : State) : State :=
  modRss (fun r => { r with working := { r.working with recipes := r.working.recipes.set 0 (some recipe) } }) s

def run : RunRecord :=
  { slot := 0, plateId := 3101, target := 900000, eSet := 1600, level := 80, eRef := 1600, nNom := 282, nCap := 423,
    accumulator := 0, lampSamples := 0, segment := 1, segSamples := 0, windowIndex := 1, windowCount := 0, windowSum := 0,
    dark := 0, recording := true, weakNoted := false }

/-- The back run of the plate in slot 1 is INTEGRATING, its lamp ON. -/
def lit (r : RunRecord) : State := setLamp .back ⟨some 80, false⟩ (setChannel .back (.integrating r) (one .exposing))

def entry : TransportEntry :=
  { slot := 0, plateId := 3101, length := 1200, increment := 420, position := 0, committed := false, stall := 0 }

/-- The transport runs with the entries given, its drives ON. -/
def washing (l : List TransportEntry) : State :=
  setDrive .transport ⟨.on (.value 480), false⟩ (setDrive .brushes ⟨.on .none, false⟩
    (modWou (fun w => { w with list := l, transport := .running, speed := 480 }) (one .washing)))

def elevator (e : ElevatorState) (r : Option ElevatorRequest) (s : State) : State :=
  modTrc (fun t => { t with elevator := e, request := r }) s

def parsing (p : Parser) : State := modLnk (fun l => { l with parser := p }) up

def saving (name : BankName) : State := modRss (fun r => { r with save := some ⟨name, 7#8⟩ }) up

def replenishing (r : Replenishment) : State := modWou (fun w => { w with replenish := r }) up

/-- A state in which an entry can be served. -/
theorem servable (e : RxEntry) (s : State)
    (h : (s.powered && s.flt.lineState != .init && s.rss.save.isNone && s.lnk.inService.isNone) = true) :
    Servable e s := by
  simp only [Bool.and_eq_true, bne_iff_ne, Option.isNone_iff_eq_none] at h
  exact ⟨h.1.1.1, h.1.1.2, h.1.2, .inl h.2⟩

/-- The state as the debounce of line `i` finds it that has the line change to `active`. -/
def due (i : Fin 12) (active : Bool) (s : State) : State := setInput i ⟨active, !active, some 20⟩ s

theorem changes {i : Fin 12} {fn : InputFunction} {active : Bool} {s : State}
    (h : s.powered = true ∧ (inputCfg s i).function = fn ∧ (∀ j, j ≠ i → (inputCfg s j).function ≠ fn)
      ∧ (inputAt s i).active = !active ∧ (inputAt s i).timer ≠ none) : Changes i fn active s :=
  ⟨h.1, h.2.1, h.2.2.1, h.2.2.2.1, h.2.2.2.2⟩

/-- A property of every record, tried slot by slot. -/
theorem every_record {s : State} {P : Slot → PlateRecord → Prop} (h : ∀ k, ∀ p ∈ plateAt s k, P k p) :
    ∀ k p, plateAt s k = some p → P k p := fun k p e => h k p e

/-! ### Operands, coding and the worked values of the manual -/

/-- A tag above 65534, a frame that fits named BAD_LENGTH, one that names no request named BAD_LENGTH, and a request's
kind named UNKNOWN_KIND are refused by name (log 33). -/
theorem test_ill_formed_operands_are_refused :
    exec (.intakeTagArrival 65535) up = .refused .illFormed
    ∧ exec (.finisherTagArrival 65535) up = .refused .illFormed
    ∧ exec (.badLength (some ⟨16, 1, []⟩)) up = .refused .illFormed
    ∧ exec (.badLength (some ⟨20, 1, [0]⟩)) up = .refused .illFormed
    ∧ exec (.unknownKind ⟨16, 1, []⟩) up = .refused .illFormed :=
  ⟨rfl, rfl, rfl, rfl, rfl⟩

/-- A body of 299 bytes is ill-formed for every request, and one of 298 is not (R185). -/
theorem test_long_bodies_are_ill_formed :
    ∀ c ∈ [Instr.lineStatus 0, .lineHold 0, .lineResume 0, .lineReset 0, .plateAdd 0, .plateRead 0,
        .plateAmend 0, .plateCancel 0, .queueRead 0, .queueMove 0, .plateResume 0, .plateEject 0, .plateRetire 0,
        .recipeWrite 0, .recipeRead 0, .recipeDelete 0, .calWrite 0, .calRead 0, .configWrite 0, .configRead 0,
        .storeSave 0, .solventRead 0, .replenishNow 0, .bathChanged 0, .dryerSet 0, .dryerRead 0, .faultRead 0,
        .faultClear 0, .faultMask 0, .traceRead 0, .traceClear 0, .attnEnable 0, .attnClear 0, .outputSet 0],
      ∀ body : List Byte, (body.length = 299 → (c body).wellFormed = false)
        ∧ (body.length = 298 → (c body).wellFormed = true) := by
  intro c listed body
  have long : body.length = 299 → bodyInFrame body = false := fun h => by simp [bodyInFrame, h]
  have short : body.length = 298 → bodyInFrame body = true := fun h => by simp [bodyInFrame, h]
  fin_cases listed <;> exact ⟨long, short⟩

/-- The long body is refused in its turn. -/
theorem test_long_body_is_refused (body : List Byte) (h : body.length = 299) :
    exec (.plateAdd 0 body) up = .refused .illFormed := by
  simp [exec, execPlateAdd, request, eventIf, bodyInFrame, h]

/-- The table gives no row bits, so no word spells a command. -/
theorem test_no_word_spells_a_command : decodeTableWord 8 213 = none ∧ State.reset.withFetchWord 8 213 = State.reset :=
  ⟨rfl, rfl⟩

/-- R185: the generator x¹⁶ + x¹² + x⁵ + 1 from 65535, most significant bit first, no inversion: over the digits 1 to 9
in ASCII this check is known to give 29B1. -/
theorem test_crc_check_value :
    crc [0x31, 0x32, 0x33, 0x34, 0x35, 0x36, 0x37, 0x38, 0x39] = 0x29B1#16 := by decide +kernel

/-- The worked values of 3.7: E, E_ref, N_nom, N_cap, and what a resume of 20 percent adds to the cap. -/
theorem test_values_of_3_7 :
    irradiance ⟨40, 1300, 2000, 1000⟩ 1520 = 1878 ∧ referenceIrradiance 2000 80 0 = 1600
    ∧ nominalSamples 900 1600 = 282 ∧ 282 * proc.exposureStretch / 100 = 423 ∧ capRaise 282 20 = 56 := by decide

/-- The worked levels of 3.8: 80 to 77, 77 stands, 95 to 100, and the weak window at 1600 but not at 1620. -/
theorem test_levels_of_3_8 :
    regulatedLevel 80 1800 1878 = 77 ∧ regulatedLevel 77 1800 1808 = 77 ∧ regulatedLevel 95 1800 1500 = 100
    ∧ weakWindow { run with level := 100, eSet := 1800 } 1600 = true
    ∧ weakWindow { run with level := 100, eSet := 1800 } 1620 = false := by decide

/-- The worked increments, speeds, run time and loadings of 5.10. -/
theorem test_values_of_5_10 :
    loadingIncrement 120 (plate 1 .exposed) = 420
    ∧ loadingIncrement 120 { plate 2 .exposed with width := 800, length := 1000, coverage := 50 } = 200
    ∧ loadingIncrement 120 { plate 3 .exposed with length := 1000, relief := 1000, coverage := 40 } = 500
    ∧ plateSpeed 600 15000 3000 = 480 ∧ plateSpeed 640 15000 3420 = 494 ∧ plateSpeed 528 15000 3620 = 400
    ∧ runTime defaultCalibration.wash = 36 ∧ lambdaAfterExchange 4120 10 = 3708
    ∧ lambdaAfterStop 4120 36 18 10 = 3914 ∧ lambdaAfterExchange 3914 10 = 3523 := by decide

/-- The band of 6.9 at setpoint 60: 53 is below, 56 within, and the ends 55 and 65 within. -/
theorem test_bands_of_6_9 :
    classify 60 53 = .below ∧ classify 60 56 = .inBand ∧ classify 60 55 = .inBand ∧ classify 60 65 = .inBand
    ∧ classify 60 66 = .above ∧ isOverdry ⟨600, 600, false⟩ 1660 1960 = false
    ∧ isOverdry ⟨600, 600, false⟩ 1660 1961 = true := by decide

/-- The travel limits of 8.8: from 7 to 0 in 24 s, from 2 to 0 in 14 s. -/
theorem test_limits_of_8_8 : travelLimit 7 0 = 24000 ∧ travelLimit 2 0 = 14000 := by decide

/-! ### Single steps -/

/-- The field `f` of the state a command leaves. -/
def after {α : Type} (c : Instr) (s : State) (f : State → α) : Option α :=
  match exec c s with
  | .next t => some (f t)
  | _ => none

/-- 5.10 and R109: a pump fault at t = 18 of 36 s takes λ from 4120 to 3914 and aborts; R108: at t = T the run is complete,
and λ is 3708. -/
theorem test_pump_fault_of_5_10 :
    let s (pumped : Nat) := setDrive .pump ⟨.on .none, false⟩
      (modWou (fun w => { w with lambda := 4120, replenish := .running ⟨36, pumped, 10⟩ }) up)
    let seen (t : State) := (t.wou.lambda, t.wou.replenish, isSet .replenishAbort t)
    after (.overcurrentTrip .pump) (s 18999) seen = some (3914, .pending, true)
    ∧ after (.overcurrentTrip .pump) (s 36000) seen = some (3708, .none, false) := by decide +kernel

/-- 11.7: an entry that comes while another waits and a third is in service is discarded with LINK_OVERRUN. -/
theorem test_overrun_of_11_7 :
    let busy := modLnk (fun l => { l with inService := some (.frame ⟨55, 1, []⟩)
                                          rx := [.frame ⟨33, 2, [1, 0, 1]⟩, .frame ⟨36, 3, []⟩] }) (saving .b)
    after (.lineStatus 4 []) busy (fun t => (t.lnk.rx.length, isSet .linkOverrun t)) = some (2, true)
    ∧ after (.storeSaveEnd true) busy (fun t => (t.lnk.inService, t.lnk.rx.length))
        = some (some (.frame ⟨33, 2, [1, 0, 1]⟩), 1) := by decide +kernel

/-- 2.8: λ_max 4500 under λ_repl 5000 is refused; 7000 with a fraction of 60 is stored as 50, CLAMPED. -/
theorem test_writes_of_2_8 :
    let group (lambdaMax : Nat) := b2 1200 ++ b2 400 ++ b2 120 ++ b2 12000 ++ b2 5000 ++ b2 lambdaMax ++ [60, 20, 5, 28]
    after (.calWrite 1 (16 :: group 4500)) up (fun t => (t.lnk.tx.map (·.body), t.rss.working.cal.wash.lambdaMax))
      = some ([[5]], 6000)
    ∧ after (.calWrite 1 (16 :: group 7000)) up (fun t => (t.lnk.tx.map (fun f => f.body.take 1),
        t.rss.working.cal.wash.lambdaMax, t.rss.working.cal.wash.exchange)) = some ([[1]], 7000, 50) := by decide +kernel

/-- 8.8: a put raised at level 7 travels to level 0, and the choice of takes is the oldest done time, lowest drawer. -/
theorem test_choices_of_8_8 :
    let map : State := setDrawer 0 (.dryDone 2 5203 5000) (setDrawer 2 (.dryDone 5 5206 4900)
      (setDrawer 5 (.dryDone 9 5210 4900) up))
    (takeChoice map).map (fun x => x.1) = some 2 := by decide +kernel

/-- 9.6: the brushes trip; channel 2 goes OFF, channel 3 is in FAULT, the heater and lamp 2 stay ON. -/
theorem test_trip_of_9_6 :
    after (.overcurrentTrip .brushes)
        (setDrive .heater ⟨.on (.value 60), false⟩ (setLamp .main ⟨some 77, false⟩ (washing [entry])))
        (fun t => ([driveState .transport t, driveState .brushes t, driveState .heater t], lampLevel .main t,
          t.wou.transport, (outputAt t 0).driven))
      = some ([.off, .fault, .on (.value 60)], some 77, .stoppedByFault, true) := by decide +kernel

/-- 10.5: the watchdog's expiry: SAFE_HOLD, LINK_LOSS, and FAULT and LINE_STATE pending. -/
theorem test_lost_host_of_10_5 :
    after .watchdogExpiry (modLnk (fun l => { l with watchdog := some ⟨120000, 120⟩, attnPending := 0 }) up)
        (fun t => (t.flt.lineState, t.flt.cause, t.flt.flags, t.lnk.attnPending))
      = some (.safeHold, .linkLoss, 2#35, 36#6) := by decide +kernel

/-- 1.8: a tag read out of order draws in the order it names; the entry before it stays at the head. -/
theorem test_tag_of_1_8 :
    let two := modExu (fun e => { e with readInProgress := true })
      (modPtb (fun t => { t with queue := [0, 1] }) (setPlate 1 (some (plate 3103 .queued)) (one .queued)))
    after (.intakeTagArrival 3103) two (fun t => (t.ptb.queue, plateState t 1, (plateAt t 1).bind (·.intakePosition),
      t.exu.state)) = some ([0], some .loading, some 2, .load) := by decide +kernel

/-- 7.8: a no-read holds the plate at the finisher with tag read 0. -/
theorem test_no_read_of_7_8 :
    after (.finisherTagArrival 0) (modLfn (fun l => { l with state := .check, plate := some 0 }) (one .dryDone))
        (fun t => (t.lfn.state, t.lfn.tagRead, (plateAt t 0).bind (·.held), isSet .orderMismatch t))
      = some (.held, some 0, some (.lfn, .orderMismatch), true) := by decide +kernel

/-- R185: the bytes of a LINE_STATUS reply of status OK on the line: sync, length, kind, tag, body, check. -/
theorem test_reply_on_the_line :
    (lineBytes 16 7 [0]).take 6 = [213, 0, 3, 16, 7, 0] ∧ (lineBytes 16 7 [0]).length = 8
    ∧ (lineBytes 16 7 [0]).drop 6
        = [BitVec.ofNat 8 ((crc [0, 3, 16, 7, 0]).toNat / 256), BitVec.ofNat 8 (crc [0, 3, 16, 7, 0]).toNat] := by
  decide +kernel

/-- R161: a write of a line's debounce time alone, while its timer runs, stops the timer and changes no state. -/
theorem test_debounce_write_keeps_the_state :
    after (.configWrite 7 [1, 1, 2, 2, 0, 30]) (due 1 true up) (fun t => (inputAt t 1, (inputCfg t 1).debounce))
      = some (⟨true, false, none⟩, 30) := by decide +kernel

/-- R163: a CONFIG_WRITE whose settings change a driven state starts the hold of the width it carries. -/
theorem test_output_write_starts_the_hold :
    after (.configWrite 7 [2, 1, 8, 2, 1, 0, 100]) up (fun t => outputAt t 7) = some ⟨false, true, some 0⟩ := by
  decide +kernel

/-- R190: a valid frame in INIT starts the timer at its arrival; one before the hand-over starts it at the hand-over. -/
theorem test_watchdog_starts_in_init :
    let s := modLnk (fun l => { l with parser := .check [16, 7] (some 153) }) State.reset
    let early := modLnk (fun l => { l with handed := false }) s
    after (.frameComplete 52) s (fun t => t.lnk.watchdog) = some (some ⟨0, 120⟩)
    ∧ after (.frameComplete 52) early (fun t => (t.lnk.watchdog, (handOverWatchdog t).lnk.watchdog))
        = some (none, some ⟨0, 120⟩) := by decide +kernel

/-- R175: the watchdog's expiry in INIT sets LINK_LOSS and leaves the line state and the last cause. -/
theorem test_watchdog_expiry_in_init :
    after .watchdogExpiry (modLnk (fun l => { l with watchdog := some ⟨10000, 10⟩ }) State.reset)
      (fun t => (t.flt.lineState, t.flt.cause, isSet .linkLoss t, t.lnk.watchdog)) = some (.init, .startUp, true, none) := by
  decide +kernel

/-- R34: CAL_READ ends with the hours of the counters area, 1 for BACK, while DIN has counted 2 and a write waits. -/
theorem test_lamp_hours_of_the_area :
    let s := modDin (fun d => { d with lampOn := ⟨7200, 0, 0, 0⟩ }) (modRss (fun r => { r with
      counters := ⟨6000, ⟨7199, 0, 0, 0⟩, true⟩, countersWriting := true, countersWaiting := true }) up)
    after (.calRead 7 []) s (fun t => t.lnk.tx.map (fun f => f.body.drop (f.body.length - 16)))
      = some [[0, 0, 0, 1] ++ List.replicate 12 0] := by decide +kernel

/-- R178, R181: LINE_RESET clears the flags and then detects the lasting ones anew; a FAULT_ANY line with a minimum pulse
that falls between the two holds its new state. -/
theorem test_reset_shows_the_fall_of_fault_any :
    let s := setOutput 0 ⟨false, true, none⟩ (modRss (fun r => { r with working := { r.working with cfg := { r.working.cfg with
      outputs := r.working.cfg.outputs.set 0 ⟨.faultAny, false, 100⟩ } } })
      (modWou (fun w => { w with tempOutside := true }) (flagged (flagBit .washTemp) up)))
    after (.lineReset 7 []) s (fun t => (isSet .washTemp t, outputAt t 0)) = some (true, ⟨false, false, some 0⟩) := by
  decide +kernel

/-! ### Witnesses: states and operands that meet the hypotheses of the statements -/

/-- A link frame's entry in service, as one that cannot yet be served finds it. -/
def occupied : State := modLnk (fun l => { l with inService := some .badCheck }) up

/-- The table with one QUEUED record is lawful (R2, R11). -/
theorem queued_lawful : TableLawful queued := by
  have only : ∀ k : Slot, k ≠ 0 → plateAt queued k = none := by decide +kernel
  refine ⟨fun j k p q hj hk _ => ?_, by decide +kernel, by decide +kernel, by decide +kernel⟩
  by_cases a : j = 0 <;> by_cases b : k = 0 <;> simp_all

theorem test_witness_CommandsAreTaken :
    exec .exitMark up = .next up
    ∧ (Instr.intakeTagArrival 65534).wellFormed = true ∧ (Instr.intakeTagArrival 65535).wellFormed = false
    ∧ State.blank.powered = false ∧ ∀ levels, Instr.exitMark ≠ .powerOn levels :=
  ⟨rfl, rfl, rfl, rfl, nofun⟩

theorem test_witness_RequestsWaitTheirTurn :
    requestFrame (.lineStatus 7 []) = some ⟨16#8, 7, []⟩
    ∧ (State.reset.powered = true ∧ State.reset.flt.lineState = .init ∧ State.reset.lnk.inService = none
        ∧ RxEntry.frame ⟨16#8, 7, []⟩ ∉ State.reset.lnk.rx ∧ State.reset.lnk.rx.length < 2)
    ∧ (let s := modLnk (fun l => { l with rx := [.badCheck] }) occupied
       s.powered = true ∧ (∃ e, s.lnk.inService = some e ∧ e ≠ .frame ⟨16#8, 7, []⟩)
        ∧ s.lnk.inService ≠ some (.frame ⟨16#8, 7, []⟩) ∧ RxEntry.frame ⟨16#8, 7, []⟩ ∉ s.lnk.rx ∧ s.lnk.rx.length = 1)
    ∧ (let s := modLnk (fun l => { l with rx := [.badCheck, .badLength] }) occupied
       s.lnk.inService ≠ some (.frame ⟨16#8, 7, []⟩) ∧ RxEntry.frame ⟨16#8, 7, []⟩ ∉ s.lnk.rx ∧ 2 ≤ s.lnk.rx.length) :=
  ⟨rfl, by decide, ⟨rfl, ⟨.badCheck, rfl, nofun⟩, by decide, by decide, rfl⟩, by decide⟩

theorem test_witness_EntriesAreAnswered :
    (∀ e, Servable e up)
    ∧ (namesRequest 16#8 ∧ bodyFits ⟨16#8, 7, [0]⟩ = false) ∧ (namesRequest 98#8 ∧ bodyFits ⟨98#8, 7, [1]⟩ = false)
    ∧ ¬ namesRequest 20#8 ∧ ¬ namesRequest 15#8 ∧ ¬ namesRequest 99#8
    ∧ requestFrame (.plateAmend 7 [1, 0, 1, 1]) = some ⟨34#8, 7, [1, 0, 1, 1]⟩
    ∧ bodyFits ⟨34#8, 7, [1, 0, 1, 1]⟩ = false
    ∧ (∀ e, let s := modLnk (fun l => { l with inService := some e }) up
       s.powered = true ∧ s.flt.lineState ≠ .init ∧ s.rss.save = none ∧ s.pending = [] ∧ s.lnk.inService = some e)
    ∧ (requestFrame (.outputSet 7 []) = some ⟨98#8, 7, []⟩ ∧ bodyFits ⟨98#8, 7, []⟩ = true) :=
  ⟨fun e => servable e up rfl, by unfold namesRequest; decide, by unfold namesRequest; decide,
   by unfold namesRequest; decide, by unfold namesRequest; decide, by unfold namesRequest; decide, rfl, rfl,
   fun _ => ⟨rfl, nofun, rfl, rfl, rfl⟩, rfl, rfl⟩

theorem test_witness_FramesArriveWhole :
    up.powered = true ∧ up.lnk.parser = .hunt ∧ (List.replicate 298 (0#8)).length ≤ 298
    ∧ (State.reset.powered = true ∧ State.reset.lnk.parser = .hunt ∧ State.reset.flt.lineState = .init
      ∧ State.reset.lnk.handed = true)
    ∧ (modLnk (fun l => { l with rx := [.badCheck] }) up).lnk.rx.length < 2 := by decide +kernel

theorem test_witness_BytesAreParsed :
    ((parsing .hunt).powered = true ∧ (parsing .hunt).lnk.parser = .hunt)
    ∧ (parsing (.length none)).lnk.parser = .length none
    ∧ ((parsing (.length (some 0))).lnk.parser = .length (some 0#8) ∧ 2 ≤ (0#8).toNat * 256 + (2#8).toNat)
    ∧ ((parsing (.length (some 1))).lnk.parser = .length (some 1#8) ∧ (1#8).toNat * 256 + (44#8).toNat ≤ 300)
    ∧ ((parsing (.body 2 [])).lnk.parser = .body 2 [] ∧ ([] : List Byte).length + 1 < 2)
    ∧ ((parsing (.body 2 [16])).lnk.parser = .body 2 [16] ∧ 2 ≤ [16#8].length + 1)
    ∧ (parsing (.check [16, 7] none)).lnk.parser = .check [16, 7] none
    ∧ (let s := modLnk (fun l => { l with inService := some .badLength }) (parsing (.check [16, 7] (some 153)))
       s.lnk.parser = .check [16, 7] (some 153) ∧ (crc (b2 2 ++ [16, 7])).toNat ≠ (153#8).toNat * 256 + (0#8).toNat
        ∧ s.lnk.rx.length < 2 ∧ s.lnk.inService ≠ none)
    ∧ (let s := modLnk (fun l => { l with rx := [.badCheck, .badCheck] }) (parsing (.check [16, 7] (some 153)))
       (crc (b2 2 ++ [16, 7])).toNat = (153#8).toNat * 256 + (52#8).toNat ∧ 2 ≤ s.lnk.rx.length
        ∧ s.rss.working.cfg.watchdog ≠ 0 ∧ s.lnk.handed = true
        ∧ (modLnk (fun l => { l with handed := false }) s).lnk.handed = false)
    ∧ (parsing (.check [16, 7] (some 153))).lnk.rx.length < 2
    ∧ (0#8).toNat * 256 + (1#8).toNat < 2 ∧ 300 < (1#8).toNat * 256 + (45#8).toNat := by decide +kernel

theorem test_witness_SilenceOnTheLink :
    up.powered = true ∧ up.lnk.parser = .hunt ∧ (parsing (.length none)).lnk.parser ≠ .hunt ∧ up.lnk.watchdog = none
    ∧ (let s := modLnk (fun l => { l with watchdog := some ⟨120000, 120⟩ }) up
       s.lnk.watchdog ≠ none ∧ s.flt.lineState = .run)
    ∧ (let s := inLine .stopped (modLnk (fun l => { l with watchdog := some ⟨120000, 120⟩ }) up)
       s.lnk.watchdog ≠ none ∧ s.flt.lineState ≠ .run) := by decide +kernel

theorem test_witness_TransmitterChooses :
    (State.reset.powered = true ∧ State.reset.lnk.attnMark = true
      ∧ State.reset.lnk.attnPending &&& State.reset.rss.working.cfg.attention ≠ 0#6)
    ∧ (let s := modLnk (fun l => { l with attnPending := 0, tx := [⟨16, 7, [0]⟩] }) State.reset
       s.lnk.attnMark = true ∧ s.lnk.attnPending &&& s.rss.working.cfg.attention = 0#6 ∧ s.lnk.tx = [⟨16, 7, [0]⟩])
    ∧ (let s := modLnk (fun l => { l with attnMark := false }) State.reset
       (s.lnk.attnMark = true → s.lnk.attnPending &&& s.rss.working.cfg.attention = 0#6) ∧ s.lnk.tx = [])
    ∧ (let s := modLnk (fun l => { l with attnMark := false, tx := [⟨16, 7, [0]⟩] }) State.reset
       s.pending = [] ∧ s.lnk.inService = none ∧ s.lnk.sending = none ∧ s.lnk.tx ≠ []) := by
  decide +kernel

theorem test_witness_ReportsAreTakenOnce :
    attnHas State.reset.lnk.attnPending .fault = true ∧ attnHas State.reset.lnk.attnPending .lineState = false
    ∧ isSet .storeCheck State.reset = true ∧ isSet .linkBadcheck State.reset = false
    ∧ Notice.overdry ∈ { plate 1 .dryDone with notices := [.overdry] }.notices
    ∧ (Notice.overdry ∉ (noticeCodes.take 7) ∧ (noticeCodes.take 7).length < 8)
    ∧ (Notice.overdry ∉ (noticeCodes.take 8) ∧ 8 ≤ (noticeCodes.take 8).length) := by decide +kernel

theorem test_witness_AttentionRequests :
    (∀ e, Servable e up) ∧ 64 ≤ (64#8).toNat ∧ (63#8).toNat < 64 :=
  ⟨fun e => servable e up rfl, by decide, by decide⟩

theorem test_witness_PowerOnAndLoss :
    (let r := setBank .a { blankBank with saveNumber := 17, valid := true } up.rss
     currentBank r = some .a ∧ currentBank up.rss = none)
    ∧ up.rss.counters.valid = true ∧ State.blank.rss.counters.valid = false
    ∧ (State.blank.lnk.heard = false ∧ (modLnk (fun l => { l with heard := true }) State.blank).lnk.heard = true)
    ∧ up.powered = true := by decide +kernel

theorem test_witness_StartUpEndsInit :
    (State.reset.powered = true ∧ State.reset.flt.lineState = .init ∧ State.reset.trc.pendingPut = none
      ∧ inhibitActive State.reset = false ∧ driveFaulted .heater State.reset = false
      ∧ isSet .dryerOvertemp State.reset = false)
    ∧ inhibitActive (setInput 0 ⟨true, true, none⟩ State.reset) = true ∧ (7 : Fin 8) ≠ 0 ∧ up.flt.lineState ≠ .init := by
  decide +kernel

theorem test_witness_CountersWriteEnds :
    (State.reset.powered = true ∧ State.reset.rss.countersWriting = true ∧ State.reset.rss.countersWaiting = false)
    ∧ (let s := modRss (fun r => { r with countersWaiting := true }) State.reset
       s.rss.countersWriting = true ∧ s.rss.countersWaiting = true ∧ s.rss.save = none) := by decide +kernel

theorem test_witness_StoreSave :
    (∀ e, Servable e up) ∧ currentBank up.rss = none
    ∧ currentBank (setBank .a { blankBank with valid := true } up.rss) = some .a
    ∧ currentBank (setBank .b { blankBank with valid := true } up.rss) = some .b
    ∧ ((saving .b).powered = true ∧ (saving .b).flt.lineState ≠ .init ∧ (saving .b).rss.save = some ⟨.b, 7⟩
        ∧ (saving .b).rss.countersWaiting = false)
    ∧ (let r := setBank .a { blankBank with saveNumber := 4294967295, valid := true } up.rss
       r.bankA.saveNumber < 4294967296 ∧ r.bankB.saveNumber < 4294967296) :=
  ⟨fun e => servable e up rfl, by decide +kernel, by decide +kernel, by decide +kernel, by decide +kernel,
   by decide +kernel⟩

/-- Input line 12 with debounce 0. -/
def undebounced : State :=
  modRss (fun r => { r with working := { r.working with cfg := { r.working.cfg with
    inputs := r.working.cfg.inputs.set 11 ⟨.none, false, 0⟩ } } }) up

theorem test_witness_LinesAreDebouncedAndHeld :
    (up.powered = true ∧ (inputAt up 1).raw = false)
    ∧ (let s := setInput 1 ⟨true, false, some 19⟩ up
       (inputAt s 1).raw ≠ false ∧ (false != (inputCfg s 1).invert) = (inputAt s 1).active)
    ∧ ((inputAt up 1).raw ≠ true ∧ (true != (inputCfg up 1).invert) ≠ (inputAt up 1).active
        ∧ (inputCfg up 1).debounce ≠ 0)
    ∧ ((inputAt undebounced 11).raw ≠ true ∧ (true != (inputCfg undebounced 11).invert) ≠ (inputAt undebounced 11).active
        ∧ (inputCfg undebounced 11).debounce = 0 ∧ (inputCfg undebounced 11).function = .none)
    ∧ (let s := modRss (fun r => { r with working := { r.working with cfg := { r.working.cfg with
         inputs := r.working.cfg.inputs.set 0 ⟨.inhibit, false, 0⟩ } } }) up
       (inputAt s 0).raw ≠ true ∧ (true != (inputCfg s 0).invert) ≠ (inputAt s 0).active
        ∧ (inputCfg s 0).debounce = 0 ∧ (inputCfg s 0).function = .inhibit)
    ∧ (inputAt up 11).timer = none
    ∧ (let s := setInput 11 ⟨true, false, some 20⟩ up
       (inputAt s 11).timer ≠ none ∧ (inputCfg s 11).function = .none)
    ∧ (outputAt up 7).hold = none
    ∧ (let s := setOutput 7 ⟨true, false, some 5⟩ up
       (outputAt s 7).hold ≠ none ∧ wantedState s (outputCfg s 7) (outputAt s 7).user = (outputAt s 7).driven)
    ∧ (let s := setOutput 1 ⟨false, false, some 5⟩ up
       (outputAt s 1).hold ≠ none ∧ wantedState s (outputCfg s 1) (outputAt s 1).user ≠ (outputAt s 1).driven) := by
  decide +kernel

/-- A back run INTEGRATING with its lamp ON, and the transport running. -/
def working : State :=
  modWou (fun w => { w with list := [{ entry with slot := 1 }], transport := .running, speed := 480 })
    (setDrive .transport ⟨.on (.value 480), false⟩ (lit run))

theorem test_witness_InhibitStopsTheLine :
    let s := setInput 0 ⟨true, false, some 10⟩ working
    s.powered = true ∧ (inputCfg s 0).function = .inhibit ∧ (inputAt s 0).active = false ∧ (inputAt s 0).timer ≠ none
    ∧ driveIsOn .transport s = true ∧ lampIsOn .back s = true ∧ channelAt s .back = .integrating run
    ∧ s.flt.lineState = .run ∧ (inLine .init s).flt.lineState = .init := by decide +kernel

theorem test_witness_InhibitIsReleased :
    let s := setInput 0 ⟨false, true, some 10⟩ (inLine .stopped up)
    s.powered = true ∧ (inputCfg s 0).function = .inhibit ∧ (inputAt s 0).active = true ∧ (inputAt s 0).timer ≠ none
    ∧ (∀ j : Fin 12, j ≠ 0 → (inputCfg s j).function ≠ .inhibit) ∧ s.flt.lineState = .stopped
    ∧ isSet .dryerOvertemp s = false := by decide +kernel

theorem test_witness_LidOpens :
    (let s := setInput 1 ⟨true, false, some 20⟩ working
     s.powered = true ∧ (inputCfg s 1).function = .exuLid ∧ (inputAt s 1).active = false ∧ (inputAt s 1).timer ≠ none
      ∧ channelAt s .back = .integrating run)
    ∧ (modExu (fun e => { e with state := .load }) (setInput 1 ⟨true, false, some 20⟩ up)).exu.state = .load
    ∧ (let s := due 1 false (modExu (fun e => { e with state := .load }) up)
       Changes 1 .exuLid false s ∧ s.exu.state = .load)
    ∧ (Changes 1 .exuLid false (due 1 false up) ∧ (due 1 false up).exu.state ≠ .load
        ∧ (due 1 false up).exu.state ≠ .exposing)
    ∧ (let s := due 1 false (modExu (fun e => { e with state := .exposing, plate := some 0, substage := some .back,
                                                       paused := true })
         (setChannel .back (.paused run) (one .exposing)))
       Changes 1 .exuLid false s ∧ s.exu.state = .exposing ∧ s.exu.paused = true ∧ s.flt.lineState = .run
        ∧ isSet (.lampFail .back) s = false ∧ isSet (.lampFail .main) s = false ∧ inhibitActive s = false
        ∧ s.exu.contPending = false ∧ s.exu.plate = some 0 ∧ s.exu.substage = some .back
        ∧ channelAt s Substage.back.channel = .paused run ∧ run.slot = 0) :=
  ⟨by decide +kernel, rfl, ⟨changes (by decide +kernel), rfl⟩, ⟨changes (by decide +kernel), by decide +kernel⟩,
   ⟨changes (by decide +kernel), by decide +kernel⟩⟩

theorem test_witness_OutputSet :
    (∀ e, Servable e up)
    ∧ (let allowed (pairs : List (Byte × Byte)) :=
         (∀ p ∈ pairs, 1 ≤ p.1.toNat ∧ p.1.toNat ≤ 8 ∧ p.2.toNat ≤ 1) ∧ (pairs.map (·.1)).Nodup
       allowed [] ∧ allowed [(1, 0), (8, 1)] ∧ ¬ allowed [(0, 1)] ∧ ¬ allowed [(9, 1)] ∧ ¬ allowed [(1, 2)]
        ∧ ¬ allowed [(1, 0), (1, 1)]) :=
  ⟨fun e => servable e up rfl, by
    dsimp only
    refine ⟨?_, ?_, ?_, ?_, ?_, ?_⟩ <;> simp⟩

theorem test_witness_OvercurrentTrips :
    (up.powered = true ∧ driveIsOn .elevator up = false)
    ∧ (driveIsOn .transport (washing [entry]) = true ∧ (washing [entry]).wou.transport = .running)
    ∧ (let s (pumped : Nat) := setDrive .pump ⟨.on .none, false⟩ (replenishing (.running ⟨36, pumped, 10⟩))
       driveIsOn .pump (s 18000) = true ∧ (s 18000).wou.replenish = .running ⟨36, 18000, 10⟩
       ∧ driveIsOn .pump (s 35999) = true ∧ 35999 < 36 * 1000
       ∧ driveIsOn .pump (s 36000) = true ∧ (s 36000).wou.replenish = .running ⟨36, 36000, 10⟩)
    ∧ driveIsOn .elevator (setDrive .elevator ⟨.on (.phase .pick 0), false⟩ up) = true := by decide +kernel

theorem test_witness_LineHoldAndResume :
    (∀ e, Servable e up ∧ Servable e (inLine .safeHold up) ∧ Servable e (inLine .stopped up))
    ∧ up.flt.lineState = .run ∧ (inLine .safeHold up).flt.lineState = .safeHold
    ∧ (inLine .stopped up).flt.lineState = .stopped :=
  ⟨fun e => ⟨servable e _ rfl, servable e _ rfl, servable e _ rfl⟩, rfl, rfl, rfl⟩

theorem test_witness_LineReset :
    (∀ e, Servable e (one .done) ∧ Servable e (one .loading))
    ∧ (∀ k st, plateState (one .done) k = some st → st = .queued ∨ st = .done ∨ st = .scrapped)
    ∧ plateState (one .loading) 0 = some .loading := by
  refine ⟨fun e => ⟨servable e _ rfl, servable e _ rfl⟩, fun k st h => ?_, rfl⟩
  have all : ∀ k : Slot, plateState (one .done) k = none ∨ plateState (one .done) k = some .done := by decide +kernel
  rcases all k with a | a <;> simp_all

/-- The flags WASH_TEMP, SOLVENT_LIMIT and OVERDRY set, the solvent outside its band. -/
def tooWarm : State :=
  modWou (fun w => { w with tempOutside := true })
    (flagged (flagBit .washTemp ||| flagBit .solventLimit ||| flagBit .overdry) up)

theorem test_witness_FaultClear :
    (∀ e, Servable e tooWarm ∧ Servable e (flagged (flagBit (.driveFault .pump)) (setDrive .pump ⟨.fault, false⟩ up)))
    ∧ flagHas (flagBit .storeCheck) .storeCheck = true ∧ 8 ≤ (8#8).toNat
    ∧ (let named := flagBit .washTemp ||| flagBit .overdry
       flagHas named .storeCheck = false ∧ flagHas named .solventLimit = false
        ∧ (flagHas named .washTemp = true ∧ isSet .washTemp tooWarm = true ∧ conditionPresent tooWarm .washTemp = true)
        ∧ (flagHas named .overdry = true ∧ isSet .overdry tooWarm = true ∧ conditionPresent tooWarm .overdry = false)
        ∧ ∀ c, Flag.washTemp ≠ .driveFault c)
    ∧ (flagHas (flagBit .solventLimit) .solventLimit = true ∧ isSet .solventLimit tooWarm = true)
    ∧ (flagHas (flagBit (.driveFault .pump)) (.driveFault .pump) = true
        ∧ isSet (.driveFault .pump) (flagged (flagBit (.driveFault .pump)) (setDrive .pump ⟨.fault, false⟩ up)) = true) :=
  ⟨fun e => ⟨servable e _ rfl, servable e _ rfl⟩, by decide, by decide,
   ⟨by decide, by decide, by decide +kernel, by decide +kernel, nofun⟩, by decide +kernel, by decide⟩

theorem test_witness_FaultMask :
    (∀ e, Servable e up) ∧ flagHas 1#35 .inhibit = true ∧ flagHas 4#35 .storeCheck = true
    ∧ (∃ f, flagHas 8#35 f = true ∧ flagHas 10#35 f = true)
    ∧ (flagHas 2#35 .inhibit = false ∧ flagHas 2#35 .storeCheck = false
        ∧ ∀ f, flagHas 2#35 f = true → flagHas 8#35 f = false) := by
  refine ⟨fun e => servable e _ rfl, by decide, by decide, ⟨.countersCheck, by decide⟩, by decide, by decide, fun f => ?_⟩
  have all : ∀ k < 35, (2#35).getLsbD k = true → (8#35).getLsbD k = false := by decide
  exact all f.place (by cases f <;> first | decide | (rename_i ch; cases ch <;> decide))

theorem test_witness_TraceRequests :
    (∀ e, Servable e up) ∧ (0#8).toNat < 1 ∧ 32 < (33#8).toNat ∧ 1 ≤ (1#8).toNat ∧ (32#8).toNat ≤ 32 :=
  ⟨fun e => servable e _ rfl, by decide⟩

theorem test_witness_ReadsAnswer : ∀ e, Servable e up := fun e => servable e _ rfl

theorem test_witness_RecipeRead :
    (∀ e, Servable e (cookbook up)) ∧ (0#8).toNat = 0 ∧ ((1#8).toNat = (0 : Fin 24).val + 1
        ∧ recipeAt (cookbook up) 0 = some recipe) ∧ ((24#8).toNat = (23 : Fin 24).val + 1 ∧ recipeAt (cookbook up) 23 = none)
    ∧ 24 < (25#8).toNat :=
  ⟨fun e => servable e _ rfl, by decide +kernel⟩

/-- An order at the upper limits of every field but the id. -/
def order : PlateOrder := ⟨3102, 1, 1320, 2032, 6350, 4000, 255, 255⟩

theorem test_witness_PlateAdd :
    (∀ e, Servable e (cookbook queued))
    ∧ (order.plateId ≤ 65534 ∧ order.recipeNo ≤ 24 ∧ order.width ≤ 1320 ∧ order.length ≤ 2032 ∧ order.thickness ≤ 6350
        ∧ order.relief ≤ 4000 ∧ order.relief < order.thickness ∧ order.coverage < 256 ∧ order.sort = 255)
    ∧ ¬ (200 ≤ { order with width := 199 }.width)
    ∧ recipeNumbered (cookbook queued) 2 = none ∧ recipeNumbered (cookbook queued) 1 = some recipe
    ∧ (∃ p, plateAt (cookbook queued) 0 = some p ∧ p.plateId = 3101)
    ∧ (∀ k p, plateAt (cookbook queued) k = some p → p.plateId ≠ 3102)
    ∧ 16 ≤ (modPtb (fun t => { t with queue := List.replicate 16 0 }) queued).ptb.queue.length
    ∧ (∀ k, plateAt (modPtb (fun t => { t with plates := Vector.replicate 40 (some (plate 1 .done)) }) up) k ≠ none)
    ∧ ((cookbook queued).ptb.queue.length < 16 ∧ plateAt (cookbook queued) 1 = none
        ∧ ∀ j : Slot, j < 1 → plateAt (cookbook queued) j ≠ none) := by
  refine ⟨fun e => servable e _ rfl, by decide, by decide, by decide +kernel, by decide +kernel, ⟨_, rfl, rfl⟩,
    every_record ?_, by decide, by decide +kernel, by decide +kernel⟩
  decide +kernel

theorem test_witness_PlateSelectors :
    TableLawful queued ∧ (∀ e, Servable e queued) ∧ selectorOf 3 0 1 = none ∧ selectorOf 1 0 41 = none
    ∧ (1#8 = 1#8 ∧ plateAt queued 0 ≠ none) ∧ (1 ≤ (255#8).toNat * 256 + (254#8).toNat
        ∧ (255#8).toNat * 256 + (254#8).toNat ≤ 65534)
    ∧ (selectorOf 1 0 40 ≠ none ∧ selected 1 0 40 queued = none) :=
  ⟨queued_lawful, fun e => servable e _ rfl, by decide +kernel⟩

theorem test_witness_PlateReadCancelMoveRetire :
    (∀ e, Servable e queued ∧ Servable e (one .done) ∧ Servable e (one .loading))
    ∧ (selected 1 0 1 queued = some 0 ∧ plateAt queued 0 = some (plate 3101 .queued) ∧ (0 : Slot) ∈ queued.ptb.queue)
    ∧ (selected 2 12 29 (one .done) = some 0 ∧ plateAt (one .done) 0 = some (plate 3101 .done))
    ∧ (selected 1 0 1 (one .loading) = some 0 ∧ plateAt (one .loading) 0 = some (plate 3101 .loading)) :=
  ⟨fun e => ⟨servable e _ rfl, servable e _ rfl, servable e _ rfl⟩, by decide +kernel⟩

/-- An amendment of every field, within its ranges; and one of nothing. -/
def amendment : Amendment := ⟨some 3102, some 1, some 200, some 2032, some 760, some 759, some 101, some 255⟩

theorem test_witness_PlateAmend :
    (∀ e, Servable e (cookbook queued) ∧ Servable e (cookbook (one .loading)))
    ∧ ¬ (∀ n, (some 16 : Option Nat) = some n → n ≤ 15 ∨ n = 255)
    ∧ (amendment.plateId.all (· < 65536) = true ∧ amendment.coverage.all (· < 256) = true
        ∧ amendment.sort.all (· < 256) = true)
    ∧ selectorOf 0 0 1 = none ∧ (selectorOf 1 0 2 ≠ none ∧ selected 1 0 2 (cookbook queued) = none)
    ∧ (selected 1 0 1 (cookbook queued) = some 0 ∧ plateAt (cookbook queued) 0 = some (plate 3101 .queued))
    ∧ (some 600 : Option Nat).getD 2840 ≤ (plate 3101 .queued).relief
    ∧ amendment.relief.getD 600 < amendment.thickness.getD 2840
    ∧ recipeNumbered (cookbook queued) 2 = none ∧ recipeNumbered (cookbook queued) 1 ≠ none
    ∧ (∃ j, slotOfId (modPtb (fun t => { t with plates := t.plates.set 1 (some (plate 3102 .done)) }) queued) 3102 = some j
        ∧ j ≠ 0)
    ∧ slotOfId (cookbook queued) 3102 = none := by
  refine ⟨fun e => ⟨servable e _ rfl, servable e _ rfl⟩, fun h => ?_, by decide, by decide, by decide +kernel,
    by decide +kernel, by decide, by decide, by decide +kernel, by decide +kernel, ⟨1, by decide +kernel⟩, by decide +kernel⟩
  exact absurd (h 16 rfl) (by decide)

theorem test_witness_PlateEject :
    (∀ e, Servable e (held .exu .underdose) ∧ Servable e (held .lfn .lampFail) ∧ Servable e queued)
    ∧ (selected 1 0 1 (held .exu .underdose) = some 0
        ∧ (plateAt (held .exu .underdose) 0).map (fun r => (r.state, r.held)) = some (.held, some (.exu, .underdose)))
    ∧ (selected 1 0 1 (held .lfn .lampFail) = some 0
        ∧ (plateAt (held .lfn .lampFail) 0).map (fun r => (r.state, r.held)) = some (.held, some (.lfn, .lampFail)))
    ∧ (selected 1 0 1 queued = some 0 ∧ plateState queued 0 = some .queued)
    ∧ channelAt (setChannel .back (.ended run .underdose) (held .exu .underdose)) .back = .ended run .underdose :=
  ⟨fun e => ⟨servable e _ rfl, servable e _ rfl, servable e _ rfl⟩, by decide +kernel⟩

/-- A plate held for UNDERDOSE at the exposure unit, its back run ENDED. -/
def underdosed : State :=
  setChannel .back (.ended run .underdose)
    (modExu (fun e => { e with state := .held, plate := some 0, substage := some .back }) (held .exu .underdose))

theorem test_witness_PlateResume :
    (∀ e, Servable e underdosed ∧ Servable e (inLine .safeHold underdosed) ∧ Servable e queued
        ∧ Servable e (inLine .safeHold (held .lfn .orderMismatch)))
    ∧ ((9#8).toNat < 10 ∧ 200 < (201#8).toNat ∧ selectorOf 1 0 0 = none)
    ∧ (10 ≤ (10#8).toNat ∧ (200#8).toNat ≤ 200 ∧ selectorOf 1 0 2 ≠ none ∧ selected 1 0 2 underdosed = none)
    ∧ (selected 1 0 1 queued = some 0 ∧ plateState queued 0 = some .queued)
    ∧ (plateAt (held .exu .loadTimeout) 0).bind (·.held) = some (.exu, .loadTimeout)
    ∧ (let s := flagged (flagBit (.lampFail .back)) (modExu (fun e => { e with substage := some .back })
        (held .exu .lampFail))
       (plateAt s 0).bind (·.held) = some (.exu, .lampFail) ∧ s.exu.substage = some .back
        ∧ isSet (.lampFail Substage.back.channel) s = true)
    ∧ (let s := flagged (flagBit (.lampFail .uva)) (modLfn (fun l => { l with uva := ⟨.failed, false⟩ })
        (held .lfn .lampFail))
       (plateAt s 0).bind (·.held) = some (.lfn, .lampFail) ∧ s.lfn.uva.status = .failed
        ∧ isSet (.lampFail .uva) s = true)
    ∧ (let s := inLine .safeHold underdosed
       plateState s 0 = some .held ∧ s.flt.lineState ≠ .run ∧ (plateAt s 0).bind (·.held) = some (.exu, .underdose))
    ∧ (let s := modExu (fun e => { e with substage := some .main }) (inLine .safeHold (held .exu .lampFail))
       s.flt.lineState ≠ .run ∧ (plateAt s 0).bind (·.held) = some (.exu, .lampFail) ∧ s.exu.substage = some .main
        ∧ isSet (.lampFail Substage.main.channel) s = false)
    ∧ (let s := inLine .safeHold (held .lfn .orderMismatch)
       (plateAt s 0).bind (·.held) = some (.lfn, .orderMismatch) ∧ s.lfn.uva = ⟨.waiting, false⟩
        ∧ s.lfn.uvc = ⟨.waiting, false⟩)
    ∧ (selected 1 0 1 underdosed = some 0 ∧ plateState underdosed 0 = some .held ∧ underdosed.flt.lineState = .run
        ∧ underdosed.exu.plate = some 0 ∧ underdosed.exu.substage = some .back
        ∧ channelAt underdosed Substage.back.channel = .ended run .underdose ∧ run.slot = 0
        ∧ inhibitActive underdosed = false ∧ inputActive .exuLid underdosed = false
        ∧ isSet (.lampFail .back) underdosed = false ∧ isSet (.lampFail .main) underdosed = false) :=
  ⟨fun e => ⟨servable e _ rfl, servable e _ rfl, servable e _ rfl, servable e _ rfl⟩, by decide +kernel⟩

theorem test_witness_RecipeWriteAndDelete :
    (∀ e, Servable e (cookbook up)) ∧ recipe.name.length ≤ 16 ∧ (∀ b ∈ recipe.name, 32 ≤ b.toNat ∧ b.toNat ≤ 126)
    ∧ (∀ lp ∈ [proc.back, proc.main, proc.uva, proc.uvc], lp.target < 65536 ∧ lp.level < 256 ∧ lp.eSet < 65536)
    ∧ (proc.exposureStretch < 65536 ∧ proc.vNom < 65536 ∧ proc.dryTime < 65536 ∧ proc.finisherStretch < 65536)
    ∧ (proc.back.target ≤ 60000 ∧ 1 ≤ proc.main.target ∧ proc.main.target ≤ 60000 ∧ proc.uva.target ≤ 60000
        ∧ proc.uvc.target ≤ 60000)
    ∧ ¬ 1 ≤ ({ proc with main := ⟨0, 80, 1800⟩ }).main.target
    ∧ (0#8).toNat < 1 ∧ 24 < (25#8).toNat ∧ ((24#8).toNat = (23 : Fin 24).val + 1 ∧ recipeAt (cookbook up) 23 = none)
    ∧ recipeAt (cookbook up) 0 ≠ none :=
  ⟨fun e => servable e _ rfl, by decide +kernel⟩

/-- A washout group with the brush zone length given, and a back lamp group with its replaced mark. -/
def washGroup (brush : Nat) : List Byte :=
  b2 brush ++ b2 400 ++ b2 120 ++ b2 15000 ++ b2 4000 ++ b2 6000 ++ [10, 20, 5, 28]
def lampGroup (gain : Nat) (mark : Byte) : List Byte := [0] ++ b2 gain ++ b2 1000 ++ b2 1000 ++ [mark]

theorem test_witness_CalWrite :
    (∀ e, Servable e up ∧ Servable e (washing [entry]) ∧ Servable e (lit run))
    ∧ (calFits [0] = true ∧ calFits [64] = true)
    ∧ (calFits (1 :: lampGroup 0 0) = true ∧ (parseCal 1 (lampGroup 0 0)).lamps.get .back = some (⟨0, 0, 1000, 1000⟩, 0))
    ∧ (calFits (1 :: lampGroup 1 1) = true ∧ parseCal 1 (lampGroup 1 1)
          = ⟨⟨some (⟨0, 1, 1000, 1000⟩, 1), none, none, none⟩, none, none⟩ ∧ lampIsOn .back (lit run) = true
        ∧ lampIsOn .back up = false)
    ∧ (calFits (16 :: washGroup 1400) = true ∧ (16 :: washGroup 1400).length ≤ 298
        ∧ (parseCal 16 (washGroup 1400)).wash = some ⟨1400, 400, 120, 15000, 4000, 6000, 10, 20, 5, 28⟩
        ∧ (washing [entry]).wou.list ≠ [] ∧ (washing [entry]).rss.working.cal.wash.brushLength = 1200)
    ∧ (calFits [32, 40] = true ∧ parseCal 32 [40] = ⟨⟨none, none, none, none⟩, none, some 40⟩
        ∧ driveIsOn .heater (setDrive .heater ⟨.on (.value 60), false⟩ up) = true) :=
  ⟨fun e => ⟨servable e _ rfl, servable e _ rfl, servable e _ rfl⟩, by decide +kernel⟩

theorem test_witness_ConfigWrite :
    (∀ e, Servable e up)
    ∧ (configFits [0] = true ∧ configInRange 0 (parseConfig 0 []) = false)
    ∧ (configFits [1, 1, 1, 12, 0, 10] = true
        ∧ configConsistent (storeConfig (parseConfig 1 [1, 1, 12, 0, 10]) up.rss.working.cfg) = false)
    ∧ (let g := parseConfig 25 [1, 2, 2, 1, 20, 0, 0, 63]
       configFits [25, 1, 2, 2, 1, 20, 0, 0, 63] = true ∧ configInRange 25 g = true
        ∧ configConsistent (storeConfig g up.rss.working.cfg) = true ∧ (1 : Fin 12) ∈ carriedInputs g
        ∧ (0 : Fin 12) ∉ carriedInputs g ∧ g.watchdog = some 0 ∧ g.exit = none ∧ g.attention = some 63
        ∧ g.inputs = some [⟨2, some .exuLid, some true, 20⟩] ∧ g.outputs = none)
    ∧ (let g := parseConfig 1 [1, 2, 2, 0, 30]
       configFits [1, 1, 2, 2, 0, 30] = true ∧ configInRange 1 g = true ∧ (1 : Fin 12) ∈ carriedInputs g
        ∧ (inputCfg up 1).function = .exuLid ∧ (inputCfg up 1).invert = false)
    ∧ (let g := parseConfig 2 [1, 8, 2, 1, 255, 255]
       configFits [2, 1, 8, 2, 1, 255, 255] = true ∧ configInRange 2 g = true
        ∧ configConsistent (storeConfig g up.rss.working.cfg) = true ∧ g.inputs = none
        ∧ g.outputs = some [⟨8, some .faultAny, some true, 65535⟩] ∧ (7 : Fin 8) ∈ carriedOutputs g
        ∧ (0 : Fin 8) ∉ carriedOutputs g ∧ up.flt.lineState ≠ .init
        ∧ wantedState up ⟨.faultAny, true, 2000⟩ (outputAt up 7).user ≠ (outputAt up 7).driven)
    ∧ (let s := modRss (fun r => { r with working := { r.working with cfg := { r.working.cfg with attention := 0 } } })
        State.reset
       attnHas s.rss.working.cfg.attention .fault = false ∧ attnHas s.lnk.attnPending .fault = true)
    ∧ (parseConfig 16 [32]).inputs = none
    ∧ (parseConfig 4 [4, 1, 0, 0, 2, 0, 10]).exit = some ⟨some .operator, some true, 0, 2, 10⟩
    ∧ (parseConfig 8 [0, 9]).watchdog = some 9 ∧ (63#8).toNat < 64 :=
  ⟨fun e => servable e _ rfl, by decide +kernel⟩

theorem test_witness_DryerSet :
    (∀ e, Servable e (setDrive .heater ⟨.on (.value 60), false⟩ up)) ∧ (∀ e, Servable e up)
    ∧ driveIsOn .heater (setDrive .heater ⟨.on (.value 60), false⟩ up) = true ∧ driveIsOn .heater up = false :=
  ⟨fun e => servable e _ rfl, fun e => servable e _ rfl, rfl, rfl⟩

/-- A tag reading is in progress and slot 1 is QUEUED. -/
def reading : State := modExu (fun e => { e with readInProgress := true }) queued

theorem reading_lawful : TableLawful reading :=
  ⟨queued_lawful.idsDiffer, queued_lawful.queueOnce, queued_lawful.queueIsQueued, queued_lawful.queueShort⟩

/-- A load in progress with the rollers ON. -/
def loading : State :=
  setDrive .intakeRollers ⟨.on .none, false⟩ (modExu (fun e => { e with state := .load, plate := some 0 }) (one .loading))

theorem test_witness_IntakeTagsAndLoads :
    (up.powered = true ∧ up.exu.readInProgress = false)
    ∧ (reading.powered = true ∧ reading.exu.readInProgress = true ∧ TableLawful reading
        ∧ plateAt reading 0 = some (plate 3101 .queued) ∧ 3101 ≤ 65534 ∧ inhibitActive reading = false
        ∧ inputActive .exuLid reading = false ∧ driveFaulted .intakeRollers reading = false)
    ∧ (∀ k p, plateAt reading k = some p → p.plateId = 65534 → p.state ≠ .queued)
    ∧ up.exu.state ≠ .load ∧ driveIsOn .intakeRollers (modExu (fun e => { e with state := .load }) up) = false
    ∧ (loading.exu.state = .load ∧ driveIsOn .intakeRollers loading = true ∧ loading.exu.plate = some 0
        ∧ plateAt loading 0 = some (plate 3101 .loading))
    ∧ (∀ active, Changes 2 .exuPresent active (due 2 active up) ∧ Changes 3 .intakePresent active (due 3 active up))
    ∧ (up.exu.state = .empty ∧ up.flt.lineState = .run ∧ isSet .storeCheck up = false ∧ isSet (.lampFail .back) up = false
        ∧ isSet (.lampFail .main) up = false ∧ isSet .loadTimeout up = false
        ∧ isSet (.driveFault .intakeRollers) up = false ∧ inputActive .exuPresent (due 3 true up) = false)
    ∧ (let s := due 2 false (setInput 3 ⟨true, true, none⟩ (modExu (fun e => { e with state := .clearWait, armed := true }) up))
       Changes 2 .exuPresent false s ∧ s.exu.state = .clearWait ∧ s.exu.readInProgress = false ∧ s.exu.armed = true
        ∧ inputActive .intakePresent s = true)
    ∧ (Changes 2 .exuPresent true (due 2 true loading) ∧ Changes 2 .exuPresent true (due 2 true (inLine .safeHold loading))
        ∧ (due 2 true loading).exu.plate = some 0 ∧ plateAt (due 2 true loading) 0 = some (plate 3101 .loading)
        ∧ (due 2 true loading).flt.lineState = .run ∧ inputActive .exuLid (due 2 true loading) = false
        ∧ isSet (.lampFail .back) loading = false ∧ isSet (.lampFail .main) loading = false
        ∧ inhibitActive (due 2 true loading) = false ∧ 0 < proc.back.target ∧ channelAt (due 2 true loading) .back = .idle) := by
  refine ⟨by decide, ⟨rfl, rfl, reading_lawful, by decide +kernel⟩, every_record ?_, by decide, by decide, by decide +kernel,
    fun b => ?_, by decide +kernel, ⟨changes (by decide +kernel), by decide +kernel⟩,
    ⟨changes (by decide +kernel), changes (by decide +kernel), by decide +kernel⟩⟩
  · decide +kernel
  · cases b <;> exact ⟨changes (by decide +kernel), changes (by decide +kernel)⟩

theorem test_witness_SamplesAccumulate :
    (∀ r, channelAt up .back ≠ .integrating r)
    ∧ (let r := { run with accumulator := 897998, lampSamples := 421, segSamples := 23, windowCount := 23 }
       (lit r).powered = true ∧ channelAt (lit r) .back = .integrating r ∧ r.accumulator + 2 * 1000 < r.target
        ∧ r.lampSamples + 1 < r.nCap ∧ r.windowCount + 1 ≠ 25 ∧ plateAt (lit r) r.slot = some (plate 3101 .exposing)) :=
  ⟨nofun, by decide +kernel⟩

theorem test_witness_WindowsRegulate :
    (let r := { run with windowCount := 24, windowSum := 24000, windowIndex := 2, segSamples := 49, lampSamples := 421 }
     (lit r).powered = true ∧ channelAt (lit r) .back = .integrating r
      ∧ irradiance ((lit r).rss.working.cal.lamps.get .back) 1000 = 1000 ∧ 2 ≤ r.windowIndex ∧ 0 < r.eSet
      ∧ r.lampSamples + 1 < r.nCap ∧ regulatedLevel r.level r.eSet 1000 ≠ r.level ∧ lampIsOn .back (lit r) = true
      ∧ r.recording = true ∧ (lit r).din.trace.length < 512)
    ∧ (let r := { run with level := 100, windowCount := 24, windowSum := 24 * 1439, windowIndex := 2, segSamples := 49 }
       r.level = 100 ∧ (r.windowSum + 1439) / 25 < r.eSet * 9 / 10 ∧ r.weakNoted = false)
    ∧ (let r := { run with windowCount := 24, windowSum := 24000, segSamples := 24, recording := false }
       ¬ (2 ≤ r.windowIndex ∧ 0 < r.eSet) ∧ r.recording = false)
    ∧ 512 ≤ (modDin (fun d => { d with trace := List.replicate 512 (traceRecord .back run 0) }) (lit run)).din.trace.length := by
  decide +kernel

theorem test_witness_SamplesEndRuns :
    (let r := { run with accumulator := 898000, lampSamples := 422, segSamples := 100, dark := 9 }
     (lit r).powered = true ∧ channelAt (lit r) .back = .integrating r ∧ plateAt (lit r) r.slot = some (plate 3101 .exposing)
      ∧ sampleEnding 1000 (darkCheck 1000 (addSample 1000 r)) = some .complete
      ∧ sampleEnding 49 (darkCheck 49 (addSample 49 r)) = some .lampFail
      ∧ sampleEnding 50 (darkCheck 50 (addSample 50 r)) = some .underdose) := by decide +kernel

theorem test_witness_RunsStart :
    plateAt (one .exposing) 0 = some (plate 3101 .exposing) ∧ channelAt (one .exposing) .back = .idle
    ∧ (∃ r how, channelAt underdosed .back = .ended r how)
    ∧ (proc.lamp .uvc).target = 0 ∧ (0 < (proc.lamp .back).target ∧ lampRefused .back (one .exposing) = false)
    ∧ lampRefused .back (setInput 1 ⟨true, true, none⟩ (one .exposing)) = true :=
  ⟨by decide +kernel, rfl, ⟨run, .underdose, rfl⟩, by decide +kernel⟩

/-- Slot 1 is EXPOSED and offered for admission. -/
def offered : State := modWou (fun w => { w with offered := some 0 }) (one .exposed)
def riding (l : List TransportEntry) : State := modWou (fun w => { w with list := l, transport := .running }) offered

theorem test_witness_Admission :
    (offered.wou.offered = some 0 ∧ plateAt offered 0 = some (plate 3101 .exposed))
    ∧ (inLine .safeHold offered).flt.lineState ≠ .run
    ∧ (modWou (fun w => { w with transport := .stalled }) offered).wou.transport = .stalled
    ∧ ¬ (riding [entry, entry, entry]).wou.list.length < 3 ∧ (riding [entry, entry]).wou.list.length < 3
    ∧ ¬ (entry.length + 150) * 60000 ≤ { entry with position := 80999999 }.position
    ∧ (entry.length + 150) * 60000 ≤ { entry with position := 81000000 }.position
    ∧ (replenishing .pending).wou.replenish ≠ .none ∧ isSet .solventLimit (flagged (flagBit .solventLimit) offered) = true
    ∧ (loadingFits (modWou (fun w => { w with lambda := 5581 }) offered) (plate 3101 .exposed) = false
        ∧ loadingFits (modWou (fun w => { w with lambda := 5580 }) offered) (plate 3101 .exposed) = true)
    ∧ (let s (speed : Nat) := modWou (fun w => { w with speed := speed, lambda := 3000 })
        (riding [{ entry with position := 81000000 }])
       inSpeedBand (s 600) (plate 3101 .exposed) = false ∧ inSpeedBand (s 480) (plate 3101 .exposed) = true)
    ∧ (let s := modWou (fun w => { w with lambda := 3000 }) offered
       firstBlocker s (plate 3101 .exposed) = .none ∧ isSet .dryerOvertemp s = false ∧ isSet (.driveFault .heater) s = false
        ∧ drawerAt s 0 = .free ∧ inhibitActive s = false ∧ driveFaulted .transport s = false
        ∧ driveFaulted .brushes s = false ∧ s.wou.stallHold = false)
    ∧ (let s := modDry (fun y => { y with drawers := (Vector.replicate 6 (.reserved 1 3102)).set 5 .free }) offered
       drawerAt s 5 = .free ∧ (∀ e : DrawerNo, e < 5 → drawerAt s e ≠ .free))
    ∧ (∀ d, drawerAt (modDry (fun y => { y with drawers := Vector.replicate 6 (.reserved 1 3102) }) offered) d ≠ .free)
    ∧ isSet .dryerOvertemp (flagged (flagBit .dryerOvertemp) offered) = true
    ∧ speedClamped 100 15000 3000 = true ∧ (3000 < 15000 ∧ 15000 ≤ 15000 ∧ 100 ≤ 100)
    ∧ (let s := modExu (fun e => { e with state := .exposed, plate := some 0 }) offered
       s.exu.state = .exposed ∧ s.exu.plate = some 0) := by decide +kernel

theorem test_witness_GapAndEndMarks :
    (let s := washing [entry, { entry with slot := 1 }]
     s.powered = true ∧ s.wou.transport = .running ∧ entryOf s 0 = some entry
      ∧ (s.wou.list.getLast?).map (·.slot) ≠ some 0 ∧ (s.wou.list.getLast?).map (·.slot) = some 1
      ∧ s.wou.exitWaiting = false ∧ inputActive .washExitPresent s = false)
    ∧ (modWou (fun w => { w with exitWaiting := true }) (washing [entry])).wou.exitWaiting = true
    ∧ (inputActive .washExitPresent (setInput 4 ⟨true, true, none⟩ (washing [entry])) = true
        ∧ plateAt (washing [entry]) 0 = some (plate 3101 .washing)) := by decide +kernel

theorem test_witness_CommitsMoveLoading :
    (let s := washing [{ entry with committed := true }]
     s.powered = true ∧ s.wou.transport = .running ∧ entryOf s 0 = some { entry with committed := true })
    ∧ (let s := modWou (fun w => { w with lambda := 3580 }) (washing [entry])
       entryOf s 0 = some entry ∧ s.rss.countersWriting = false ∧ s.rss.save = none
        ∧ s.rss.working.cal.wash.lambdaRepl ≤ min 65535 (s.wou.lambda + entry.increment) ∧ s.wou.replenish = .none)
    ∧ (let s := modWou (fun w => { w with lambda := 3579 }) (modRss (fun r => { r with countersWriting := true })
        (washing [entry]))
       min 65535 (s.wou.lambda + entry.increment) < s.rss.working.cal.wash.lambdaRepl ∧ s.rss.countersWriting = true) := by
  decide +kernel

theorem test_witness_ExitMarksRaisePuts :
    (let s := washing [{ entry with committed := true }, { entry with slot := 1 }]
     s.powered = true ∧ s.wou.transport = .running
      ∧ s.wou.list = { entry with committed := true } :: [{ entry with slot := 1 }]
      ∧ plateAt s 0 = some (plate 3101 .washing) ∧ ∀ x ∈ [{ entry with slot := 1 }], x.slot ≠ 0)
    ∧ entryOf up 0 = none ∧ up.wou.list = []
    ∧ (let s := modWou (fun w => { w with transport := .stalled })
        (washing [{ entry with position := 80999999 }])
       entryOf s 0 = some { entry with position := 80999999 } ∧ s.wou.transport ≠ .running
        ∧ 80999999 < (entry.length + 150) * 60000
        ∧ 80999999 < (s.rss.working.cal.wash.brushLength + s.rss.working.cal.wash.rinseLength) * 60000
        ∧ 80999999 < (s.rss.working.cal.wash.brushLength + entry.length) * 60000)
    ∧ (∀ active, Changes 4 .washExitPresent active (due 4 active up))
    ∧ (up.trc.table = .empty ∧ (∀ k d, up.trc.request ≠ some (.put k d))
        ∧ (elevator (.inPhase .pick) (some (.put 0 5)) up).trc.request = some (.put 0 5) ∧ up.wou.stallHold = false)
    ∧ (let s := due 4 false (modWou (fun w => { w with list := [entry], transport := .stalled, stallHold := true }) (one .washing))
       Changes 4 .washExitPresent false s ∧ s.wou.stallHold = true ∧ s.wou.exitWaiting = false ∧ s.wou.list ≠ []
        ∧ s.wou.transport = .stalled ∧ inhibitActive s = false ∧ driveFaulted .transport s = false
        ∧ driveFaulted .brushes s = false) := by
  refine ⟨by decide +kernel, rfl, rfl, by decide +kernel, fun b => ?_, ⟨rfl, nofun, rfl, rfl⟩,
    changes (by decide +kernel), by decide +kernel⟩
  cases b <;> exact changes (by decide +kernel)

theorem test_witness_SolventIsWatchedAndExchanged :
    (up.powered = true ∧ up.flt.lineState ≠ .init ∧ up.rss.working.cal.wash.tempSetpoint = 28)
    ∧ (28 ≤ (25#8).toNat + 3 ∧ (31#8).toNat ≤ 28 + 3) ∧ ¬ 28 ≤ (24#8).toNat + 3 ∧ ¬ (32#8).toNat ≤ 28 + 3
    ∧ (let s := setDrive .pump ⟨.on .none, false⟩ (replenishing (.running ⟨36, 36000, 10⟩))
       s.wou.replenish = .running ⟨36, 36000, 10⟩ ∧ driveIsOn .pump s = true ∧ s.rss.countersWriting = false
        ∧ s.rss.save = none)
    ∧ (0 < 36 ∧ 36 ≤ 36 ∧ 100 ≤ 100) := by decide +kernel

theorem test_witness_ReplenishmentRequests :
    (∀ e, Servable e (replenishing (.running ⟨36, 0, 10⟩)) ∧ Servable e (replenishing .pending)
        ∧ Servable e (replenishing .blocked) ∧ Servable e up ∧ Servable e (washing [entry]))
    ∧ ((replenishing (.running ⟨36, 0, 10⟩)).wou.replenish = .running ⟨36, 0, 10⟩ ∧ up.wou.replenish = .none)
    ∧ inputActive .freshLow (setInput 9 ⟨true, true, none⟩ up) = true
    ∧ (inputActive .freshLow (washing [entry]) = false ∧ (washing [entry]).wou.list ≠ [])
    ∧ (inputActive .freshLow up = false ∧ up.wou.list = [] ∧ driveFaulted .pump up = false ∧ up.flt.lineState = .run)
    ∧ (∀ run, up.wou.replenish ≠ .running run) ∧ up.rss.countersWriting = false
    ∧ (modRss (fun r => { r with countersWriting := true }) up).rss.countersWriting = true
    ∧ (∀ e, Servable e (setDrive .pump ⟨.fault, false⟩ up) ∧ Servable e (inLine .stopped up))
    ∧ driveFaulted .pump (setDrive .pump ⟨.fault, false⟩ up) = true
    ∧ (Changes 9 .freshLow true (due 9 true (replenishing .pending)) ∧ (replenishing .pending).wou.replenish = .pending)
    ∧ (let s := due 9 false (replenishing .blocked)
       Changes 9 .freshLow false s ∧ s.wou.replenish = .blocked ∧ s.wou.list = [] ∧ driveFaulted .pump s = false
        ∧ s.flt.lineState = .run ∧ inhibitActive s = false ∧ (inLine .init s).flt.lineState = .init) :=
  ⟨fun e => ⟨servable e _ rfl, servable e _ rfl, servable e _ rfl, servable e _ rfl, servable e _ rfl⟩, by decide,
   by decide, by decide, by decide, nofun, by decide, by decide, fun e => ⟨servable e _ rfl, servable e _ rfl⟩, rfl,
   ⟨changes (by decide +kernel), rfl⟩, changes (by decide +kernel), by decide +kernel⟩

/-- Slot 1 dries in drawer 1 with the accrued time given. -/
def drying (accrued : Nat) : State :=
  setDrawer 0 (.drying 0 3101)
    (setPlate 0 (some { plate 3101 .drying with drawer := some 0, dry := some ⟨accrued, 600, false⟩ }) up)

/-- Slot 1 waits DRY_DONE in drawer 1 since clock 1660 (6.9). -/
def dried (clock : Nat) (mark : Bool) : State :=
  modDry (fun y => { y with clock := clock }) (setDrawer 0 (.dryDone 0 3101 1660)
    (setPlate 0 (some { plate 3101 .dryDone with drawer := some 0, dry := some ⟨600, 600, mark⟩ }) up))

theorem test_witness_DryerReadings :
    (∀ d1 d2 k id1, drawerAt (drying 598) d1 = .drying k id1 →
      ((∃ id2, drawerAt (drying 598) d2 = .drying k id2) ∨ ∃ id2 done, drawerAt (drying 598) d2 = .dryDone k id2 done) →
      d1 = d2)
    ∧ ((drying 598).powered = true ∧ (drying 598).flt.lineState ≠ .init
        ∧ (drying 598).rss.working.cal.dryerSetpoint = 60)
    ∧ ((54#8).toNat + 5 < 60 ∧ 60 + 5 < (66#8).toNat ∧ 60 ≤ (55#8).toNat + 5 ∧ (65#8).toNat ≤ 60 + 5)
    ∧ (drawerAt (drying 598) 0 = .drying 0 3101 ∧ plateState (drying 598) 0 = some .drying
        ∧ dryPartOf (drying 598) 0 = some ⟨598, 600, false⟩ ∧ 598 + 1 < 600
        ∧ dryPartOf (drying 599) 0 = some ⟨599, 600, false⟩ ∧ 600 ≤ 599 + 1)
    ∧ (drawerAt (dried 1960 false) 0 = .dryDone 0 3101 1660
        ∧ dryPartOf (dried 1960 false) 0 = some ⟨600, 600, false⟩ ∧ 2 * (600 + (1960 - 1660)) ≤ 3 * 600)
    ∧ (dryPartOf (dried 1961 false) 0 = some ⟨600, 600, false⟩ ∧ 3 * 600 < 2 * (600 + (1961 - 1660)))
    ∧ dryPartOf (dried 1961 true) 0 = some ⟨600, 600, true⟩
    ∧ (∀ d2 id2 done2, drawerAt (dried 1961 false) d2 = .dryDone 0 id2 done2 → d2 = 0) := by
  refine ⟨fun d1 d2 k id1 h1 h2 => ?_, by decide +kernel, by decide +kernel, by decide +kernel, by decide +kernel,
    by decide +kernel, by decide +kernel, fun d id done h => ?_⟩
  swap
  · have only : ∀ d : DrawerNo, d ≠ 0 → drawerAt (dried 1961 false) d = .free := by decide +kernel
    by_contra n
    rw [only d n] at h
    cases h
  have only : ∀ d : DrawerNo, d ≠ 0 → drawerAt (drying 598) d = .free := by decide +kernel
  have a : d1 = 0 := by
    by_contra n
    rw [only d1 n] at h1
    cases h1
  have b : d2 = 0 := by
    by_contra n
    rw [only d2 n] at h2
    rcases h2 with ⟨x, h⟩ | ⟨x, y, h⟩ <;> cases h
  rw [a, b]

theorem test_witness_ElevatorArrivesOrTimesOut :
    (let s := elevator (.inPhase (.travel 0)) (some (.put 0 3)) up
     s.powered = true ∧ s.trc.elevator = .inPhase (.travel 0) ∧ s.trc.request = some (.put 0 3)
      ∧ inhibitActive s = false ∧ driveFaulted .elevator s = false ∧ s.trc.halted = false)
    ∧ (elevator (.inPhase (.travel 7)) (some (.take 5 0)) up).trc.request = some (.take 5 0)
    ∧ (let s := elevator (.inPhase (.travel 0)) (some .homing) up
       s.trc.request = some .homing ∧ s.trc.pendingPut = none ∧ s.trc.halted = false ∧ s.flt.lineState = .run
        ∧ (∀ d, drawerAt s d = .free)
        ∧ (inLine .safeHold s).flt.lineState ≠ .run
        ∧ (inLine .init s).flt.lineState ≠ .run ∧ (inLine .init s).flt.lineState ≠ .safeHold
        ∧ (modLfn (fun l => { l with incoming := true }) s).lfn.incoming = true)
    ∧ (let s := modTrc (fun t => { t with pendingPut := some 0 }) (elevator (.inPhase (.travel 0)) (some .homing)
         (setPlate 0 (some { plate 3101 .washExit with drawer := some 5 }) up))
       s.trc.request = some .homing ∧ s.trc.pendingPut = some 0 ∧ s.trc.halted = false ∧ s.flt.lineState = .run
        ∧ (plateAt s 0).map (·.drawer) = some (some 5))
    ∧ (∀ target, up.trc.elevator ≠ .inPhase (.travel target)) ∧ up.trc.elevator ≠ .inPhase .pick
    ∧ up.trc.elevator ≠ .inPhase .place ∧ (∀ phase, up.trc.elevator ≠ .inPhase phase) :=
  ⟨by decide +kernel, rfl, by decide +kernel, by decide +kernel, nofun, nofun, nofun, nofun⟩

theorem test_witness_ElevatorPicks :
    (let s := elevator (.inPhase .pick) (some (.put 0 5)) up
     s.powered = true ∧ s.trc.elevator = .inPhase .pick ∧ s.trc.request = some (.put 0 5)
      ∧ s.trc.level.val ≠ (5 : DrawerNo).val + 1 ∧ inputActive .washExitPresent s = false)
    ∧ (let s := elevator (.inPhase .pick) (some (.take 0 0)) (dried 1700 false)
       s.trc.request = some (.take 0 0) ∧ s.trc.level ≠ 7 ∧ drawerAt s 0 = .dryDone 0 3101 1660
        ∧ (modTrc (fun t => { t with level := 7 }) s).trc.level = 7)
    ∧ (modTrc (fun t => { t with level := 6 }) up).trc.level.val = (5 : DrawerNo).val + 1 := by decide +kernel

theorem test_witness_ElevatorPlaces :
    (let s := elevator (.inPhase .place) (some (.put 0 0)) (setDrawer 0 (.reserved 0 3101) (one .washExit))
     s.powered = true ∧ s.trc.elevator = .inPhase .place ∧ s.trc.request = some (.put 0 0)
      ∧ plateAt s 0 = some (plate 3101 .washExit) ∧ drawerAt s 0 = .reserved 0 3101
      ∧ s.flt.lineState = .run ∧ s.trc.pendingPut = none ∧ (∀ d : DrawerNo, d ≠ 0 → drawerAt s d = .free)
      ∧ (inLine .stopped s).flt.lineState ≠ .run ∧ (inLine .stopped s).flt.lineState ≠ .safeHold)
    ∧ (let s := elevator (.inPhase .place) (some (.take 0 0)) (setDrawer 0 (.unloading 0 3101) (one .dryDone))
       s.trc.elevator = .inPhase .place ∧ s.trc.request = some (.take 0 0) ∧ plateAt s 0 = some (plate 3101 .dryDone)
        ∧ drawerAt s 0 = .unloading 0 3101 ∧ s.lfn.state = .empty ∧ s.wou.offered = none
        ∧ s.trc.pendingPut = none) := by decide +kernel

/-- The premise that no take may begin is met in RUN with every drawer FREE, and outside RUN. -/
theorem test_no_take : NoTake up ∧ NoTake (inLine .safeHold up) := by
  have free : ∀ d, drawerAt up d = .free := by decide +kernel
  refine ⟨.inr (.inr (.inr (.inr (.inr (.inr (.inr ?_)))))), .inl (by decide)⟩
  intro d k id done h
  rw [free d] at h
  cases h

/-- R142: a homing that ends in RUN leaves the elevator IDLE at level 0. -/
theorem test_homing_ends_in_run :
    after .elevatorArrived (elevator (.inPhase (.travel 0)) (some .homing) (modTrc (fun t => { t with level := 4 }) up))
      (fun t => (t.trc.elevator, t.trc.request, t.trc.level)) = some (.idle, none, 0) := by decide +kernel

/-- Slot 1 at the finisher, in a station state and a plate state. -/
def finishing (l : LfnState) (st : PlateState) : State := modLfn (fun f => { f with state := l, plate := some 0 }) (one st)

theorem test_witness_FinisherTagArrives :
    (up.powered = true ∧ up.lfn.state ≠ .check ∧ 65534 ≤ 65534)
    ∧ (let s := inLine .safeHold (finishing .check .dryDone)
       s.lfn.state = .check ∧ s.lfn.plate = some 0 ∧ plateAt s 0 = some (plate 3101 .dryDone) ∧ s.flt.lineState ≠ .run
        ∧ s.lfn.uva = ⟨.waiting, false⟩ ∧ s.lfn.uvc = ⟨.waiting, false⟩ ∧ (plate 3101 .dryDone).plateId = 3101)
    ∧ (let s := finishing .check .dryDone
       s.flt.lineState = .run ∧ isSet (.lampFail .uva) s = false ∧ isSet (.lampFail .uvc) s = false
        ∧ inhibitActive s = false ∧ (∀ fc : FinisherLamp, channelAt s fc.channel = .idle)
        ∧ (proc.lamp .uvc).target = 0 ∧ 0 < (proc.lamp .uva).target)
    ∧ (let s := setPlate 0 (some { plate 3101 .dryDone with working := { proc with uva := ⟨0, 100, 0⟩ } })
         (finishing .check .dryDone)
       (plateAt s 0).map (fun p => (p.working.uva.target, p.working.uvc.target)) = some (0, 0) ∧ s.trc.handoff = .empty
        ∧ inputActive .exitPresent s = false ∧ s.trc.incoming = none ∧ driveFaulted .outfeed s = false)
    ∧ (let r := { run with accumulator := 898000, lampSamples := 422, segSamples := 100, dark := 9 }
       (∀ l st, (l = .running ∧ st = .finishing) ∨ (l = .held ∧ st = .held) →
         let s := setChannel .uva (.integrating r) (finishing l st)
         s.powered = true ∧ channelAt s FinisherLamp.uva.channel = .integrating r ∧ s.lfn.plate = some r.slot
          ∧ plateAt s r.slot = some (plate 3101 st) ∧ s.lfn.state = l)
        ∧ sampleEnding 1000 (addSample 1000 r) = some .complete ∧ sampleEnding 49 (addSample 49 r) = some .lampFail
        ∧ sampleEnding 50 (addSample 50 r) = some .underdose
        ∧ (finisherRun .uvc (modLfn (fun f => { f with uvc := ⟨.done, false⟩ }) up).lfn).status = .done
        ∧ (finisherRun .uvc up.lfn).status ≠ .done)
    ∧ (∀ active, Changes 5 .lfnPresent active (due 5 active up)) ∧ (up.lfn.state = .empty ∧ up.lfn.incoming = false)
    ∧ (let s := due 5 false (modLfn (fun f => { f with state := .clearWait }) (dried 1700 false))
       Changes 5 .lfnPresent false s ∧ s.lfn.state = .clearWait ∧ s.lfn.incoming = false ∧ s.trc.elevator = .idle
        ∧ s.trc.request = none ∧ s.trc.pendingPut = none ∧ s.trc.halted = false ∧ s.flt.lineState = .run
        ∧ isSet (.lampFail .uva) s = false ∧ isSet (.lampFail .uvc) s = false ∧ isSet .orderMismatch s = false
        ∧ isSet (.driveFault .outfeed) s = false ∧ drawerAt s 0 = .dryDone 0 3101 1660
        ∧ (∀ e, e ≠ 0 → drawerAt s e = .free)) := by
  refine ⟨by decide, by decide +kernel, ⟨rfl, rfl, rfl, rfl, fun fc => by cases fc <;> rfl, by decide, by decide⟩,
    by decide +kernel, ⟨fun l st h => ?_, by decide, by decide, by decide, rfl, by decide⟩, fun b => ?_, by decide,
    ⟨changes (by decide +kernel), by decide +kernel⟩⟩
  · rcases h with ⟨rfl, rfl⟩ | ⟨rfl, rfl⟩ <;> decide +kernel
  · cases b <;> exact changes (by decide +kernel)

/-- The exit table holds slot 1 in a handoff state, with a handoff mode. -/
def handing (h : HandoffState) (m : HandoffMode) : State :=
  setDrive .conveyor ⟨if h = .pushing then .on .none else .off, false⟩
    (modTrc (fun t => { t with handoff := h, plate := some 0, values := { defaultExit with mode := m },
                               handoffTimer := if h = .offered then some 120000 else none }) (one .atExit))

theorem test_witness_HandoffEnds :
    ((handing .setup .timed).powered = true ∧ (handing .setup .timed).trc.handoff = .setup
        ∧ inhibitActive (handing .setup .timed) = false ∧ (handing .setup .timed).trc.values.mode = .timed
        ∧ driveFaulted .conveyor (handing .setup .timed) = false)
    ∧ ((handing .setup .operator).trc.values.mode ≠ .timed ∧ (handing .setup .operator).trc.values.pushFirst = false)
    ∧ ((handing .pushing .operator).trc.handoff = .pushing ∧ driveIsOn .conveyor (handing .pushing .operator) = true)
    ∧ ((handing .offered .operator).trc.handoff = .offered ∧ (handing .offered .operator).trc.handoffTimer ≠ none)
    ∧ (handing .setup .operator).trc.handoff ≠ .offered
    ∧ ((handing .pushing .timed).trc.values.mode = .timed ∧ driveIsOn .conveyor (handing .pushing .timed) = true
        ∧ (handing .pushing .timed).trc.plate = some 0
        ∧ plateAt (handing .pushing .timed) 0 = some (plate 3101 .atExit))
    ∧ (let s := due 6 true (modTrc (fun t => { t with incoming := some 0 }) (finishing .finished .finished))
       Changes 6 .exitPresent true s ∧ s.trc.handoff = .empty ∧ s.trc.incoming = some 0
        ∧ plateAt s 0 = some (plate 3101 .finished) ∧ s.rss.working.cfg.exit.setupDelay ≠ 0)
    ∧ (Changes 6 .exitPresent true (due 6 true up) ∧ up.trc.handoff = .empty ∧ up.trc.incoming = none)
    ∧ (Changes 6 .exitPresent false (due 6 false (handing .offered .operator))
        ∧ (handing .offered .operator).trc.handoff ≠ .empty)
    ∧ (let s := due 6 false (modTrc (fun t => { t with handoff := .doneWaitClear }) (finishing .finished .finished))
       Changes 6 .exitPresent false s ∧ s.trc.handoff = .doneWaitClear ∧ s.trc.incoming = none
        ∧ s.lfn.state = .finished ∧ s.lfn.moving = false ∧ s.flt.lineState = .run ∧ driveFaulted .outfeed s = false
        ∧ s.lfn.plate = some 0 ∧ inhibitActive s = false)
    ∧ (∀ active m, Changes 7 .stkBusy active (due 7 active (handing .offered m))
        ∧ Changes 8 .stkTaken active (due 8 active (handing .offered m))
        ∧ Changes 10 .operatorTake active (due 10 active (handing .offered m)))
    ∧ ((handing .offered .idleOnly).trc.values.mode = .idleOnly ∧ (handing .offered .idleOnly).trc.taken = false
        ∧ (handing .offered .takenThenIdle).trc.values.mode = .takenThenIdle
        ∧ inputActive .stkBusy (handing .offered .takenThenIdle) = false
        ∧ (modTrc (fun t => { t with taken := true }) (handing .offered .idleOnly)).trc.taken = true
        ∧ plateAt (handing .offered .idleOnly) 0 = some (plate 3101 .atExit)) := by
  refine ⟨by decide +kernel, by decide, by decide, by decide, by decide, by decide +kernel,
    ⟨changes (by decide +kernel), by decide +kernel⟩, ⟨changes (by decide +kernel), by decide⟩,
    ⟨changes (by decide +kernel), by decide⟩, ⟨changes (by decide +kernel), by decide +kernel⟩, fun b m => ?_,
    by decide +kernel⟩
  cases b <;> cases m <;>
    exact ⟨changes (by decide +kernel), changes (by decide +kernel), changes (by decide +kernel)⟩

theorem test_witness_StepsKeepTheInterlocks :
    let s := setInput 1 ⟨true, true, none⟩ (setInput 0 ⟨true, true, none⟩ (inLine .stopped up))
    Interlocked s ∧ step s = .next (idle s) :=
  ⟨⟨fun _ c => by cases c <;> rfl, fun _ c => by cases c <;> rfl, fun _ => ⟨rfl, rfl⟩⟩, rfl⟩

theorem test_witness_StepsKeepTheLoading :
    let s := modWou (fun w => { w with committed := 420 }) (washing [entry, { entry with slot := 1, committed := true }])
    LoadingKept s ∧ step { s with pending := [.commitMark 0] } = exec (.commitMark 0) s :=
  ⟨⟨by decide +kernel, by decide +kernel⟩, rfl⟩

theorem test_witness_StepsKeepTheBuffers :
    let s := setPlate 0 (some { plate 3101 .held with notices := noticeCodes.take 8 })
      (modLnk (fun l => { l with rx := [.badCheck, .badLength] }) up)
    BuffersBounded s ∧ step s = .next (idle s) := by
  refine ⟨⟨by decide +kernel, by decide +kernel, every_record ?_⟩, rfl⟩
  decide +kernel

theorem test_witness_StepsKeepTheTable : TableLawful queued ∧ step queued = .next (idle queued) :=
  ⟨queued_lawful, rfl⟩

theorem test_witness_StepsKeepTheLine : LineLawful up ∧ step up = .next (idle up) :=
  ⟨⟨by decide +kernel, by decide +kernel, by decide +kernel, fun _ => by decide +kernel⟩, rfl⟩

end Sys2Proof.Tests
end

section
/-! SUPPORT. Requests served by a part that does not look at the link, and the number coding read back (R185, R188, R195). -/

namespace Sys2Proof.Machine

/-! ### Numbers read back (R195) -/

theorem num2_ofNat {n : Nat} (h : n < 65536) : num2 (BitVec.ofNat 8 (n / 256)) (BitVec.ofNat 8 n) = n := by
  simp only [num2, BitVec.toNat_ofNat]
  omega

/-! ### The state a request's part is served in -/

/-- The state with entry `e` in service: what the owning block's part of a request acts on (R187). -/
def serving (e : RxEntry) (s : State) : State := modLnk (fun l => { l with inService := some e }) s

section Serving
variable (e : RxEntry) (s : State)
@[simp] theorem serving_ptb : (serving e s).ptb = s.ptb := rfl
@[simp] theorem serving_flt : (serving e s).flt = s.flt := rfl
@[simp] theorem plateAt_serving (k : Slot) : plateAt (serving e s) k = plateAt s k := rfl
@[simp] theorem recipeNumbered_serving (n : Nat) : recipeNumbered (serving e s) n = recipeNumbered s n := rfl
@[simp] theorem slotOfId_serving (n : Nat) : slotOfId (serving e s) n = slotOfId s n := rfl
@[simp] theorem lowestFree_serving : lowestFree (serving e s) = lowestFree s := rfl
@[simp] theorem lookup_serving (x : Selector) : lookup x (serving e s) = lookup x s := rfl

theorem setPlate_serving (k : Slot) (r : Option PlateRecord) : setPlate k r (serving e s) = serving e (setPlate k r s) := rfl

theorem addPlate_serving (k : Slot) (r : PlateRecord) : addPlate k r (serving e s) = serving e (addPlate k r s) := rfl

theorem replied_serving (kind tag : Byte) (r : Reply) : replied kind tag r (serving e s) = replied kind tag r s := rfl
end Serving

/-- A request's part that neither reads nor writes which entry is in service. -/
def ServiceBlind (act : State → State × Reply) : Prop :=
  ∀ (e : RxEntry) (s : State), act (serving e s) = (serving e (act s).1, (act s).2)

/-- A request that may be served, its body fitting, has its part's effect, and its part's reply is sent (R188). -/
theorem request_next {kind tag : Byte} {body : List Byte} {act : State → State × Reply} {s : State}
    (blind : ServiceBlind act) (line : (act s).1.flt.lineState = s.flt.lineState)
    (long : body.length ≤ 298) (fits : bodyFits ⟨kind, tag, body⟩ = true) (ready : Servable (.frame ⟨kind, tag, body⟩) s) :
    request kind tag body act s = .next (replied kind tag (act s).2 (act s).1) := by
  obtain ⟨power, run, save, free⟩ := ready
  have served : serveRequest ⟨kind, tag, body⟩ act s =
      finishEntry kind tag (act s).2 (serving (.frame ⟨kind, tag, body⟩) (act s).1) := by
    unfold serveRequest
    rw [serveEntry_ready ((entryReady_eq _ s).2 ⟨run, save, free⟩), if_pos fits]
    exact congrArg (fun answer => finishEntry kind tag answer.2 answer.1) (blind _ s)
  have stays : (serving (.frame ⟨kind, tag, body⟩) (act s).1).flt.lineState ≠ .init := by
    rw [serving_flt, line]
    exact run
  simp only [request, eventIf, event, bodyInFrame, long, decide_true, if_true, power, served, finishEntry_lnk stays]
  rfl

/-! ### Requests that name a plate (R12) -/

theorem serviceBlind_withPlate {act : Slot → PlateRecord → State → State × Reply} (sel : Option Selector)
    (blind : ∀ k r, ServiceBlind (act k r)) : ServiceBlind (withPlate sel act) := by
  intro e s
  cases sel with
  | none => rfl
  | some x =>
    simp only [withPlate, lookup_serving, plateAt_serving]
    split
    · rfl
    · split
      · rfl
      · exact blind _ _ e s

section WithPlate
variable {how hi lo : Byte} {s : State} (act : Slot → PlateRecord → State → State × Reply)

theorem withPlate_badField (h : selectorOf how hi lo = none) :
    withPlate (selectorOf how hi lo) act s = (s, refusal .badField) := by
  rw [h]
  rfl

theorem withPlate_notFound (h : selectorOf how hi lo ≠ none) (missing : selected how hi lo s = none) :
    withPlate (selectorOf how hi lo) act s = (s, refusal .notFound) := by
  obtain ⟨x, hx⟩ := Option.ne_none_iff_exists'.1 h
  have hl : lookup x s = none := by simpa [selected, hx] using missing
  simp [withPlate, hx, hl]

theorem withPlate_found {k : Slot} {r : PlateRecord} (named : selected how hi lo s = some k)
    (held : plateAt s k = some r) : withPlate (selectorOf how hi lo) act s = act k r s := by
  obtain ⟨x, hx, hl⟩ := Option.bind_eq_some_iff.1 named
  simp [withPlate, hx, hl, held]

end WithPlate

/-! ### The plate-id index and the FREE slots (R1, R2) -/

theorem carriesId_iff {s : State} {id : Nat} {k : Slot} :
    carriesId s id k = true ↔ ∃ p, plateAt s k = some p ∧ p.plateId = id := by
  unfold carriesId
  cases plateAt s k <;> simp

theorem slotOfId_isSome_iff {s : State} {id : Nat} :
    (slotOfId s id).isSome = true ↔ ∃ k p, plateAt s k = some p ∧ p.plateId = id := by
  simp only [slotOfId, allSlots, ← Fin.find?_eq_find?_finRange, Fin.isSome_find?_iff, carriesId_iff]

theorem lowestFree_eq_none_iff {s : State} : lowestFree s = none ↔ ∀ k, plateAt s k ≠ none := by
  simp only [lowestFree, allSlots, ← Fin.find?_eq_find?_finRange, Fin.find?_eq_none_iff, Option.isNone_eq_false_iff,
    Option.isSome_iff_ne_none]

theorem lowestFree_eq_some_iff {s : State} {k : Slot} :
    lowestFree s = some k ↔ plateAt s k = none ∧ ∀ j, j < k → plateAt s j ≠ none := by
  simp only [lowestFree, allSlots, ← Fin.find?_eq_find?_finRange, Fin.find?_eq_some_iff, Option.isNone_iff_eq_none,
    Option.isNone_eq_false_iff, Option.isSome_iff_ne_none]

end Sys2Proof.Machine
end

section
/-! SUPPORT. PLATE_ADD: its body read back, what its part does case by case, and the settlement of O29 (R13, R14). -/

namespace Sys2Proof.Machine

/-- The fields of an order fit the bytes PLATE_ADD's body has for them (R195). -/
structure PlateOrder.Codable (o : PlateOrder) : Prop where
  plateId : o.plateId < 65536
  recipeNo : o.recipeNo < 256
  width : o.width < 65536
  length : o.length < 65536
  thickness : o.thickness < 65536
  relief : o.relief < 65536
  coverage : o.coverage < 256
  sort : o.sort < 256

theorem encodeOrder_length (o : PlateOrder) : (encodeOrder o).length = 13 := rfl

theorem parseOrder_encodeOrder {o : PlateOrder} (h : o.Codable) : parseOrder (encodeOrder o) = some o := by
  simp [encodeOrder, parseOrder, b1, b2, num2_ofNat h.plateId, num2_ofNat h.width, num2_ofNat h.length,
    num2_ofNat h.thickness, num2_ofNat h.relief, Nat.mod_eq_of_lt h.recipeNo, Nat.mod_eq_of_lt h.coverage,
    Nat.mod_eq_of_lt h.sort]

theorem actPlateAdd_encodeOrder {o : PlateOrder} (h : o.Codable) (s : State) :
    actPlateAdd (encodeOrder o) s = actOrder o s := by
  rw [actPlateAdd, parseOrder_encodeOrder h]

theorem orderInRange_iff (o : PlateOrder) : orderInRange o = true ↔
    1 ≤ o.plateId ∧ o.plateId ≤ 65534 ∧ 1 ≤ o.recipeNo ∧ o.recipeNo ≤ 24 ∧ 200 ≤ o.width ∧ o.width ≤ 1320
      ∧ 200 ≤ o.length ∧ o.length ≤ 2032 ∧ 760 ≤ o.thickness ∧ o.thickness ≤ 6350 ∧ 200 ≤ o.relief ∧ o.relief ≤ 4000
      ∧ o.relief < o.thickness ∧ (o.sort ≤ 15 ∨ o.sort = 255) := by
  simp only [orderInRange, idInRange, recipeNoInRange, widthInRange, lengthInRange, thicknessInRange, reliefInRange,
    sortInRange, Bool.and_eq_true, Bool.or_eq_true, decide_eq_true_eq, beq_iff_eq, and_assoc]

theorem serviceBlind_actOrder (o : PlateOrder) : ServiceBlind (actOrder o) := by
  intro e s
  simp only [actOrder, recipeNumbered_serving, slotOfId_serving, serving_ptb, lowestFree_serving, addPlate_serving]
  cases orderInRange o with
  | false => rfl
  | true =>
    cases recipeNumbered s o.recipeNo with
    | none => rfl
    | some recipe =>
      by_cases taken : (slotOfId s o.plateId).isSome = true
      · simp [taken]
      · by_cases full : Config.queueLimit ≤ s.ptb.queue.length
        · simp [taken, full]
        · cases lowestFree s <;> simp [taken, full]

theorem serviceBlind_actPlateAdd (body : List Byte) : ServiceBlind (actPlateAdd body) := by
  intro e s
  unfold actPlateAdd
  split
  · exact serviceBlind_actOrder _ e s
  · rfl

/-- A PLATE_ADD that may be served has the effect and the reply of its order's part. -/
theorem exec_plateAdd {tag : Byte} {o : PlateOrder} {s : State} (h : o.Codable)
    (ready : Servable (.frame ⟨32#8, tag, encodeOrder o⟩) s) :
    exec (.plateAdd tag (encodeOrder o)) s = .next (replied 32#8 tag (actOrder o s).2 (actOrder o s).1) := by
  rw [← actPlateAdd_encodeOrder h]
  exact request_next (serviceBlind_actPlateAdd _) (by simp) (by simp [encodeOrder_length])
    (by simp [bodyFits, fixedLength, encodeOrder_length]) ready

/-! ### The part of an order, case by case (R14 in its order, then R13) -/

section Order
variable {o : PlateOrder} {s : State} {recipe : Recipe}

theorem actOrder_badField (h : orderInRange o = false) : actOrder o s = (s, refusal .badField) := by
  simp [actOrder, h]

theorem actOrder_notFound (h : orderInRange o = true) (empty : recipeNumbered s o.recipeNo = none) :
    actOrder o s = (s, refusal .notFound) := by
  simp [actOrder, h, empty]

theorem actOrder_duplicateId (h : orderInRange o = true) (cook : recipeNumbered s o.recipeNo = some recipe)
    (taken : (slotOfId s o.plateId).isSome = true) : actOrder o s = (s, refusal .duplicateId) := by
  simp [actOrder, h, cook, taken]

variable (h : orderInRange o = true) (cook : recipeNumbered s o.recipeNo = some recipe)
  (new : (slotOfId s o.plateId).isSome = false)
include h cook new

theorem actOrder_queueFull (full : 16 ≤ s.ptb.queue.length) : actOrder o s = (s, refusal .queueFull) := by
  simp [actOrder, h, cook, new, Config.queueLimit, full]

theorem actOrder_tableFull (room : s.ptb.queue.length < 16) (full : lowestFree s = none) :
    actOrder o s = (s, refusal .tableFull) := by
  simp [actOrder, h, cook, new, Config.queueLimit, Nat.not_le.2 room, full]

theorem actOrder_accepted {k : Slot} (room : s.ptb.queue.length < 16) (free : lowestFree s = some k) :
    actOrder o s = (addPlate k (newPlate o recipe.process) s,
      if 100 < o.coverage then ⟨.clamped, encodePlate k (newPlate o recipe.process)⟩
      else ⟨.ok, [BitVec.ofNat 8 (k.val + 1)]⟩) := by
  simp [actOrder, h, cook, new, Config.queueLimit, Nat.not_le.2 room, free, okReply, b1]

end Order

/-- Settles O29, by the cases of R14 in their order and the record of R13. -/
theorem plateAdd : Obligations.PlateAdd := by
  intro tag o s id rec wid len thick rel cov sort ready inRange answers
  have run := exec_plateAdd ⟨id, rec, wid, len, thick, rel, cov, sort⟩ ready
  have refuse : ∀ {st : Status}, actOrder o s = (s, refusal st) → answers st := fun part => by
    rw [part] at run
    exact run
  have range : orderInRange o = true ↔ inRange := orderInRange_iff o
  refine ⟨fun out => refuse (actOrder_badField (Bool.eq_false_iff.2 (range.not.2 out))),
    fun ok empty => refuse (actOrder_notFound (range.2 ok) empty), fun recipe ok cook => ⟨?_, fun new => ?_⟩⟩
  · intro k p held same
    exact refuse (actOrder_duplicateId (range.2 ok) cook (slotOfId_isSome_iff.2 ⟨k, p, held, same⟩))
  · have unused : (slotOfId s o.plateId).isSome = false := by
      rw [Bool.eq_false_iff, Ne, slotOfId_isSome_iff]
      rintro ⟨k, p, held, same⟩
      exact new k p held same
    refine ⟨fun full => refuse (actOrder_queueFull (range.2 ok) cook unused full),
      fun room full => refuse (actOrder_tableFull (range.2 ok) cook unused room (lowestFree_eq_none_iff.2 full)), ?_⟩
    intro k room free lowest
    rw [run, actOrder_accepted (range.2 ok) cook unused room (lowestFree_eq_some_iff.2 ⟨free, lowest⟩)]
    rfl

end Sys2Proof.Machine
end

section
/-! SUPPORT. PLATE_AMEND: its body read back, what its part does case by case, and the settlement of O32 (R16, R17). -/

namespace Sys2Proof.Machine

/-! ### The body read back (R195) -/

/-- The fields an amendment carries fit the bytes PLATE_AMEND's body has for them (R195). -/
structure Amendment.Codable (a : Amendment) : Prop where
  plateId : a.plateId.all (· < 65536) = true
  recipeNo : a.recipeNo.all (· < 256) = true
  width : a.width.all (· < 65536) = true
  length : a.length.all (· < 65536) = true
  thickness : a.thickness.all (· < 65536) = true
  relief : a.relief.all (· < 65536) = true
  coverage : a.coverage.all (· < 256) = true
  sort : a.sort.all (· < 256) = true

/-- The byte whose bit at each place of R195's list says whether the field there is carried. -/
def presenceByte (c0 c1 c2 c3 c4 c5 c6 c7 : Bool) : Byte :=
  BitVec.ofNat 8 ((if c0 then 1 else 0) + (if c1 then 2 else 0) + (if c2 then 4 else 0) + (if c3 then 8 else 0)
    + (if c4 then 16 else 0) + (if c5 then 32 else 0) + (if c6 then 64 else 0) + (if c7 then 128 else 0))

theorem present_presenceByte : ∀ c0 c1 c2 c3 c4 c5 c6 c7 : Bool,
    let p := presenceByte c0 c1 c2 c3 c4 c5 c6 c7
    present p 0 = c0 ∧ present p 1 = c1 ∧ present p 2 = c2 ∧ present p 3 = c3 ∧ present p 4 = c4 ∧ present p 5 = c5
      ∧ present p 6 = c6 ∧ present p 7 = c7 := by
  decide

/-- An amendment's presence byte. -/
def Amendment.carried (a : Amendment) : Byte :=
  presenceByte a.plateId.isSome a.recipeNo.isSome a.width.isSome a.length.isSome a.thickness.isSome a.relief.isSome
    a.coverage.isSome a.sort.isSome

theorem present_carried (a : Amendment) :
    present a.carried 0 = a.plateId.isSome ∧ present a.carried 1 = a.recipeNo.isSome
    ∧ present a.carried 2 = a.width.isSome ∧ present a.carried 3 = a.length.isSome
    ∧ present a.carried 4 = a.thickness.isSome ∧ present a.carried 5 = a.relief.isSome
    ∧ present a.carried 6 = a.coverage.isSome ∧ present a.carried 7 = a.sort.isSome :=
  present_presenceByte _ _ _ _ _ _ _ _

/-- The bytes of a field that may be left out. -/
def fieldBytes (enc : Nat → List Byte) (o : Option Nat) : List Byte := (o.map enc).getD []

/-- The bytes of an amendment's fields. -/
def Amendment.fields (a : Amendment) : List Byte :=
  fieldBytes b2 a.plateId ++ (fieldBytes b1 a.recipeNo ++ (fieldBytes b2 a.width ++ (fieldBytes b2 a.length
    ++ (fieldBytes b2 a.thickness ++ (fieldBytes b2 a.relief ++ (fieldBytes b1 a.coverage ++ fieldBytes b1 a.sort))))))

theorem amendBody_eq (a : Amendment) : amendBody a = a.carried :: a.fields := by
  simp only [amendBody, Amendment.carried, Amendment.fields, presenceByte, fieldBytes, List.append_assoc]
  rfl

theorem takeField_b1 {o : Option Nat} (h : o.all (· < 256) = true) (rest : List Byte) :
    takeField o.isSome 1 (fieldBytes b1 o ++ rest) = (o, rest) := by
  cases o with
  | none => rfl
  | some n => simpa [takeField, fieldBytes, b1, numOf] using h

theorem takeField_b2 {o : Option Nat} (h : o.all (· < 65536) = true) (rest : List Byte) :
    takeField o.isSome 2 (fieldBytes b2 o ++ rest) = (o, rest) := by
  cases o with
  | none => rfl
  | some n =>
    have back : num2 (BitVec.ofNat 8 (n / 256)) (BitVec.ofNat 8 n) = n := num2_ofNat (by simpa using h)
    simpa [takeField, fieldBytes, b2, numOf, num2] using back

theorem parseAmendment_fields {a : Amendment} (h : a.Codable) : parseAmendment a.carried a.fields = a := by
  have last : takeField a.sort.isSome 1 (fieldBytes b1 a.sort) = (a.sort, []) := by simpa using takeField_b1 h.sort []
  simp only [parseAmendment, present_carried, Amendment.fields, takeField_b1 h.recipeNo, takeField_b1 h.coverage, last,
    takeField_b2 h.plateId, takeField_b2 h.width, takeField_b2 h.length, takeField_b2 h.thickness, takeField_b2 h.relief]

theorem fieldBytes_b1_length (o : Option Nat) : (fieldBytes b1 o).length = if o.isSome then 1 else 0 := by
  cases o <;> rfl

theorem fieldBytes_b2_length (o : Option Nat) : (fieldBytes b2 o).length = if o.isSome then 2 else 0 := by
  cases o <;> rfl

theorem presenceLength_amendSizes (p : Byte) : presenceLength p amendSizes =
    (if present p 0 then 2 else 0) + ((if present p 1 then 1 else 0) + ((if present p 2 then 2 else 0)
      + ((if present p 3 then 2 else 0) + ((if present p 4 then 2 else 0) + ((if present p 5 then 2 else 0)
      + ((if present p 6 then 1 else 0) + (if present p 7 then 1 else 0))))))) := rfl

theorem fields_length (a : Amendment) : a.fields.length = presenceLength a.carried amendSizes := by
  simp only [presenceLength_amendSizes, present_carried, Amendment.fields, List.length_append, fieldBytes_b1_length,
    fieldBytes_b2_length]

theorem presenceLength_amendSizes_le (p : Byte) : presenceLength p amendSizes ≤ 13 := by
  have bound : ∀ (b : Bool) (n : Nat), (if b then n else 0) ≤ n := by
    intro b n
    split <;> simp
  have h (k n : Nat) := bound (present p k) n
  rw [presenceLength_amendSizes]
  linarith [h 0 2, h 1 1, h 2 2, h 3 2, h 4 2, h 5 2, h 6 1, h 7 1]

theorem amendFits_amendBody (how hi lo : Byte) (a : Amendment) : amendFits ([how, hi, lo] ++ amendBody a) = true := by
  simp [amendFits, amendBody_eq, fields_length]

theorem amendBody_length_le (a : Amendment) : (amendBody a).length ≤ 14 := by
  rw [amendBody_eq, List.length_cons, fields_length]
  exact Nat.succ_le_succ (presenceLength_amendSizes_le _)

/-! ### The ranges of what is carried (R17, case 1) -/

theorem amendmentInRange_iff (a : Amendment) : amendmentInRange a = true ↔
    (∀ n, a.plateId = some n → 1 ≤ n ∧ n ≤ 65534) ∧ (∀ n, a.recipeNo = some n → 1 ≤ n ∧ n ≤ 24)
      ∧ (∀ n, a.width = some n → 200 ≤ n ∧ n ≤ 1320) ∧ (∀ n, a.length = some n → 200 ≤ n ∧ n ≤ 2032)
      ∧ (∀ n, a.thickness = some n → 760 ≤ n ∧ n ≤ 6350) ∧ (∀ n, a.relief = some n → 200 ≤ n ∧ n ≤ 4000)
      ∧ (∀ n, a.sort = some n → n ≤ 15 ∨ n = 255) := by
  simp only [amendmentInRange, carriedOk, Option.all_eq_true, idInRange, recipeNoInRange, widthInRange, lengthInRange,
    thicknessInRange, reliefInRange, sortInRange, Bool.and_eq_true, Bool.or_eq_true, decide_eq_true_eq, beq_iff_eq,
    and_assoc]

/-! ### Service -/

@[simp] theorem recipeMissing_serving (a : Amendment) (e : RxEntry) (s : State) :
    recipeMissing a (serving e s) = recipeMissing a s := rfl

@[simp] theorem idTaken_serving (a : Amendment) (k : Slot) (e : RxEntry) (s : State) :
    idTaken a k (serving e s) = idTaken a k s := rfl

theorem serviceBlind_amendPlate (a : Amendment) (k : Slot) (r : PlateRecord) : ServiceBlind (amendPlate a k r) := by
  intro e s
  have same : recipeNumbered (serving e s) = recipeNumbered s := rfl
  simp only [amendPlate, same, recipeMissing_serving, idTaken_serving, setPlate_serving]
  (repeat' split) <;> rfl

theorem serviceBlind_actPlateAmend (body : List Byte) : ServiceBlind (actPlateAmend body) := by
  intro e s
  unfold actPlateAmend
  split
  · split
    · exact serviceBlind_withPlate _ (serviceBlind_amendPlate _) e s
    · rfl
  · rfl

/-- What an amendment does to the plate three selector bytes name: the ranges, the selector, then the record (R17). -/
def amendSelected (how hi lo : Byte) (a : Amendment) (s : State) : State × Reply :=
  if amendmentInRange a then withPlate (selectorOf how hi lo) (amendPlate a) s else (s, refusal .badField)

/-- A PLATE_AMEND that may be served has the effect and the reply of its amendment's part. -/
theorem exec_plateAmend {tag how hi lo : Byte} {a : Amendment} {s : State} (h : a.Codable)
    (ready : Servable (.frame ⟨34#8, tag, [how, hi, lo] ++ amendBody a⟩) s) :
    exec (.plateAmend tag ([how, hi, lo] ++ amendBody a)) s =
      .next (replied 34#8 tag (amendSelected how hi lo a s).2 (amendSelected how hi lo a s).1) := by
  have part : actPlateAmend ([how, hi, lo] ++ amendBody a) s = amendSelected how hi lo a s := by
    simp only [amendBody_eq, List.cons_append, List.nil_append, actPlateAmend, parseAmendment_fields h]
    rfl
  have short : ([how, hi, lo] ++ amendBody a).length ≤ 298 := by
    have := amendBody_length_le a
    simp only [List.length_append, List.length_cons, List.length_nil]
    omega
  rw [← part]
  exact request_next (serviceBlind_actPlateAmend _) (by simp) short (amendFits_amendBody how hi lo a) ready

/-! ### The part of an amendment, case by case (R17 in its order, then R16) -/

section Amend
variable {how hi lo : Byte} {a : Amendment} {k : Slot} {r : PlateRecord} {s : State}

theorem amendSelected_outOfRange (h : amendmentInRange a = false) :
    amendSelected how hi lo a s = (s, refusal .badField) := by simp [amendSelected, h]

theorem amendSelected_inRange (h : amendmentInRange a = true) :
    amendSelected how hi lo a s = withPlate (selectorOf how hi lo) (amendPlate a) s := by simp [amendSelected, h]

theorem recipeMissing_iff : recipeMissing a s = true ↔ ∃ n, a.recipeNo = some n ∧ recipeNumbered s n = none := by
  unfold recipeMissing
  cases a.recipeNo <;> simp

theorem idTaken_iff : idTaken a k s = true ↔ ∃ n, a.plateId = some n ∧ ∃ j, slotOfId s n = some j ∧ j ≠ k := by
  unfold idTaken
  cases a.plateId with
  | none => simp
  | some id => cases h : slotOfId s id <;> simp [h]

theorem amendPlate_wrongState (h : r.state ≠ .queued) : amendPlate a k r s = (s, refusal .wrongState) := by
  simp [amendPlate, h]

variable (queued : r.state = .queued)
include queued

theorem amendPlate_badField (h : a.thickness.getD r.thickness ≤ a.relief.getD r.relief) :
    amendPlate a k r s = (s, refusal .badField) := by
  simp [amendPlate, amendRecord, queued, h]

variable (thin : a.relief.getD r.relief < a.thickness.getD r.thickness)
include thin

theorem amendPlate_notFound (h : recipeMissing a s = true) : amendPlate a k r s = (s, refusal .notFound) := by
  simp [amendPlate, amendRecord, queued, Nat.not_le.2 thin, h]

variable (cook : recipeMissing a s = false)
include cook

theorem amendPlate_duplicateId (h : idTaken a k s = true) : amendPlate a k r s = (s, refusal .duplicateId) := by
  simp [amendPlate, amendRecord, queued, Nat.not_le.2 thin, cook, h]

theorem amendPlate_accepted (h : idTaken a k s = false) :
    amendPlate a k r s =
      (setPlate k (some (amendRecord a (a.recipeNo.bind (recipeNumbered s)) r)) s,
       if 100 < a.coverage.getD 0
       then ⟨.clamped, encodePlate k (amendRecord a (a.recipeNo.bind (recipeNumbered s)) r)⟩ else ⟨.ok, []⟩) := by
  have relief : ¬ (amendRecord a (a.recipeNo.bind (recipeNumbered s)) r).thickness
      ≤ (amendRecord a (a.recipeNo.bind (recipeNumbered s)) r).relief := Nat.not_le.2 thin
  simp [amendPlate, queued, relief, cook, h, okOrClamped, okReply]

end Amend

/-- The record an accepted amendment stores, each field by itself (R16). -/
theorem amendRecord_eq (a : Amendment) (s : State) (r : PlateRecord) :
    amendRecord a (a.recipeNo.bind (recipeNumbered s)) r =
      { r with
        plateId := a.plateId.getD r.plateId
        recipeNo := a.recipeNo.getD r.recipeNo
        working := (a.recipeNo.bind (fun n => (recipeNumbered s n).map (·.process))).getD r.working
        width := a.width.getD r.width
        length := a.length.getD r.length
        thickness := a.thickness.getD r.thickness
        relief := a.relief.getD r.relief
        coverage := (a.coverage.map (min 100)).getD r.coverage
        sortCode := match a.sort with
          | none => r.sortCode
          | some n => if n = 255 then none else some n } := by
  have fresh : (if a.recipeNo.isSome then ((a.recipeNo.bind (recipeNumbered s)).map (·.process)).getD r.working
      else r.working) = (a.recipeNo.bind (fun n => (recipeNumbered s n).map (·.process))).getD r.working := by
    cases a.recipeNo <;> rfl
  have cap : a.coverage.map (fun c => min c 100) = a.coverage.map (min 100) := by
    cases a.coverage <;> simp [Nat.min_comm]
  simp only [amendRecord, fresh, cap]
  rfl

/-- Settles O32, by the cases of R17 in their order and the record of R16. -/
theorem plateAmend : Obligations.PlateAmend := by
  intro tag how hi lo a s id rec wid len thick rel cov sort body ready answers inRange
  have run := exec_plateAmend ⟨id, rec, wid, len, thick, rel, cov, sort⟩ ready
  have refuse : ∀ {st : Status}, amendSelected how hi lo a s = (s, refusal st) → answers st := fun part => by
    rw [part] at run
    exact run
  have range : amendmentInRange a = true ↔ inRange := amendmentInRange_iff a
  refine ⟨fun out => refuse (amendSelected_outOfRange (Bool.eq_false_iff.2 (range.not.2 out))), fun ok out => ?_,
    fun ok sel missing => ?_, fun k r ok named held => ?_⟩
  · exact refuse ((amendSelected_inRange (range.2 ok)).trans (withPlate_badField _ out))
  · exact refuse ((amendSelected_inRange (range.2 ok)).trans (withPlate_notFound _ sel missing))
  have part : amendSelected how hi lo a s = amendPlate a k r s :=
    (amendSelected_inRange (range.2 ok)).trans (withPlate_found _ named held)
  refine ⟨fun other => refuse (part.trans (amendPlate_wrongState other)), fun queued =>
    ⟨fun thick => refuse (part.trans (amendPlate_badField queued thick)), fun thin => ⟨fun n carried empty => ?_,
      fun cook => ?_⟩⟩⟩
  · exact refuse (part.trans (amendPlate_notFound queued thin (recipeMissing_iff.2 ⟨n, carried, empty⟩)))
  have cooked : recipeMissing a s = false := by
    rw [Bool.eq_false_iff, Ne, recipeMissing_iff]
    rintro ⟨n, carried, empty⟩
    exact cook n carried empty
  refine ⟨fun n carried other => ?_, fun own => ?_⟩
  · exact refuse (part.trans (amendPlate_duplicateId queued thin cooked (idTaken_iff.2 ⟨n, carried, other⟩)))
  have free : idTaken a k s = false := by
    rw [Bool.eq_false_iff, Ne, idTaken_iff]
    rintro ⟨n, carried, j, found, other⟩
    exact other (own n carried j found)
  rw [run, part, amendPlate_accepted queued thin cooked free, amendRecord_eq]
  rfl

end Sys2Proof.Machine
end

section
/-! SUPPORT. The trace requests: what their parts do case by case, and the settlement of O26 (R63, R64). -/

namespace Sys2Proof.Machine

/-! ### Service -/

theorem serviceBlind_actTraceRead (body : List Byte) : ServiceBlind (actTraceRead body) := by
  intro e s
  unfold actTraceRead
  split
  · split <;> rfl
  · rfl

theorem serviceBlind_actTraceClear : ServiceBlind actTraceClear := fun _ _ => rfl

/-- A TRACE_READ that may be served has the effect and the reply of its part. -/
theorem exec_traceRead {tag c : Byte} {s : State} (ready : Servable (.frame ⟨83#8, tag, [c]⟩) s) :
    exec (.traceRead tag [c]) s = .next (replied 83#8 tag (actTraceRead [c] s).2 (actTraceRead [c] s).1) :=
  request_next (serviceBlind_actTraceRead [c]) (by simp) (by simp) rfl ready

/-- A TRACE_CLEAR that may be served has the effect and the reply of its part. -/
theorem exec_traceClear {tag : Byte} {s : State} (ready : Servable (.frame ⟨84#8, tag, []⟩) s) :
    exec (.traceClear tag []) s = .next (replied 84#8 tag (actTraceClear s).2 (actTraceClear s).1) :=
  request_next serviceBlind_actTraceClear (by simp) (by simp) rfl ready

/-! ### The part of a TRACE_READ, case by case (R63) -/

section Read
variable {c : Byte} {s : State}

theorem actTraceRead_badField (out : c.toNat < 1 ∨ 32 < c.toNat) : actTraceRead [c] s = (s, refusal .badField) :=
  if_neg (by omega)

theorem actTraceRead_taken (low : 1 ≤ c.toNat) (high : c.toNat ≤ 32) :
    actTraceRead [c] s = (modDin (fun d => { d with trace := d.trace.drop c.toNat }) s,
      ⟨.ok, [BitVec.ofNat 8 (min c.toNat s.din.trace.length)] ++ (s.din.trace.take c.toNat).flatMap encodeTrace
        ++ b2 (s.din.trace.length - min c.toNat s.din.trace.length)⟩) := by
  have left : s.din.trace.length - c.toNat = s.din.trace.length - min c.toNat s.din.trace.length := by omega
  simp only [actTraceRead, low, high, and_self, if_true, okReply, b1, List.length_take, List.length_drop, left]

end Read

/-- Settles O26, by the two cases of R63 and the one of R64. -/
theorem traceRequests : Obligations.TraceRequests := by
  refine ⟨fun tag c s ready => ⟨fun out => ?_, fun low high => ?_⟩, fun tag s ready => exec_traceClear ready⟩
  · rw [Answers, exec_traceRead ready, actTraceRead_badField out]
    rfl
  · rw [exec_traceRead ready, actTraceRead_taken low high]
    rfl

end Sys2Proof.Machine
end

section
/-! SUPPORT. DRYER_SET: what its part stores and hands on, and the settlement of O38 (R122, R125). -/

namespace Sys2Proof.Machine

/-! ### Service -/

theorem driveSet_serving (c : DriveChannel) (sp : Setpoint) (e : RxEntry) (s : State) :
    driveSet c sp (serving e s) = serving e (driveSet c sp s) := by
  have same : driveState c (serving e s) = driveState c s := rfl
  simp only [driveSet, same]
  cases driveState c s <;> rfl

theorem carrySetpoint_serving (e : RxEntry) (s : State) :
    carrySetpoint (serving e s) = serving e (carrySetpoint s) :=
  driveSet_serving .heater (.value (dryerSetpoint s)) e s

theorem serviceBlind_actDryerSet (body : List Byte) : ServiceBlind (actDryerSet body) := by
  intro e s
  unfold actDryerSet
  split
  · exact Prod.ext (carrySetpoint_serving e (markUnsaved (storeSetpoint _ s))) rfl
  · rfl

/-- A DRYER_SET that may be served has the effect and the reply of its part. -/
theorem exec_dryerSet {tag x : Byte} {s : State} (ready : Servable (.frame ⟨67#8, tag, [x]⟩) s) :
    exec (.dryerSet tag [x]) s = .next (replied 67#8 tag (actDryerSet [x] s).2 (actDryerSet [x] s).1) :=
  request_next (serviceBlind_actDryerSet [x]) (by simp) (by simp) rfl ready

/-! ### The setpoint stored and handed on (R122, R125) -/

theorem driveSet_of_not_on {c : DriveChannel} {s : State} (off : driveIsOn c s = false) (sp : Setpoint) :
    driveSet c sp s = s := by
  unfold driveIsOn at off
  unfold driveSet
  cases h : driveState c s <;> simp [h] at off ⊢

theorem carrySetpoint_lio_of_not_on {s : State} (off : driveIsOn .heater s = false) :
    (carrySetpoint s).lio = s.lio := by
  rw [carrySetpoint, driveSet_of_not_on off]

theorem carrySetpoint_rss (s : State) : (carrySetpoint s).rss = s.rss := by simp

section Stored
variable (x : Byte) (s : State)

theorem actDryerSet_rss : (actDryerSet [x] s).1.rss = { s.rss with
    working := { s.rss.working with cal := { s.rss.working.cal with dryerSetpoint := max 40 (min x.toNat 70) } }
    unsaved := true } :=
  carrySetpoint_rss _

/-- The heater takes the stored setpoint if it is ON; every other channel stands. -/
theorem driveState_actDryerSet (c : DriveChannel) : driveState c (actDryerSet [x] s).1 =
    if c = .heater ∧ driveIsOn .heater s = true then .on (.value (max 40 (min x.toNat 70))) else driveState c s :=
  driveState_driveSet .heater c _ _

theorem actDryerSet_lio (off : driveIsOn .heater s = false) : (actDryerSet [x] s).1.lio = s.lio :=
  carrySetpoint_lio_of_not_on (s := markUnsaved (storeSetpoint (clampNat 40 70 x.toNat) s)) off

/-- The reply says OK if the value sent is in range, and otherwise CLAMPED with the one stored. -/
theorem actDryerSet_reply : (actDryerSet [x] s).2 =
    if 40 ≤ x.toNat ∧ x.toNat ≤ 70 then ⟨.ok, []⟩
      else ⟨.clamped, [BitVec.ofNat 8 (max 40 (min x.toNat 70))]⟩ := by
  have kept : clampNat 40 70 x.toNat = x.toNat ↔ 40 ≤ x.toNat ∧ x.toNat ≤ 70 := by
    unfold clampNat
    omega
  simp only [actDryerSet, okOrClamped, bne_iff_ne, ne_eq, kept, ite_not]
  rfl

end Stored

/-- Settles O38, by what the part of DRYER_SET does to the store, to the drive channels and to the reply. -/
theorem dryerSet : Obligations.DryerSet := by
  intro tag x s ready
  refine ⟨_, exec_dryerSet ready, actDryerSet_rss x s, fun on => ?_, actDryerSet_lio x s, fun c other => ?_, ?_, ?_⟩
  · exact (driveState_actDryerSet x s .heater).trans (if_pos ⟨rfl, on⟩)
  · exact (driveState_actDryerSet x s c).trans (if_neg fun both => other both.1)
  · simp only [replied, actDryerSet_reply, actDryerSet_frame]
  · simp [replied]

end Sys2Proof.Machine
end

section
/-! SUPPORT. LINE_HOLD and LINE_RESUME: what a change of the line state lets stand, and O22 (R174, R176). -/

namespace Sys2Proof.Machine

/-! ### Service of a request whose part need not be blind to the link -/

/-- A request that may be served, its body fitting, has the effect of its part with the entry in service (R188). -/
theorem request_served {kind tag : Byte} {body : List Byte} {act : State → State × Reply} {s u : State} {r : Reply}
    (part : act (serving (.frame ⟨kind, tag, body⟩) s) = (u, r)) (running : u.flt.lineState ≠ .init)
    (long : body.length ≤ 298) (fits : bodyFits ⟨kind, tag, body⟩ = true)
    (ready : Servable (.frame ⟨kind, tag, body⟩) s) :
    request kind tag body act s = .next (replied kind tag r u) := by
  obtain ⟨power, run, save, free⟩ := ready
  have served : serveRequest ⟨kind, tag, body⟩ act s = finishEntry kind tag r u := by
    have part : act (modLnk (fun l => { l with inService := some (.frame ⟨kind, tag, body⟩) }) s) = (u, r) := part
    rw [serveRequest, serveEntry_ready ((entryReady_eq _ s).2 ⟨run, save, free⟩), if_pos fits, part]
  simp only [request, eventIf, event, bodyInFrame, long, decide_true, if_true, power, served, finishEntry_lnk running]
  rfl

/-- A request whose part leaves the state as it is only answers (R188). -/
theorem request_answered {kind tag : Byte} {body : List Byte} {act : State → State × Reply} {s : State} {r : Reply}
    (part : act (serving (.frame ⟨kind, tag, body⟩) s) = (serving (.frame ⟨kind, tag, body⟩) s, r))
    (long : body.length ≤ 298) (fits : bodyFits ⟨kind, tag, body⟩ = true)
    (ready : Servable (.frame ⟨kind, tag, body⟩) s) :
    request kind tag body act s = .next (replied kind tag r s) := by
  rw [request_served part ready.2.1 long fits ready, replied_serving]

/-! ### What goes on through a change of the line state -/

/-- From `s` to `t` the loading, the lamp-on times and the trace stand, and no flag and no attention item is lost. -/
structure GoesOn (s t : State) : Prop where
  lambda : t.wou.lambda = s.wou.lambda
  lampOn : t.din.lampOn = s.din.lampOn
  trace : t.din.trace = s.din.trace
  flags : ∀ f, isSet f s = true → isSet f t = true
  items : ∀ a, attnHas s.lnk.attnPending a = true → attnHas t.lnk.attnPending a = true

namespace GoesOn
variable {s t u : State}

theorem refl (s : State) : GoesOn s s := ⟨rfl, rfl, rfl, fun _ h => h, fun _ h => h⟩

theorem trans (h : GoesOn s t) (g : GoesOn t u) : GoesOn s u :=
  ⟨g.lambda.trans h.lambda, g.lampOn.trans h.lampOn, g.trace.trans h.trace,
   fun f set => g.flags f (h.flags f set), fun a has => g.items a (h.items a has)⟩

/-- An operation that leaves the five parts as they are. -/
theorem of_eq (lambda : t.wou.lambda = s.wou.lambda) (lampOn : t.din.lampOn = s.din.lampOn)
    (trace : t.din.trace = s.din.trace) (flags : t.flt.flags = s.flt.flags)
    (items : t.lnk.attnPending = s.lnk.attnPending) : GoesOn s t :=
  ⟨lambda, lampOn, trace, fun f set => (isSet_congr flags f).trans set, fun a has => by rw [items]; exact has⟩

/-- An answer that hands on the state of another answer goes on as that one does. -/
theorem of_answer {α : Type} {x : State × α} {a : α} (eq : x = (t, a)) (h : GoesOn s x.1) : GoesOn s t := by
  rw [eq] at h
  exact h

end GoesOn

theorem goesOn_raiseAttn (a : AttnItem) (s : State) : GoesOn s (raiseAttn a s) := by
  refine ⟨by simp, by simp, by simp, fun f set => (isSet_congr (by simp) f).trans set, fun b has => ?_⟩
  rw [raiseAttn_pending, attnHas_or, has, Bool.true_or]

theorem goesOn_setFlag (f : Flag) (s : State) : GoesOn s (setFlag f s) := by
  refine ⟨by simp, by simp, by simp, fun g set => ?_, fun a has => ?_⟩
  · rw [isSet] at set ⊢
    rw [setFlag_flags, flagHas_or, set, Bool.true_or]
  · unfold setFlag
    split
    · exact has
    · dsimp only
      split
      · simpa using has
      · exact (goesOn_raiseAttn .fault _).items a (by simpa using has)

/-! ### The dose integrator's part (R46, R47, R55) -/

theorem goesOn_startSegment (ch : LampChannel) (r : RunRecord) (s : State) : GoesOn s (startSegment ch r s).1 := by
  refine .of_eq (by simp) ?_ ?_ (by simp) (by simp)
  all_goals
    unfold startSegment
    dsimp only
    (repeat' split) <;> simp

theorem goesOn_setChannel (ch : LampChannel) (c : Channel) (s : State) : GoesOn s (setChannel ch c s) :=
  .of_eq rfl rfl rfl rfl rfl

theorem goesOn_modResult (k : Slot) (ch : LampChannel) (f : RunResult → RunResult) (s : State) :
    GoesOn s (modResult k ch f s) := .of_eq (by simp) (by simp) (by simp) (by simp) (by simp)

theorem goesOn_startRun (ch : LampChannel) (k : Slot) (s : State) : GoesOn s (startRun ch k s).1 := by
  unfold startRun
  split
  · exact .refl s
  · split
    · split
      · exact (goesOn_modResult k ch skippedResult s).trans (goesOn_setChannel ch .idle _)
      · split
        all_goals
          next started => exact .of_answer started (goesOn_startSegment ch _ s)
    · exact .refl s

theorem goesOn_continueRun (ch : LampChannel) (k : Slot) (extension : Nat) (s : State) :
    GoesOn s (continueRun ch k extension s).1 := by
  unfold continueRun
  split
  · next r ending _ =>
    have resumed := (goesOn_modResult k ch (fun x => { x with outcome := .notRun }) s).trans
      (goesOn_startSegment ch { r with nCap := r.nCap + capRaise r.nNom extension } _)
    split
    · split
      all_goals
        next started => exact .of_answer started resumed
    · exact .refl s
  · exact .refl s

/-! ### The exposure unit's part (R74, R75) -/

theorem goesOn_askSegment (ch : LampChannel) (r : RunRecord) (s : State) : GoesOn s (askSegment ch r s).1 := by
  unfold askSegment
  split
  all_goals
    next started => exact .of_answer started (goesOn_startSegment ch r s)

theorem goesOn_askStart (ch : LampChannel) (k : Slot) (s : State) : GoesOn s (askStart ch k s).1 := by
  unfold askStart
  split
  all_goals
    next started => exact .of_answer started (goesOn_startRun ch k s)

theorem goesOn_askFresh (ch : LampChannel) (k : Slot) (s : State) : GoesOn s (askFresh ch k s).1 := by
  unfold askFresh
  split
  · split
    · exact goesOn_askSegment ch _ s
    · exact goesOn_askStart ch k s
  · exact goesOn_askStart ch k s

theorem goesOn_modExu (f : Exposure → Exposure) (s : State) : GoesOn s (modExu f s) := .of_eq rfl rfl rfl rfl rfl

theorem goesOn_exuRequest (ch : LampChannel) (k : Slot) (s : State) : GoesOn s (exuRequest ch k s).1 := by
  unfold exuRequest
  split
  · have asked := goesOn_continueRun ch k s.exu.extension s
    split
    · next answer =>
      exact (GoesOn.of_answer answer asked).trans (goesOn_modExu (fun e => { e with contPending := false }) _)
    · next answer =>
      exact (GoesOn.of_answer answer asked).trans (goesOn_modExu (fun e => { e with contPending := false }) _)
    · next answer => exact .of_answer answer asked
  · exact goesOn_askFresh ch k s

theorem goesOn_setPlate (k : Slot) (r : Option PlateRecord) (s : State) : GoesOn s (setPlate k r s) :=
  .of_eq rfl rfl rfl rfl rfl

theorem goesOn_holdPlate (k : Slot) (at_ : Station) (reason : HoldReason) (s : State) :
    GoesOn s (holdPlate k at_ reason s) := by
  unfold holdPlate
  split
  · exact .refl s
  · split
    · exact (goesOn_setPlate k _ s).trans (goesOn_raiseAttn .plateHeld _)
    · exact .refl s

theorem goesOn_exuAnswer (k : Slot) (x : State × WorkAnswer) : GoesOn x.1 (exuAnswer k x) := by
  unfold exuAnswer
  split
  · exact goesOn_modExu _ _
  · exact .refl _
  · exact .refl _
  · exact (goesOn_holdPlate k .exu _ _).trans (goesOn_modExu _ _)

theorem goesOn_askMain (s : State) : GoesOn s (askMain s) := by
  unfold askMain
  split
  · split
    · exact (goesOn_exuRequest .main _ s).trans (goesOn_exuAnswer _ _)
    · exact .refl s
  · exact .refl s

theorem goesOn_askExposure (s : State) : GoesOn s (askExposure s) := by
  unfold askExposure
  split
  · exact goesOn_askMain s
  · split
    · split
      · next k _ =>
        have asked := goesOn_exuRequest .back k s
        split
        · next skipped => exact ((GoesOn.of_answer skipped asked).trans (goesOn_modExu _ _)).trans (goesOn_askMain _)
        · exact asked.trans (goesOn_exuAnswer k _)
      · exact .refl s
    · exact .refl s
  · exact .refl s

/-! ### The washout's part (R95, R97) -/

@[simp] theorem takeTransport_list_lambda (s : State) :
    (takeTransport s).wou.list = s.wou.list ∧ (takeTransport s).wou.lambda = s.wou.lambda := by
  unfold takeTransport
  dsimp only
  (repeat' split) <;> simp

theorem goesOn_admitPlate (k : Slot) (p : PlateRecord) (d : DrawerNo) (s : State) : GoesOn s (admitPlate k p d s) := by
  refine .of_eq ?_ (by simp) (by simp) (by simp) (by simp)
  unfold admitPlate
  dsimp only
  split <;> simp

theorem goesOn_setBlocker (b : Blocker) (s : State) : GoesOn s (setBlocker b s) := .of_eq rfl rfl rfl rfl rfl

theorem goesOn_testAdmission (k : Slot) (p : PlateRecord) (s : State) : GoesOn s (testAdmission k p s) := by
  unfold testAdmission
  split
  · split
    · exact goesOn_setBlocker _ s
    · next granted =>
      have grant := reserveDrawer_frame granted
      exact .trans (.of_eq (by simp [grant]) (by simp [grant]) (by simp [grant]) (by simp [grant]) (by simp [grant]))
        (goesOn_admitPlate k p _ _)
  · dsimp only
    split
    · exact goesOn_setBlocker _ s
    · exact (goesOn_setBlocker _ s).trans (goesOn_setFlag _ _)

theorem goesOn_evalAdmission (s : State) : GoesOn s (evalAdmission s) := by
  unfold evalAdmission
  split
  · exact goesOn_setBlocker _ s
  · split
    · exact .refl s
    · split
      · exact goesOn_testAdmission _ _ s
      · exact .refl s

theorem goesOn_startReplenish (s : State) : GoesOn s (startReplenish s) :=
  .of_eq (by simp) (by simp) (by simp) (by simp) (by simp)

theorem goesOn_tryReplenish (s : State) : GoesOn s (tryReplenish s) := by
  unfold tryReplenish
  dsimp only
  split
  · exact goesOn_startReplenish s
  · exact (goesOn_startReplenish s).trans (goesOn_evalAdmission _)

/-! ### The finisher's part (R132) -/

theorem goesOn_modLfn (f : Finisher → Finisher) (s : State) : GoesOn s (modLfn f s) := .of_eq rfl rfl rfl rfl rfl

theorem goesOn_lfnWaits (c : FinisherLamp) (k : Slot) (s : State) : GoesOn s (lfnWaits c k s) :=
  .of_eq (by simp) (by simp) (by simp) (by simp) (by simp)

theorem goesOn_lfnAnswer (c : FinisherLamp) (k : Slot) (x : State × WorkAnswer) : GoesOn x.1 (lfnAnswer c k x) := by
  unfold lfnAnswer
  split
  · exact goesOn_modLfn _ _
  · exact .refl _
  · exact goesOn_modLfn _ _
  · exact ((goesOn_modLfn _ _).trans (goesOn_holdPlate k .lfn _ _)).trans (goesOn_modLfn _ _)

theorem goesOn_askFinisherChannel (c : FinisherLamp) (s : State) : GoesOn s (askFinisherChannel c s) := by
  unfold askFinisherChannel
  split
  · exact .refl s
  · next k _ =>
    have fresh := goesOn_askFresh c.channel k s
    have continued := goesOn_continueRun c.channel k s.lfn.extension s
    split
    · split
      · split
        · next waits => exact (GoesOn.of_answer waits fresh).trans (goesOn_lfnWaits c k _)
        · exact fresh.trans (goesOn_lfnAnswer c k _)
      · split
        · next waits => exact (GoesOn.of_answer waits fresh).trans (goesOn_lfnWaits c k _)
        · exact fresh.trans (goesOn_lfnAnswer c k _)
      · split
        · next answer => exact (GoesOn.of_answer answer continued).trans (goesOn_lfnAnswer c k (_, _))
        · next answer => exact (GoesOn.of_answer answer continued).trans (goesOn_lfnWaits c k _)
        · next answer => exact (GoesOn.of_answer answer continued).trans (goesOn_lfnAnswer c k (_, _))
      · exact .refl s
    · exact .refl s

theorem goesOn_testFinished (s : State) : GoesOn s (testFinished s) :=
  .of_eq (by simp) (by simp) (by simp) (by simp) (by simp)

theorem goesOn_askFinisher (s : State) : GoesOn s (askFinisher s) :=
  ((goesOn_askFinisherChannel .uva s).trans (goesOn_askFinisherChannel .uvc _)).trans (goesOn_testFinished _)

/-! ### The change of the line state (R177) -/

theorem goesOn_tryIntake (s : State) : GoesOn s (tryIntake s) :=
  .of_eq (by simp) (by simp) (by simp) (by simp) (by simp)

/-- TRC's part, which LFN's release precedes (R137, R144). -/
theorem goesOn_arbiter_tryRelease (s : State) : GoesOn s (arbiter (tryRelease s)) :=
  .of_eq (by simp) (by simp) (by simp) (by simp) (by simp)

theorem goesOn_stationsHearLine (s : State) : GoesOn s (stationsHearLine s) := by
  unfold stationsHearLine
  split
  · have exposure := (goesOn_tryIntake s).trans (goesOn_askExposure _)
    have washout := (goesOn_startReplenish (askExposure (tryIntake s))).trans (goesOn_evalAdmission _)
    exact ((exposure.trans washout).trans (goesOn_askFinisher _)).trans (goesOn_arbiter_tryRelease _)
  · exact (goesOn_tryReplenish s).trans (goesOn_arbiter_tryRelease _)
  · exact .refl s
  · exact .refl s

section Change
variable (new : LineState) (cause : Cause) (s : State)

/-- The state FLT has entered, its outputs following, before the change is reported. -/
def lineEntered : State := refreshOutputs (modFlt (fun t => { t with lineState := new, cause := cause }) s)

theorem changeLine_eq :
    changeLine new cause s = stationsHearLine (raiseAttn .lineState (lineEntered new cause s)) := rfl

@[simp] theorem lineEntered_frame :
    (lineEntered new cause s).ptb = s.ptb ∧ (lineEntered new cause s).din = s.din
    ∧ (lineEntered new cause s).exu = s.exu ∧ (lineEntered new cause s).wou = s.wou
    ∧ (lineEntered new cause s).dry = s.dry ∧ (lineEntered new cause s).lio.lamps = s.lio.lamps
    ∧ (lineEntered new cause s).lnk = s.lnk
    ∧ (lineEntered new cause s).flt = { s.flt with lineState := new, cause := cause } := by
  simp [lineEntered]

theorem goesOn_lineEntered : GoesOn s (lineEntered new cause s) := by
  refine .of_eq ?_ ?_ ?_ ?_ ?_ <;> simp

theorem goesOn_changeLine : GoesOn s (changeLine new cause s) :=
  ((goesOn_lineEntered new cause s).trans (goesOn_raiseAttn _ _)).trans (goesOn_stationsHearLine _)

@[simp] theorem changeLine_flt :
    (changeLine new cause s).flt.lineState = new ∧ (changeLine new cause s).flt.cause = cause
    ∧ (changeLine new cause s).flt.masks = s.flt.masks := by
  simp [changeLine_eq]

theorem changeLine_reports : attnHas (changeLine new cause s).lnk.attnPending .lineState = true := by
  refine (goesOn_stationsHearLine _).items .lineState ?_
  rw [raiseAttn_pending, attnHas_or, attnHas_attnBit]
  simp

end Change

/-! ### Out of RUN nothing is admitted, and work in progress stands (R95, R174) -/

theorem firstBlocker_not_run {s : State} (h : s.flt.lineState ≠ .run) (p : PlateRecord) :
    firstBlocker s p = .lineNotRun := if_pos h

theorem testAdmission_not_run {s : State} (h : s.flt.lineState ≠ .run) (k : Slot) (p : PlateRecord) :
    (testAdmission k p s).ptb = s.ptb ∧ (testAdmission k p s).exu = s.exu ∧ (testAdmission k p s).dry = s.dry
    ∧ (testAdmission k p s).wou.list = s.wou.list := by
  unfold testAdmission
  rw [if_neg (by simp [firstBlocker_not_run h])]
  dsimp only
  split <;> simp

theorem evalAdmission_not_run {s : State} (h : s.flt.lineState ≠ .run) :
    (evalAdmission s).ptb = s.ptb ∧ (evalAdmission s).exu = s.exu ∧ (evalAdmission s).dry = s.dry
    ∧ (evalAdmission s).wou.list = s.wou.list := by
  unfold evalAdmission
  split
  · simp
  · split
    · simp
    · split
      · exact testAdmission_not_run h _ _
      · simp

theorem tryReplenish_not_run {s : State} (h : s.flt.lineState ≠ .run) :
    (tryReplenish s).ptb = s.ptb ∧ (tryReplenish s).exu = s.exu ∧ (tryReplenish s).dry = s.dry
    ∧ (tryReplenish s).wou.list = s.wou.list := by
  have stopped : (startReplenish s).flt.lineState ≠ .run := by simpa using h
  unfold tryReplenish
  dsimp only
  split
  · simp
  · simp [evalAdmission_not_run stopped]

theorem stationsHearLine_safeHold {s : State} (h : s.flt.lineState = .safeHold) :
    (stationsHearLine s).ptb = s.ptb ∧ (stationsHearLine s).din = s.din ∧ (stationsHearLine s).exu = s.exu
    ∧ (stationsHearLine s).dry = s.dry ∧ (stationsHearLine s).lio.lamps = s.lio.lamps
    ∧ (stationsHearLine s).wou.list = s.wou.list := by
  have part : stationsHearLine s = arbiter (tryRelease (tryReplenish s)) := by simp only [stationsHearLine, h]
  have stopped : s.flt.lineState ≠ .run := by simp [h]
  simp [part, tryReplenish_not_run stopped]

theorem changeLine_safeHold (cause : Cause) (s : State) :
    (changeLine .safeHold cause s).ptb = s.ptb ∧ (changeLine .safeHold cause s).din = s.din
    ∧ (changeLine .safeHold cause s).exu = s.exu ∧ (changeLine .safeHold cause s).dry = s.dry
    ∧ (changeLine .safeHold cause s).lio.lamps = s.lio.lamps
    ∧ (changeLine .safeHold cause s).wou.list = s.wou.list := by
  have entered : (raiseAttn .lineState (lineEntered .safeHold cause s)).flt.lineState = .safeHold := by simp
  rw [changeLine_eq]
  simp [stationsHearLine_safeHold entered]

/-! ### The two requests, case by case (R174, R176) -/

section Requests
variable {s : State}

theorem actLineHold_run (h : s.flt.lineState = .run) :
    actLineHold s = (changeLine .safeHold .lineHold s, okReply []) := by simp [actLineHold, lineHold, h]

theorem actLineHold_not_run (h : s.flt.lineState ≠ .run) : actLineHold s = (s, okReply []) := by
  simp [actLineHold, lineHold, h]

theorem actLineResume_safeHold (h : s.flt.lineState = .safeHold) :
    actLineResume s = (changeLine .run .lineResume s, okReply []) := by simp [actLineResume, lineResume, h]

theorem actLineResume_run (h : s.flt.lineState = .run) : actLineResume s = (s, okReply []) := by
  simp [actLineResume, lineResume, h]

theorem actLineResume_stopped (h : s.flt.lineState = .stopped) : actLineResume s = (s, refusal .wrongState) := by
  simp [actLineResume, h]

end Requests

/-- R188: the reply OK without fields joins what waits to be sent. -/
theorem accepted_tx {kind tag : Byte} {s u : State} (same : u.lnk.tx = s.lnk.tx) :
    (replied kind tag (okReply []) u).lnk.tx = s.lnk.tx ++ [⟨kind, tag, [0#8]⟩] := by
  rw [← same]
  rfl

/-- Settles O22: the line state's change and what goes on through it where the request is accepted and acts, and the
bare answers elsewhere. -/
theorem lineHoldAndResume : Obligations.LineHoldAndResume := by
  refine ⟨fun tag s ready => ⟨fun run => ?_, fun other => ?_⟩,
    fun tag s ready => ⟨fun hold => ?_, fun run => ?_, fun stopped => ?_⟩⟩
  · have on := goesOn_changeLine .safeHold .lineHold (serving (.frame ⟨17#8, tag, []⟩) s)
    refine ⟨_, request_served (actLineHold_run run) (by simp) (by simp) rfl ready, ?_, ?_, changeLine_reports _ _ _,
      accepted_tx (by simp [serving]), ?_, ?_, ?_, ?_, ?_, ?_, ?_, on.lambda, ?_⟩
    all_goals simp [replied, changeLine_safeHold, serving]
  · have running : s.flt.lineState ≠ .run := by rcases other with h | h <;> simp [h]
    exact request_answered (actLineHold_not_run running) (by simp) rfl ready
  · have on := goesOn_changeLine .run .lineResume (serving (.frame ⟨18#8, tag, []⟩) s)
    refine ⟨_, request_served (actLineResume_safeHold hold) (by simp) (by simp) rfl ready, ?_, ?_,
      changeLine_reports _ _ _, accepted_tx (by simp [serving]), ?_, ?_, on.lambda, ?_, on.lampOn, on.trace, ?_,
      on.flags⟩
    all_goals simp [replied, serving]
  · exact request_answered (actLineResume_run run) (by simp) rfl ready
  · exact request_answered (actLineResume_stopped stopped) (by simp) rfl ready

end Sys2Proof.Machine
end

section
/-! SUPPORT. The attention requests: sets read back, what announcing, replacing and removing do to the link, and the
settlement of O11 (R192, R193). -/

namespace Sys2Proof.Machine

/-! ### Sets of attention items (R195) -/

section Sets
variable {b : Byte}

theorem attnSetOf_eq_some (low : b.toNat < 64) : attnSetOf b = some (b.setWidth 6) := by
  rw [attnSetOf, if_pos low, BitVec.ofNat_toNat]

theorem attnSetOf_eq_none (high : 64 ≤ b.toNat) : attnSetOf b = none := if_neg (by omega)

/-- A set below 64 is sent back as the byte it came in. -/
theorem bAttnSet_setWidth (low : b.toNat < 64) : bAttnSet (b.setWidth 6) = [b] := by
  have whole : (b.setWidth 6).toNat = b.toNat := by
    rw [BitVec.toNat_setWidth]
    exact Nat.mod_eq_of_lt low
  rw [bAttnSet, b1, whole, BitVec.ofNat_toNat, BitVec.setWidth_eq]

end Sets

/-! ### The enable set replaced (R193) -/

/-- The mark stays set, and an item newly enabled and pending sets it. -/
theorem announceEnabled_eq (old new : AttnSet) (s : State) :
    announceEnabled old new s =
      modLnk (fun l => { l with attnMark := l.attnMark || (new &&& ~~~old &&& l.attnPending != 0#6) }) s := by
  unfold announceEnabled
  split
  · next clear => simp [modLnk, clear]
  · next pending => simp [modLnk, pending]

theorem enableAttention_eq (m : AttnSet) (s : State) :
    enableAttention m s = { s with
      rss := { s.rss with
        working := { s.rss.working with cfg := { s.rss.working.cfg with attention := m } }
        unsaved := true }
      lnk := { s.lnk with
        attnMark := s.lnk.attnMark || (m &&& ~~~s.rss.working.cfg.attention &&& s.lnk.attnPending != 0#6) } } := by
  rw [enableAttention, announceEnabled_eq]
  rfl

theorem enableAttention_serving (m : AttnSet) (e : RxEntry) (s : State) :
    enableAttention m (serving e s) = serving e (enableAttention m s) := by
  simp only [enableAttention_eq]
  rfl

/-! ### Service -/

theorem serviceBlind_actAttnEnable (body : List Byte) : ServiceBlind (actAttnEnable body) := by
  intro e s
  unfold actAttnEnable
  split
  · split
    · exact Prod.ext (enableAttention_serving _ e s) rfl
    · rfl
  · rfl

theorem serviceBlind_actAttnClear (body : List Byte) : ServiceBlind (actAttnClear body) := by
  intro e s
  unfold actAttnClear
  split
  · split <;> rfl
  · rfl

/-- An ATTN_ENABLE that may be served has the effect and the reply of its part. -/
theorem exec_attnEnable {tag b : Byte} {s : State} (ready : Servable (.frame ⟨96#8, tag, [b]⟩) s) :
    exec (.attnEnable tag [b]) s = .next (replied 96#8 tag (actAttnEnable [b] s).2 (actAttnEnable [b] s).1) :=
  request_next (serviceBlind_actAttnEnable [b]) (by simp) (by simp) rfl ready

/-- An ATTN_CLEAR that may be served has the effect and the reply of its part. -/
theorem exec_attnClear {tag b : Byte} {s : State} (ready : Servable (.frame ⟨97#8, tag, [b]⟩) s) :
    exec (.attnClear tag [b]) s = .next (replied 97#8 tag (actAttnClear [b] s).2 (actAttnClear [b] s).1) :=
  request_next (serviceBlind_actAttnClear [b]) (by simp) (by simp) rfl ready

/-! ### The parts of the two requests, case by case (R192, R193) -/

section Attention
variable {b : Byte} (s : State)

theorem actAttnEnable_badField (high : 64 ≤ b.toNat) : actAttnEnable [b] s = (s, refusal .badField) := by
  simp only [actAttnEnable, attnSetOf_eq_none high]

theorem actAttnEnable_replaced (low : b.toNat < 64) :
    actAttnEnable [b] s = (enableAttention (b.setWidth 6) s, okReply [b]) := by
  simp only [actAttnEnable, attnSetOf_eq_some low, bAttnSet_setWidth low]

theorem actAttnClear_badField (high : 64 ≤ b.toNat) : actAttnClear [b] s = (s, refusal .badField) := by
  simp only [actAttnClear, attnSetOf_eq_none high]

theorem actAttnClear_removed (low : b.toNat < 64) :
    actAttnClear [b] s = (clearAttention (b.setWidth 6) s,
      okReply (bAttnSet (s.lnk.attnPending &&& ~~~(b.setWidth 6)))) := by
  simp only [actAttnClear, attnSetOf_eq_some low]
  rfl

end Attention

/-- Settles O11: each request either refuses a value from 64 on, or acts on the set the byte carries. -/
theorem attentionRequests : Obligations.AttentionRequests := by
  refine ⟨fun tag b s ready => ⟨fun high => ?_, fun low => ?_⟩, fun tag b s ready => ⟨fun high => ?_, fun low => ?_⟩⟩
  · rw [Answers, exec_attnClear ready, actAttnClear_badField s high]
    rfl
  · rw [exec_attnClear ready, actAttnClear_removed s low]
    rfl
  · rw [Answers, exec_attnEnable ready, actAttnEnable_badField s high]
    rfl
  · rw [exec_attnEnable ready, actAttnEnable_replaced s low, enableAttention_eq]
    rfl

end Sys2Proof.Machine
end

section
/-! SUPPORT. One relation between a state and a later one, which nearly every operation of the controller meets: no input
function changes, nothing is turned ON against an interlock (R165, R168), and the laws of the loading, the buffers and
the plate table carry over (R2, R6, R11, R61, R91, R100, R187). The leaves of the model and the dose integrator. -/

namespace Sys2Proof.Machine

/-! ### The laws, as far as they depend on parts of the state -/

theorem LoadingKept.of_eq {s t : State} (h : LoadingKept s) (list : t.wou.list = s.wou.list)
    (committed : t.wou.committed = s.wou.committed) : LoadingKept t :=
  ⟨by rw [list]; exact h.atMostThree, by rw [list, committed]; exact h.account⟩

theorem BuffersBounded.of_eq {s t : State} (h : BuffersBounded s) (trace : t.din.trace = s.din.trace)
    (rx : t.lnk.rx = s.lnk.rx) (plates : t.ptb.plates = s.ptb.plates) : BuffersBounded t :=
  ⟨by rw [trace]; exact h.trace, by rw [rx]; exact h.receive, fun k r => by rw [plateAt_congr plates]; exact h.notices k r⟩

theorem TableLawful.of_eq {s t : State} (h : TableLawful s) (plates : t.ptb.plates = s.ptb.plates)
    (queue : t.ptb.queue = s.ptb.queue) : TableLawful t :=
  ⟨fun j k p q => by rw [plateAt_congr plates, plateAt_congr plates]; exact h.idsDiffer j k p q,
   by rw [queue]; exact h.queueOnce, fun k => by rw [queue, plateState_congr plates]; exact h.queueIsQueued k,
   by rw [queue]; exact h.queueShort⟩

theorem lampRefused_congr {s t : State} (senses : ∀ fn, inputActive fn t = inputActive fn s) (c : LampChannel) :
    lampRefused c t = lampRefused c s := by simp [lampRefused, inhibitActive, senses]

/-! ### The relation -/

/-- From `s` to `t` the input functions stand, a drive or lamp channel has gone ON only where the interlocks let it, and
the laws on the loading, the buffers and the plate table carry over. -/
structure Keeps (s t : State) : Prop where
  senses : ∀ fn, inputActive fn t = inputActive fn s := by exact inputActive_congr (by simp) (by simp)
  drives : ∀ c, driveIsOn c t = true → driveIsOn c s = true ∨ inhibitActive s = false := by
    exact fun c on => .inl ((driveIsOn_congr (by simp) c).symm.trans on)
  lamps : ∀ c, lampIsOn c t = true → lampIsOn c s = true ∨ lampRefused c s = false := by
    exact fun c on => .inl ((lampIsOn_congr (by simp) c).symm.trans on)
  loading : LoadingKept s → LoadingKept t := by exact fun h => h.of_eq (by simp) (by simp)
  buffers : BuffersBounded s → BuffersBounded t := by exact fun h => h.of_eq (by simp) (by simp) (by simp)
  table : TableLawful s → TableLawful t := by exact fun h => h.of_eq (by simp) (by simp)

namespace Keeps
variable {s t u : State}

theorem refl (s : State) : Keeps s s := {}

theorem trans (h : Keeps s t) (g : Keeps t u) : Keeps s u where
  senses fn := (g.senses fn).trans (h.senses fn)
  drives c on := (g.drives c on).elim (h.drives c) fun off => .inr ((h.senses .inhibit).symm.trans off)
  lamps c on := (g.lamps c on).elim (h.lamps c) fun may => .inr ((lampRefused_congr h.senses c).symm.trans may)
  loading k := g.loading (h.loading k)
  buffers k := g.buffers (h.buffers k)
  table k := g.table (h.table k)

theorem inhibit (h : Keeps s t) : inhibitActive t = inhibitActive s := h.senses .inhibit

/-- The interlocks carry over (R168, R169). -/
theorem interlocked (h : Keeps s t) (safe : Interlocked s) : Interlocked t where
  drives active c := by
    rw [h.inhibit] at active
    by_contra on
    rcases h.drives c (by simpa using on) with was | off
    · simp [safe.drives active c] at was
    · simp [active] at off
  lamps active c := by
    rw [h.inhibit] at active
    by_contra on
    rcases h.lamps c (Option.isSome_iff_ne_none.2 on) with was | may
    · simp [lampIsOn, safe.lamps active c] at was
    · simp [lampRefused, active] at may
  lid opened := by
    rw [h.senses] at opened
    obtain ⟨back, main⟩ := safe.lid opened
    constructor <;> by_contra on
    · rcases h.lamps .back (Option.isSome_iff_ne_none.2 on) with was | may
      · simp [lampIsOn, back] at was
      · simp [lampRefused, opened] at may
    · rcases h.lamps .main (Option.isSome_iff_ne_none.2 on) with was | may
      · simp [lampIsOn, main] at was
      · simp [lampRefused, opened] at may

/-- An answer that hands on the state of another answer keeps what that one keeps. -/
theorem of_answer {α : Type} {x : State × α} {a : α} (eq : x = (t, a)) (h : Keeps s x.1) : Keeps s t := by
  rw [eq] at h
  exact h

end Keeps

variable {s t : State}

/-- A fold of steps that keep keeps. -/
theorem keeps_foldl {α : Type} {f : State → α → State} (step : ∀ t a, Keeps s t → Keeps s (f t a)) (l : List α)
    (h : Keeps s t) : Keeps s (l.foldl f t) := by
  induction l generalizing t with
  | nil => exact h
  | cons a l ih => exact ih (step t a h)

/-! ### Updates of one block -/

theorem keeps_modExu {f : Exposure → Exposure} (h : Keeps s t) : Keeps s (modExu f t) := h.trans {}
theorem keeps_modDry {f : Dryer → Dryer} (h : Keeps s t) : Keeps s (modDry f t) := h.trans {}
theorem keeps_modLfn {f : Finisher → Finisher} (h : Keeps s t) : Keeps s (modLfn f t) := h.trans {}
theorem keeps_modTrc {f : Transfer → Transfer} (h : Keeps s t) : Keeps s (modTrc f t) := h.trans {}
theorem keeps_modFlt {f : FaultMonitor → FaultMonitor} (h : Keeps s t) : Keeps s (modFlt f t) := h.trans {}

theorem keeps_modRss {f : Store → Store} (cfg : (f t.rss).working.cfg = t.rss.working.cfg) (h : Keeps s t) :
    Keeps s (modRss f t) := h.trans { senses := inputActive_congr rfl cfg }

theorem keeps_modWou {f : Washout → Washout} (list : (f t.wou).list = t.wou.list)
    (committed : (f t.wou).committed = t.wou.committed) (h : Keeps s t) : Keeps s (modWou f t) :=
  h.trans { loading := fun kept => kept.of_eq list committed }

theorem keeps_modDin {f : DoseIntegrator → DoseIntegrator} (trace : (f t.din).trace.length ≤ max 512 t.din.trace.length)
    (h : Keeps s t) : Keeps s (modDin f t) :=
  h.trans { buffers := fun b => ⟨trace.trans (max_le le_rfl b.trace), b.receive, b.notices⟩ }

theorem keeps_modLnk {f : Link → Link} (rx : (f t.lnk).rx.length ≤ max 2 t.lnk.rx.length) (h : Keeps s t) :
    Keeps s (modLnk f t) :=
  h.trans { buffers := fun b => ⟨b.trace, rx.trans (max_le le_rfl b.receive), b.notices⟩ }

theorem keeps_raiseAttn {a : AttnItem} (h : Keeps s t) : Keeps s (raiseAttn a t) := h.trans {}
theorem keeps_setDrawer {d : DrawerNo} {v : Drawer} (h : Keeps s t) : Keeps s (setDrawer d v t) := h.trans {}
theorem keeps_setOutput {i : Fin 8} {v : OutputLine} (h : Keeps s t) : Keeps s (setOutput i v t) := h.trans {}
theorem keeps_refreshOutput {i : Fin 8} (h : Keeps s t) : Keeps s (refreshOutput t i) := h.trans {}
theorem keeps_refreshOutputs (h : Keeps s t) : Keeps s (refreshOutputs t) := h.trans {}
theorem keeps_setFlag {f : Flag} (h : Keeps s t) : Keeps s (setFlag f t) := h.trans {}
theorem keeps_clearFlag {f : Flag} (h : Keeps s t) : Keeps s (clearFlag f t) := h.trans {}

/-! ### Records (R2, R6, R11) -/

/-- A notice list within its size, no notice twice (R6). -/
def NoticesBounded (r : PlateRecord) : Prop := r.notices.length ≤ 8 ∧ r.notices.Nodup

/-- A record in place of another: the plate id stands, it is QUEUED as before or not as before, and its notices stay in
bounds. -/
structure RecordKept (p q : PlateRecord) : Prop where
  plateId : q.plateId = p.plateId
  queued : q.state = .queued ↔ p.state = .queued
  notices : NoticesBounded p → NoticesBounded q

theorem keeps_replace {k : Slot} {p q : PlateRecord} (found : plateAt t k = some p) (kept : RecordKept p q)
    (h : Keeps s t) : Keeps s (setPlate k (some q) t) := by
  have id_eq : ∀ j r, plateAt (setPlate k (some q) t) j = some r → ∃ r', plateAt t j = some r' ∧ r.plateId = r'.plateId := by
    intro j r at_j
    rw [plateAt_setPlate] at at_j
    split at at_j
    · next e =>
      cases at_j
      exact ⟨p, e ▸ found, kept.plateId⟩
    · exact ⟨r, at_j, rfl⟩
  refine h.trans { buffers := fun b => ⟨by simpa using b.trace, by simpa using b.receive, fun j r at_j => ?_⟩,
                   table := fun l => ⟨fun i j a b at_i at_j same => ?_, by simpa using l.queueOnce, fun j => ?_,
                     by simpa using l.queueShort⟩ }
  · rw [plateAt_setPlate] at at_j
    split at at_j
    · cases at_j
      exact kept.notices (b.notices k p found)
    · exact b.notices j r at_j
  · obtain ⟨a', at_i', ea⟩ := id_eq i a at_i
    obtain ⟨b', at_j', eb⟩ := id_eq j b at_j
    exact l.idsDiffer i j a' b' at_i' at_j' (by rw [← ea, ← eb, same])
  · have queue : (setPlate k (some q) t).ptb.queue = t.ptb.queue := by simp
    rw [queue, l.queueIsQueued j]
    by_cases e : j = k
    · subst e
      simp [plateState, found, kept.queued]
    · simp [plateState, plateAt_setPlate, e]

theorem keeps_modPlate {k : Slot} {f : PlateRecord → PlateRecord} (kept : ∀ r, RecordKept r (f r)) (h : Keeps s t) :
    Keeps s (modPlate k f t) := by
  unfold modPlate
  split
  · exact h
  · next r found => exact keeps_replace found (kept r) h

theorem keeps_movePlate {k : Slot} {src dst : PlateState} {f : PlateRecord → PlateRecord}
    (id_kept : ∀ r, (f r).plateId = r.plateId) (notices : ∀ r, (f r).notices = r.notices)
    (from_ : src ≠ .queued) (to_ : dst ≠ .queued) (h : Keeps s t) : Keeps s (movePlate k src dst f t) := by
  unfold movePlate
  split
  · exact h
  · next r found =>
    split
    · next is => exact keeps_replace found ⟨id_kept r, by simp [to_, is, from_], fun b => by
        simpa [NoticesBounded, notices] using b⟩ h
    · exact h

theorem recordKept_appendNotice (n : Notice) (r : PlateRecord) : RecordKept r (appendNotice n r) := by
  refine ⟨?_, ?_, appendNotice_bounded⟩ <;>
  · unfold appendNotice
    split
    · rfl
    · split <;> rfl

theorem keeps_addNotice {k : Slot} {n : Notice} (h : Keeps s t) : Keeps s (addNotice k n t) :=
  keeps_modPlate (recordKept_appendNotice n) h

theorem keeps_holdPlate {k : Slot} {station : Station} {reason : HoldReason} (h : Keeps s t) :
    Keeps s (holdPlate k station reason t) := by
  unfold holdPlate
  split
  · exact h
  · next r found =>
    split
    · next may =>
      have other : r.state ≠ .queued := by
        intro e
        simp [e, PlateState.holdable] at may
      have noted := recordKept_appendNotice reason.notice { r with state := .held, held := some (station, reason) }
      exact keeps_raiseAttn (keeps_replace found ⟨noted.plateId, by simp [noted.queued, other], noted.notices⟩ h)
    · exact h

theorem keeps_closeDone {k : Slot} (h : Keeps s t) : Keeps s (closeDone k t) := by
  unfold closeDone
  split
  · exact h
  · next r found =>
    split
    · next e => exact keeps_raiseAttn (keeps_replace found ⟨rfl, by simp [e], fun b => b⟩ h)
    · exact h

theorem keeps_closeScrapped {k : Slot} (h : Keeps s t) : Keeps s (closeScrapped k t) := by
  unfold closeScrapped
  split
  · exact h
  · next r found =>
    split
    · next e => exact keeps_raiseAttn (keeps_replace found ⟨rfl, by simp [e], fun b => b⟩ h)
    · exact h

theorem keeps_modResult {k : Slot} {ch : LampChannel} {f : RunResult → RunResult} (h : Keeps s t) :
    Keeps s (modResult k ch f t) := keeps_modPlate (fun _ => ⟨rfl, Iff.rfl, fun b => b⟩) h

theorem keeps_reportQueueEmpty (h : Keeps s t) : Keeps s (reportQueueEmpty t) := by
  unfold reportQueueEmpty
  split
  · exact keeps_raiseAttn h
  · exact h

/-! ### Requests to drive and lamp channels (R165, R168) -/

theorem driveIsOn_iff {c : DriveChannel} {s : State} : driveIsOn c s = true ↔ ∃ sp, driveState c s = .on sp := by
  unfold driveIsOn
  cases driveState c s <;> simp

theorem keeps_driveOn {c : DriveChannel} {sp : Setpoint} (h : Keeps s t) : Keeps s (driveOn c sp t) := by
  refine h.trans { drives := fun d on => ?_ }
  obtain ⟨sp', on⟩ := driveIsOn_iff.1 on
  rw [driveState_driveOn] at on
  split at on
  · next may =>
    obtain ⟨rfl, -, was | off⟩ := may
    · exact .inl was
    · exact .inr off
  · exact .inl (driveIsOn_iff.2 ⟨sp', on⟩)

theorem keeps_driveOff {c : DriveChannel} (h : Keeps s t) : Keeps s (driveOff c t) := by
  refine h.trans { drives := fun d on => .inl ?_ }
  rw [driveIsOn_driveOff] at on
  simp_all

theorem keeps_driveSet {c : DriveChannel} {sp : Setpoint} (h : Keeps s t) : Keeps s (driveSet c sp t) := by
  refine h.trans { drives := fun d on => .inl ?_ }
  obtain ⟨sp', on⟩ := driveIsOn_iff.1 on
  rw [driveState_driveSet] at on
  split at on
  · next was =>
    obtain ⟨rfl, was⟩ := was
    exact was
  · exact driveIsOn_iff.2 ⟨sp', on⟩

/-- A drive channel set to a state other than ON. -/
theorem keeps_setDrive {c : DriveChannel} {v : Drive} (off : ∀ sp, v.state ≠ .on sp) (h : Keeps s t) :
    Keeps s (setDrive c v t) := by
  refine h.trans { drives := fun d on => .inl ?_ }
  obtain ⟨sp, on⟩ := driveIsOn_iff.1 on
  rw [driveState_setDrive] at on
  split at on
  · exact absurd on (off sp)
  · exact driveIsOn_iff.2 ⟨sp, on⟩

theorem keeps_lampOn {c : LampChannel} {level : Nat} (h : Keeps s t) : Keeps s (lampOn c level t) := by
  refine h.trans { lamps := fun d on => ?_ }
  rw [lampIsOn, lampLevel_lampOn] at on
  split at on
  · next may =>
    obtain ⟨rfl, may⟩ := may
    exact may
  · exact .inl on

theorem keeps_lampOff {c : LampChannel} (h : Keeps s t) : Keeps s (lampOff c t) := by
  refine h.trans { lamps := fun d on => .inl ?_ }
  rw [lampIsOn, lampLevel_lampOff] at on
  split at on
  · simp at on
  · exact on

theorem keeps_lampSet {c : LampChannel} {level : Nat} (h : Keeps s t) : Keeps s (lampSet c level t) := by
  refine h.trans { lamps := fun d on => .inl ?_ }
  rw [lampIsOn, lampLevel_lampSet] at on
  split at on
  · next was =>
    obtain ⟨rfl, was⟩ := was
    exact was
  · exact on

/-- A lamp channel given a level it had, or none. -/
theorem keeps_setLamp {c : LampChannel} {v : Lamp} (was : v.level = none ∨ v.level = lampLevel c t) (h : Keeps s t) :
    Keeps s (setLamp c v t) := by
  refine h.trans { lamps := fun d on => .inl ?_ }
  rw [lampIsOn, lampLevel_setLamp] at on
  split at on
  · next e =>
    subst e
    rcases was with none_ | same
    · simp [none_] at on
    · rw [same] at on
      exact on
  · exact on

/-! ### The store (R40, R60) -/

theorem keeps_markUnsaved (h : Keeps s t) : Keeps s (markUnsaved t) := keeps_modRss rfl h
theorem keeps_beginCountersWrite (h : Keeps s t) : Keeps s (beginCountersWrite t) := keeps_modRss rfl h

theorem keeps_askCountersWrite (h : Keeps s t) : Keeps s (askCountersWrite t) := by
  unfold askCountersWrite
  split
  · exact keeps_modRss rfl h
  · exact keeps_beginCountersWrite h

theorem keeps_startWaitingCounters (h : Keeps s t) : Keeps s (startWaitingCounters t) := by
  unfold startWaitingCounters
  split
  · exact keeps_beginCountersWrite h
  · exact h

theorem keeps_endCountersWrite {verified : Bool} (h : Keeps s t) : Keeps s (endCountersWrite verified t) := by
  have ended := keeps_modRss (f := fun r => { r with
      counters := { r.counters with valid := verified }, countersWriting := false, countersFailed := !verified }) rfl h
  unfold endCountersWrite
  dsimp only
  split
  · split
    · exact keeps_startWaitingCounters ended
    · exact keeps_startWaitingCounters (keeps_setFlag ended)
  · exact h

theorem keeps_testLampLife (h : Keeps s t) : Keeps s (testLampLife t) := by
  unfold testLampLife
  split
  · exact keeps_setFlag h
  · exact h

/-! ### The dose integrator (chapter 3) -/

theorem keeps_setChannel {ch : LampChannel} {c : Channel} (h : Keeps s t) : Keeps s (setChannel ch c t) :=
  keeps_modDin (le_max_right _ _) h

theorem keeps_modRun {ch : LampChannel} {f : RunRecord → RunRecord} (h : Keeps s t) : Keeps s (modRun ch f t) := by
  unfold modRun
  split
  · exact keeps_setChannel h
  · exact h

theorem keeps_suspendRecording (h : Keeps s t) : Keeps s (suspendRecording t) := keeps_modDin (le_max_right _ _) h

theorem keeps_writeTrace {ch : LampChannel} {r : RunRecord} (h : Keeps s t) : Keeps s (writeTrace ch r t) := by
  unfold writeTrace
  dsimp only
  split
  · split
    · next room =>
      have written := keeps_modDin (f := fun d => { d with
          trace := d.trace ++ [traceRecord ch r d.nextNumber]
          nextNumber := nextRecordNumber d.nextNumber })
        (by simp only [List.length_append, List.length_singleton, Config.traceLimit] at room ⊢; omega) h
      split
      · exact keeps_raiseAttn written
      · exact written
    · exact keeps_suspendRecording (keeps_modResult (keeps_setFlag (keeps_modDin (le_max_right _ _) h)))
  · exact keeps_modResult h

theorem keeps_testWeak {ch : LampChannel} {r : RunRecord} {mean : Nat} (h : Keeps s t) :
    Keeps s (testWeak ch r mean t) := by
  unfold testWeak
  split
  · exact keeps_setFlag (keeps_addNotice (keeps_modRun h))
  · exact h

theorem keeps_regulate {ch : LampChannel} {r : RunRecord} {mean : Nat} (h : Keeps s t) :
    Keeps s (regulate ch r mean t) := by
  unfold regulate
  dsimp only
  split
  · split
    · exact keeps_modRun (keeps_testWeak h)
    · exact keeps_lampSet (keeps_modRun (keeps_testWeak h))
  · exact h

theorem keeps_closeFinalWindow {ch : LampChannel} (h : Keeps s t) : Keeps s (closeFinalWindow ch t) := by
  unfold closeFinalWindow
  split
  · split
    · exact keeps_writeTrace h
    · exact h
  · exact h

theorem keeps_closeFullWindow {ch : LampChannel} (h : Keeps s t) : Keeps s (closeFullWindow ch t) := by
  unfold closeFullWindow
  split
  · exact keeps_modRun (keeps_regulate (keeps_writeTrace h))
  · exact h

theorem keeps_addLampTime {ch : LampChannel} {n : Nat} (h : Keeps s t) : Keeps s (addLampTime ch n t) :=
  keeps_askCountersWrite (keeps_testLampLife (keeps_modDin (le_max_right _ _) h))

theorem keeps_endSegment {ch : LampChannel} {n : Nat} (h : Keeps s t) : Keeps s (endSegment ch n t) :=
  keeps_addLampTime (keeps_closeFinalWindow (keeps_lampOff h))

theorem keeps_endRun {ch : LampChannel} {ending : RunEnding} (h : Keeps s t) : Keeps s (endRun ch ending t) := by
  unfold endRun
  dsimp only
  split
  · split
    · exact keeps_setChannel (keeps_modResult (keeps_endSegment h))
    · exact keeps_endSegment h
  · exact h

theorem keeps_pauseChannel {ch : LampChannel} (h : Keeps s t) : Keeps s (pauseChannel ch t) := by
  have counted : ∀ r : RunRecord, Keeps s (modPlate r.slot
      (fun p => { p with interruptions := satAdd 255 p.interruptions 1 }) (endSegment ch r.segSamples t)) := fun r =>
    keeps_modPlate (fun _ => ⟨rfl, Iff.rfl, fun b => b⟩) (keeps_endSegment h)
  unfold pauseChannel
  dsimp only
  split
  · next r _ =>
    split
    · exact keeps_setChannel (counted r)
    · exact counted r
  · exact h

theorem keeps_storeSample {ch : LampChannel} {r : RunRecord} (h : Keeps s t) : Keeps s (storeSample ch r t) :=
  keeps_modResult (keeps_setChannel h)

theorem keeps_takeSample {ch : LampChannel} {raw : Nat} (h : Keeps s t) : Keeps s (takeSample ch raw t).1 := by
  unfold takeSample
  dsimp only
  split
  · split
    · exact keeps_endRun (keeps_storeSample h)
    · exact keeps_endRun (keeps_setFlag (keeps_storeSample h))
    · exact keeps_endRun (keeps_storeSample h)
    · dsimp only
      split
      · exact keeps_closeFullWindow (keeps_storeSample h)
      · exact keeps_storeSample h
  · exact h

theorem keeps_startSegment {ch : LampChannel} {r : RunRecord} (h : Keeps s t) : Keeps s (startSegment ch r t).1 := by
  unfold startSegment
  dsimp only
  (repeat' split) <;>
    apply_rules [keeps_setChannel, keeps_modResult, keeps_lampOn, keeps_addNotice, keeps_modDin, le_max_right]

theorem keeps_startRun {ch : LampChannel} {k : Slot} (h : Keeps s t) : Keeps s (startRun ch k t).1 := by
  unfold startRun
  split
  · exact h
  · split
    · split
      · exact keeps_setChannel (keeps_modResult h)
      · split <;> next started => exact .of_answer started (keeps_startSegment h)
    · exact h

theorem keeps_continueRun {ch : LampChannel} {k : Slot} {extension : Nat} (h : Keeps s t) :
    Keeps s (continueRun ch k extension t).1 := by
  unfold continueRun
  split
  · split
    · split <;> next resumed => exact .of_answer resumed (keeps_startSegment (keeps_modResult h))
    · exact h
  · exact h

theorem keeps_releaseEnded {ch : LampChannel} (h : Keeps s t) : Keeps s (releaseEnded ch t) := by
  unfold releaseEnded
  split
  · exact keeps_setChannel h
  · exact h

theorem keeps_releaseChannel {ch : LampChannel} (h : Keeps s t) : Keeps s (releaseChannel ch t) := by
  unfold releaseChannel
  split
  · exact keeps_setChannel (keeps_endSegment h)
  · exact h
  · exact keeps_setChannel h
  · exact keeps_setChannel h

end Sys2Proof.Machine
end

section
/-! SUPPORT. What the stations, the elevator, the washout and the exit table do keeps the interlocks and the laws of the
loading, the buffers and the plate table (`Keeps`). -/

namespace Sys2Proof.Machine
variable {s t : State}

/-! ### The exposure unit's intake, the heater (chapters 4, 6) -/

theorem keeps_tryIntake (h : Keeps s t) : Keeps s (tryIntake t) := by
  unfold tryIntake
  split
  · exact keeps_modExu h
  · exact h

theorem keeps_exuEnterEmpty (h : Keeps s t) : Keeps s (exuEnterEmpty t) := keeps_tryIntake (keeps_modExu h)

theorem keeps_exuEnterClearWait (h : Keeps s t) : Keeps s (exuEnterClearWait t) := by
  unfold exuEnterClearWait
  dsimp only
  split
  · exact keeps_modExu h
  · exact keeps_exuEnterEmpty (keeps_modExu h)

theorem keeps_updateRollers (h : Keeps s t) : Keeps s (updateRollers t) := by
  unfold updateRollers
  split
  · split
    · exact keeps_driveOff h
    · exact keeps_driveOn h
  · exact h

theorem keeps_testHeater (h : Keeps s t) : Keeps s (testHeater t) := by
  unfold testHeater
  split
  · exact keeps_driveOn h
  · exact keeps_driveOff h

theorem keeps_carrySetpoint (h : Keeps s t) : Keeps s (carrySetpoint t) := keeps_driveSet h

/-! ### The elevator (R140 to R148) -/

theorem keeps_commandPhase {p : Phase} (h : Keeps s t) : Keeps s (commandPhase p t) := keeps_driveOn (keeps_modTrc h)

theorem keeps_travelThen {target : Fin 8} {next : Phase} (h : Keeps s t) : Keeps s (travelThen target next t) := by
  unfold travelThen
  split <;> exact keeps_commandPhase h

theorem keeps_beginPut {k : Slot} (h : Keeps s t) : Keeps s (beginPut k t) := by
  unfold beginPut
  split
  · exact h
  · exact keeps_travelThen (keeps_modTrc h)

theorem keeps_beginTake {d : DrawerNo} {k : Slot} (h : Keeps s t) : Keeps s (beginTake d k t) :=
  keeps_travelThen (keeps_modLfn (keeps_modTrc h))

theorem keeps_arbiter (h : Keeps s t) : Keeps s (arbiter t) := by
  unfold arbiter
  (repeat' split) <;> apply_rules [keeps_beginPut, keeps_beginTake]

theorem keeps_elevatorToIdle (h : Keeps s t) : Keeps s (elevatorToIdle t) :=
  keeps_arbiter (keeps_driveOff (keeps_modTrc h))

theorem keeps_beginHoming (h : Keeps s t) : Keeps s (beginHoming t) := by
  unfold beginHoming
  dsimp only
  split
  · exact keeps_elevatorToIdle (keeps_modTrc h)
  · exact keeps_commandPhase (keeps_modTrc h)

theorem keeps_afterTravel {target : Fin 8} (h : Keeps s t) : Keeps s (afterTravel target t) := by
  unfold afterTravel
  split
  · exact keeps_elevatorToIdle h
  · exact keeps_commandPhase h
  · exact keeps_commandPhase h
  · exact h

theorem keeps_arrivedReport (h : Keeps s t) : Keeps s (arrivedReport t) := by
  unfold arrivedReport
  split
  · exact keeps_afterTravel (keeps_modTrc h)
  · exact h

theorem keeps_raisePut {k : Slot} (h : Keeps s t) : Keeps s (raisePut k t) := keeps_arbiter (keeps_modTrc h)

theorem keeps_exitSensorChange {active : Bool} (h : Keeps s t) : Keeps s (exitSensorChange active t) := by
  unfold exitSensorChange
  (repeat' split) <;> apply_rules [keeps_modTrc]

theorem keeps_readLevel (h : Keeps s t) : Keeps s (readLevel t) := keeps_modTrc h

theorem keeps_phaseAfresh (h : Keeps s t) : Keeps s (phaseAfresh t) := by
  unfold phaseAfresh
  (repeat' split) <;> apply_rules [keeps_afterTravel, keeps_commandPhase, keeps_arbiter]

theorem keeps_haltBegins (h : Keeps s t) : Keeps s (haltBegins t) := by
  unfold haltBegins
  dsimp only
  split
  · exact keeps_readLevel (keeps_modTrc h)
  · exact keeps_modTrc h

theorem keeps_updateHalted (h : Keeps s t) : Keeps s (updateHalted t) := by
  unfold updateHalted
  (repeat' split) <;> apply_rules [keeps_haltBegins, keeps_phaseAfresh, keeps_modTrc]

theorem keeps_phaseTimeout (h : Keeps s t) : Keeps s (phaseTimeout t) := by
  unfold phaseTimeout
  (repeat' split) <;> apply_rules [keeps_modTrc, keeps_setFlag, keeps_driveOff]

theorem keeps_elevatorRecovery (h : Keeps s t) : Keeps s (elevatorRecovery t) := by
  unfold elevatorRecovery
  dsimp only
  (repeat' split) <;> apply_rules [keeps_phaseAfresh, keeps_readLevel, keeps_modTrc]

/-! ### The washout (chapter 5): admission keeps the account of the committed loading (R91, R100) -/

theorem keeps_takeTransport (h : Keeps s t) : Keeps s (takeTransport t) := by
  have taken := keeps_modWou (f := fun w => { w with
    transport := transportStateOf t, speed := if w.list.isEmpty then 0 else w.speed }) rfl rfl h
  unfold takeTransport
  dsimp only
  (repeat' split) <;> apply_rules [keeps_driveOn, keeps_driveOff]

theorem keeps_setBlocker {b : Blocker} (h : Keeps s t) : Keeps s (setBlocker b t) := keeps_modWou rfl rfl h

theorem keeps_exuHandOver {k : Slot} (h : Keeps s t) : Keeps s (exuHandOver k t) := by
  unfold exuHandOver
  split
  · exact keeps_exuEnterClearWait h
  · exact h

theorem uncommitted_append (l m : List TransportEntry) : uncommitted (l ++ m) = uncommitted l + uncommitted m := by
  simp [uncommitted]

theorem uncommitted_cons (e : TransportEntry) (l : List TransportEntry) :
    uncommitted (e :: l) = (if e.committed then 0 else e.increment) + uncommitted l := by
  cases new : e.committed <;> simp [uncommitted, new]

/-- An entry not yet committed joins a list with room for it, and its increment the committed loading. -/
theorem keeps_entryJoins {e : TransportEntry} {f : Washout → Washout} (list : (f t.wou).list = t.wou.list ++ [e])
    (committed : (f t.wou).committed = t.wou.committed + e.increment) (new : e.committed = false)
    (room : t.wou.list.length < 3) (h : Keeps s t) : Keeps s (modWou f t) := by
  refine h.trans { loading := fun kept => ⟨?_, ?_⟩ }
  · rw [modWou_wou, list, List.length_append, List.length_singleton]
    omega
  · rw [modWou_wou, list, committed, kept.account, uncommitted_append]
    simp [uncommitted, new]

/-- The entry of the transport list an admitted plate gets (R97). -/
def joiningEntry (k : Slot) (p : PlateRecord) (s : State) : TransportEntry where
  slot := k
  plateId := p.plateId
  length := p.length
  increment := loadingIncrement (washCal s).bathVolume p
  position := 0
  committed := false
  stall := 0

/-- The washout once a plate has joined the transport list (R97). -/
def joinedWashout (k : Slot) (p : PlateRecord) (s : State) (w : Washout) : Washout where
  __ := w
  list := w.list ++ [joiningEntry k p s]
  speed := if !s.wou.list.isEmpty then s.wou.speed else speedNow s p
  committed := w.committed + loadingIncrement (washCal s).bathVolume p

theorem keeps_admitPlate {k : Slot} {p : PlateRecord} {d : DrawerNo} (room : t.wou.list.length < 3) (h : Keeps s t) :
    Keeps s (admitPlate k p d t) := by
  unfold admitPlate
  dsimp only
  have joined := keeps_refreshOutputs (keeps_entryJoins (f := joinedWashout k p t) rfl rfl rfl room h)
  split
  · exact keeps_takeTransport (keeps_exuHandOver (keeps_modWou rfl rfl (keeps_addNotice
      (keeps_movePlate (fun _ => rfl) (fun _ => rfl) (by decide) (by decide) joined))))
  · exact keeps_takeTransport (keeps_exuHandOver (keeps_modWou rfl rfl
      (keeps_movePlate (fun _ => rfl) (fun _ => rfl) (by decide) (by decide) joined)))

theorem firstBlocker_none_room {s : State} {p : PlateRecord} (h : firstBlocker s p = .none) : s.wou.list.length < 3 := by
  by_contra full
  have full : Config.transportLimit ≤ s.wou.list.length := by
    simp only [Config.transportLimit]
    omega
  unfold firstBlocker at h
  split at h
  · cases h
  · split at h
    · cases h
    · cases h

theorem keeps_reserveDrawer {k : Slot} {d : DrawerNo} {u : State} (granted : reserveDrawer k t = some (d, u))
    (h : Keeps s t) : Keeps s u := by
  unfold reserveDrawer at granted
  split at granted
  · split at granted
    · cases granted
    · cases granted
      exact keeps_refreshOutputs (keeps_setDrawer h)
  · cases granted

theorem keeps_testAdmission {k : Slot} {p : PlateRecord} (h : Keeps s t) : Keeps s (testAdmission k p t) := by
  unfold testAdmission
  dsimp only
  split
  · next open_ =>
    split
    · exact keeps_setBlocker h
    · next d u granted =>
      have list : u.wou = t.wou := by
        obtain ⟨-, -, -, -, -, -, same, -⟩ := reserveDrawer_frame granted
        exact same
      exact keeps_admitPlate (list ▸ firstBlocker_none_room open_) (keeps_reserveDrawer granted h)
  · split
    · exact keeps_setBlocker h
    · exact keeps_setFlag (keeps_setBlocker h)

theorem keeps_evalAdmission (h : Keeps s t) : Keeps s (evalAdmission t) := by
  unfold evalAdmission
  split
  · exact keeps_setBlocker h
  · split
    · exact h
    · split
      · exact keeps_testAdmission h
      · exact h

theorem keeps_offerPlate {k : Slot} (h : Keeps s t) : Keeps s (offerPlate k t) :=
  keeps_evalAdmission (keeps_modWou rfl rfl h)

theorem keeps_transportAnew (h : Keeps s t) : Keeps s (transportAnew t) := by
  unfold transportAnew
  dsimp only
  split
  · exact keeps_takeTransport h
  · exact keeps_evalAdmission (keeps_takeTransport h)

theorem keeps_startReplenish (h : Keeps s t) : Keeps s (startReplenish t) := by
  unfold startReplenish
  split
  · exact keeps_refreshOutputs (keeps_modWou rfl rfl (keeps_driveOn h))
  · exact h

theorem keeps_enterPending (h : Keeps s t) : Keeps s (enterPending t) := by
  unfold enterPending
  split
  · exact keeps_setFlag (keeps_modWou rfl rfl h)
  · exact keeps_startReplenish (keeps_modWou rfl rfl h)

theorem keeps_tryReplenish (h : Keeps s t) : Keeps s (tryReplenish t) := by
  unfold tryReplenish
  dsimp only
  split
  · exact keeps_startReplenish h
  · exact keeps_evalAdmission (keeps_startReplenish h)

theorem keeps_freshLowChange {active : Bool} (h : Keeps s t) : Keeps s (freshLowChange active t) := by
  unfold freshLowChange
  (repeat' split) <;> apply_rules [keeps_evalAdmission, keeps_enterPending]

theorem keeps_completeReplenish (h : Keeps s t) : Keeps s (completeReplenish t) := by
  unfold completeReplenish
  split
  · exact keeps_evalAdmission (keeps_refreshOutputs (keeps_modWou rfl rfl
      (keeps_askCountersWrite (keeps_modWou rfl rfl (keeps_driveOff h)))))
  · exact h

theorem keeps_stopReplenish {pumpFault : Bool} (h : Keeps s t) : Keeps s (stopReplenish pumpFault t) := by
  unfold stopReplenish
  dsimp only
  split
  · next r _ =>
    have stopped : Keeps s (enterPending (refreshOutputs (modWou (fun w => { w with replenish := .none })
        (askCountersWrite (modWou (fun w => { w with
          lambda := lambdaAfterStop w.lambda r.runTime (r.pumped / 1000) r.fraction }) t))))) :=
      keeps_enterPending (keeps_refreshOutputs (keeps_modWou rfl rfl (keeps_askCountersWrite (keeps_modWou rfl rfl h))))
    split
    · exact keeps_completeReplenish h
    · apply_rules [keeps_evalAdmission]
      split
      · exact keeps_setFlag stopped
      · exact stopped
  · exact h

theorem keeps_replenishNow (h : Keeps s t) : Keeps s (replenishNow t) := by
  unfold replenishNow
  split
  · exact keeps_evalAdmission (keeps_enterPending h)
  · exact h

theorem keeps_bathChanged (h : Keeps s t) : Keeps s (bathChanged t) :=
  keeps_evalAdmission (keeps_askCountersWrite (keeps_modWou rfl rfl h))

/-! ### The marks (R99 to R103) -/

/-- The transport list with each entry changed in its place and its stall time alone leaves the account as it is. -/
theorem keeps_entriesMove {f : Washout → Washout} {g : TransportEntry → TransportEntry}
    (list : (f t.wou).list = t.wou.list.map g) (committed : (f t.wou).committed = t.wou.committed)
    (same : ∀ e, (g e).committed = e.committed ∧ (g e).increment = e.increment) (h : Keeps s t) :
    Keeps s (modWou f t) := by
  have account : ∀ l : List TransportEntry, uncommitted (l.map g) = uncommitted l := by
    intro l
    induction l with
    | nil => rfl
    | cons e l ih =>
      obtain ⟨committed, increment⟩ := same e
      rw [List.map_cons, uncommitted_cons, uncommitted_cons, ih, committed, increment]
  refine h.trans { loading := fun kept => ⟨?_, ?_⟩ }
  · rw [modWou_wou, list, List.length_map]
    exact kept.atMostThree
  · rw [modWou_wou, list, committed, account]
    exact kept.account

theorem keeps_shiftTo {position mark : Nat} (h : Keeps s t) : Keeps s (shiftTo position mark t) :=
  keeps_entriesMove rfl rfl (fun _ => ⟨rfl, rfl⟩) h

theorem keeps_gapMark {k : Slot} (h : Keeps s t) : Keeps s (gapMark k t) := by
  unfold gapMark
  dsimp only
  (repeat' split) <;> apply_rules [keeps_evalAdmission, keeps_shiftTo]

theorem keeps_stallTransport (h : Keeps s t) : Keeps s (stallTransport t) :=
  keeps_foldl (fun _ _ k => keeps_addNotice k) _ (keeps_setFlag (keeps_transportAnew (keeps_modWou rfl rfl h)))

theorem keeps_endMark {k : Slot} (h : Keeps s t) : Keeps s (endMark k t) := by
  unfold endMark
  dsimp only
  (repeat' split) <;> apply_rules [keeps_stallTransport, keeps_shiftTo]

theorem keeps_commitReplenish (h : Keeps s t) : Keeps s (commitReplenish t) := by
  unfold commitReplenish
  split
  · exact keeps_enterPending h
  · exact h

theorem length_markCommitted (k : Slot) (l : List TransportEntry) : (markCommitted k l).length = l.length := by
  induction l with
  | nil => rfl
  | cons e l ih =>
    unfold markCommitted
    split
    · rfl
    · simp [ih]

/-- Marking the entry the plate has takes its increment out of the uncommitted sum (R100). -/
theorem uncommitted_markCommitted {k : Slot} {l : List TransportEntry} {e : TransportEntry}
    (found : l.find? (fun e => e.slot == k) = some e) (new : e.committed = false) :
    uncommitted (markCommitted k l) = uncommitted l - e.increment := by
  induction l with
  | nil => cases found
  | cons a l ih =>
    unfold markCommitted
    by_cases is : (a.slot == k) = true
    · simp only [List.find?_cons, is, Option.some.injEq] at found
      subst found
      simp [is, uncommitted, new]
    · simp only [List.find?_cons, is] at found
      rw [if_neg is]
      have inside : e.increment ≤ uncommitted l := by
        have mem : e ∈ l.filter (fun e => !e.committed) := by simp [List.mem_of_find?_eq_some found, new]
        exact List.single_le_sum (by simp) _ (List.mem_map_of_mem mem)
      rw [uncommitted_cons, uncommitted_cons, ih found]
      omega

theorem keeps_commitMark {k : Slot} (h : Keeps s t) : Keeps s (commitMark k t) := by
  unfold commitMark
  dsimp only
  split
  · exact h
  · next e found =>
    split
    · next reached =>
      refine keeps_evalAdmission (keeps_commitReplenish (keeps_askCountersWrite (keeps_modRss rfl ?_)))
      have shifted := keeps_shiftTo (position := e.position) (mark := mm (commitMarkAt (washCal t) e)) h
      refine shifted.trans { loading := fun kept => ⟨?_, ?_⟩ }
      · simpa [commitEntry, length_markCommitted] using kept.atMostThree
      · have moved : (shiftTo e.position (mm (commitMarkAt (washCal t) e)) t).wou.list.find? (fun e => e.slot == k) =
            some { e with position := e.position + (mm (commitMarkAt (washCal t) e) - e.position) } := by
          have found : t.wou.list.find? (fun e => e.slot == k) = some e := found
          simp [shiftTo, List.find?_map, found]
        have account := kept.account
        simp only [modWou_wou, commitEntry, uncommitted_markCommitted moved reached.1, account]
    · exact h

theorem keeps_writeStall {k : Slot} {n : Nat} (h : Keeps s t) : Keeps s (writeStall k n t) :=
  keeps_modPlate (fun _ => ⟨rfl, Iff.rfl, fun b => b⟩) h

theorem keeps_exitMark (h : Keeps s t) : Keeps s (exitMark t) := by
  unfold exitMark
  dsimp only
  split
  · exact h
  · next e rest list =>
    split
    · next reached =>
      have left : Keeps s (modWou (fun w => { w with list := w.list.tail })
          (shiftTo e.position (mm (exitMarkAt (washCal t) e)) t)) := by
        have shifted := keeps_shiftTo (position := e.position) (mark := mm (exitMarkAt (washCal t) e)) h
        refine shifted.trans { loading := fun kept => ⟨?_, ?_⟩ }
        · have three := kept.atMostThree
          simp only [modWou_wou, List.length_tail]
          omega
        · have account := kept.account
          simp only [shiftTo, modWou_wou, list, List.map_cons] at account ⊢
          simpa [uncommitted, reached.1] using account
      have raised : Keeps s (raisePut e.slot (movePlate e.slot .washing .washExit id
          (modWou (fun w => { w with exitWaiting := true }) (writeStall e.slot e.stall (refreshOutputs
            (modWou (fun w => { w with list := w.list.tail })
              (shiftTo e.position (mm (exitMarkAt (washCal t) e)) t))))))) :=
        keeps_raisePut (keeps_movePlate (fun _ => rfl) (fun _ => rfl) (by decide) (by decide)
          (keeps_modWou rfl rfl (keeps_writeStall (keeps_refreshOutputs left))))
      apply keeps_evalAdmission
      split
      · exact keeps_startReplenish (keeps_takeTransport raised)
      · exact raised
    · exact h

theorem keeps_testStallEnd (h : Keeps s t) : Keeps s (testStallEnd t) := by
  unfold testStallEnd
  split
  · exact keeps_transportAnew (keeps_modWou rfl rfl h)
  · exact h

theorem keeps_platePicked (h : Keeps s t) : Keeps s (platePicked t) := keeps_testStallEnd (keeps_modWou rfl rfl h)

theorem keeps_takeSolventTemp {reading : Nat} (h : Keeps s t) : Keeps s (takeSolventTemp reading t) := by
  unfold takeSolventTemp
  dsimp only
  split
  · exact keeps_setFlag (keeps_modWou rfl rfl h)
  · exact keeps_modWou rfl rfl h

/-! ### The exposure unit (chapter 4) -/

theorem keeps_intakePresentChange {active : Bool} (h : Keeps s t) : Keeps s (intakePresentChange active t) := by
  unfold intakePresentChange
  split
  · exact keeps_tryIntake (keeps_modExu h)
  · exact keeps_modExu h

theorem keeps_unmatchedTag {tag : Nat} (h : Keeps s t) : Keeps s (unmatchedTag tag t) :=
  keeps_setFlag (h.trans {})

/-- A QUEUED record that becomes LOADING leaves the queue with its entry (R20). -/
theorem keeps_loadMatched {k : Slot} (queued : plateState t k = some .queued) (h : Keeps s t) :
    Keeps s (loadMatched k t) := by
  obtain ⟨r, found, state⟩ : ∃ r, plateAt t k = some r ∧ r.state = .queued := by simpa [plateState] using queued
  have plates : ∀ j, plateAt (loadMatched k t) j =
      if j = k then some { r with intakePosition := some (queuePosition t k), state := .loading } else plateAt t j := by
    intro j
    have leaves : plateAt (loadMatched k t) j = plateAt (movePlate k .queued .loading
        (fun r => { r with intakePosition := some (queuePosition t k) }) t) j := rfl
    rw [leaves, plateAt_movePlate, found]
    simp [state]
  have queue : (loadMatched k t).ptb.queue = t.ptb.queue.filter (· ≠ k) := by simp [loadMatched, leaveQueue]
  refine h.trans {
    buffers := fun b => ⟨by simpa using b.trace, by simpa using b.receive, fun j q at_j => ?_⟩
    table := fun l => ⟨fun i j a b at_i at_j same => ?_, ?_, fun j => ?_, ?_⟩ }
  · rw [plates] at at_j
    split at at_j
    · cases at_j
      exact b.notices k r found
    · exact b.notices j q at_j
  · have id_eq : ∀ i a, plateAt (loadMatched k t) i = some a → ∃ a', plateAt t i = some a' ∧ a.plateId = a'.plateId := by
      intro i a at_i
      rw [plates] at at_i
      split at at_i
      · next e =>
        cases at_i
        exact ⟨r, e ▸ found, rfl⟩
      · exact ⟨a, at_i, rfl⟩
    obtain ⟨a', at_i', ea⟩ := id_eq i a at_i
    obtain ⟨b', at_j', eb⟩ := id_eq j b at_j
    exact l.idsDiffer i j a' b' at_i' at_j' (by rw [← ea, ← eb, same])
  · rw [queue]
    exact l.queueOnce.filter _
  · rw [queue, List.mem_filter, l.queueIsQueued j]
    by_cases e : j = k <;> simp [e, plateState, plates]
  · rw [queue]
    exact (List.length_filter_le _ _).trans l.queueShort

theorem matchTag_queued {tag : Nat} {k : Slot} (named : matchTag tag t = some k) : plateState t k = some .queued := by
  unfold matchTag at named
  split at named
  · cases named
  · split at named
    · cases named
    · split at named
      · next is => cases named; exact is
      · cases named

theorem keeps_takeIntakeTag {tag : Nat} (h : Keeps s t) : Keeps s (takeIntakeTag tag t) := by
  unfold takeIntakeTag
  dsimp only
  split
  · split
    · next k named =>
      exact keeps_reportQueueEmpty (keeps_updateRollers (keeps_modExu
        (keeps_loadMatched (matchTag_queued named) (keeps_modExu h))))
    · split
      · exact keeps_exuEnterClearWait (keeps_unmatchedTag (keeps_modExu h))
      · exact keeps_unmatchedTag (keeps_modExu h)
  · exact h

theorem keeps_askSegment {ch : LampChannel} {r : RunRecord} (h : Keeps s t) : Keeps s (askSegment ch r t).1 := by
  unfold askSegment
  split <;> next started => exact .of_answer started (keeps_startSegment h)

theorem keeps_askStart {ch : LampChannel} {k : Slot} (h : Keeps s t) : Keeps s (askStart ch k t).1 := by
  unfold askStart
  split <;> next started => exact .of_answer started (keeps_startRun h)

theorem keeps_askFresh {ch : LampChannel} {k : Slot} (h : Keeps s t) : Keeps s (askFresh ch k t).1 := by
  unfold askFresh
  (repeat' split) <;> apply_rules [keeps_askSegment, keeps_askStart]

theorem keeps_exuRequest {ch : LampChannel} {k : Slot} (h : Keeps s t) : Keeps s (exuRequest ch k t).1 := by
  unfold exuRequest
  split
  · split <;> dsimp only
    · next resumed => exact keeps_modExu (.of_answer resumed (keeps_continueRun h))
    · next resumed => exact keeps_modExu (.of_answer resumed (keeps_continueRun h))
    · next resumed => exact .of_answer resumed (keeps_continueRun h)
  · exact keeps_askFresh h

theorem keeps_exuEnterHeld {k : Slot} {reason : HoldReason} (h : Keeps s t) : Keeps s (exuEnterHeld k reason t) :=
  keeps_modExu (keeps_holdPlate h)

theorem keeps_exuAnswer {k : Slot} {x : State × WorkAnswer} (h : Keeps s x.1) : Keeps s (exuAnswer k x) := by
  unfold exuAnswer
  split
  · exact keeps_modExu h
  · exact h
  · exact h
  · exact keeps_exuEnterHeld h

theorem keeps_askMain (h : Keeps s t) : Keeps s (askMain t) := by
  unfold askMain
  (repeat' split) <;> apply_rules [keeps_exuAnswer, keeps_exuRequest]

theorem keeps_exuToMain (h : Keeps s t) : Keeps s (exuToMain t) := keeps_askMain (keeps_modExu h)

theorem keeps_askExposure (h : Keeps s t) : Keeps s (askExposure t) := by
  unfold askExposure
  split
  · exact keeps_askMain h
  · split
    · split
      · split
        · next skipped => exact keeps_exuToMain (.of_answer skipped (keeps_exuRequest h))
        · exact keeps_exuAnswer (keeps_exuRequest h)
      · exact h
    · exact h
  · exact h

theorem keeps_exuExposed {k : Slot} (h : Keeps s t) : Keeps s (exuExposed k t) :=
  keeps_offerPlate (keeps_modExu (keeps_movePlate (fun _ => rfl) (fun _ => rfl) (by decide) (by decide) h))

theorem keeps_exuGoesOn {k : Slot} {st : Substage} (h : Keeps s t) : Keeps s (exuGoesOn k st t) := by
  cases st
  · exact keeps_exuToMain h
  · exact keeps_exuExposed h

theorem keeps_exuRunEnding {ch : LampChannel} {ending : RunEnding} (h : Keeps s t) :
    Keeps s (exuRunEnding ch ending t) := by
  unfold exuRunEnding
  dsimp only
  (repeat' split) <;> apply_rules [keeps_exuGoesOn, keeps_exuEnterHeld, keeps_addNotice]

theorem keeps_exuPauseReport {ch : LampChannel} (h : Keeps s t) : Keeps s (exuPauseReport ch t) := by
  unfold exuPauseReport
  split
  · exact keeps_modExu h
  · exact h

theorem keeps_loadComplete (h : Keeps s t) : Keeps s (loadComplete t) := by
  unfold loadComplete
  split
  · exact keeps_askExposure (keeps_modExu (keeps_movePlate (fun _ => rfl) (fun _ => rfl) (by decide) (by decide)
      (keeps_driveOff h)))
  · exact h

theorem keeps_loadTimeout (h : Keeps s t) : Keeps s (loadTimeout t) := by
  unfold loadTimeout
  (repeat' split) <;> apply_rules [keeps_modExu, keeps_holdPlate, keeps_setFlag, keeps_driveOff]

theorem keeps_exuPresentChange {active : Bool} (h : Keeps s t) : Keeps s (exuPresentChange active t) := by
  unfold exuPresentChange
  (repeat' split) <;> apply_rules [keeps_loadComplete, keeps_exuEnterClearWait, keeps_tryIntake, keeps_modExu]

theorem keeps_exuLidChange {active : Bool} (h : Keeps s t) : Keeps s (exuLidChange active t) := by
  unfold exuLidChange
  dsimp only
  split
  · exact keeps_updateRollers h
  · exact keeps_askExposure (keeps_updateRollers h)

theorem keeps_exuResume {extension : Nat} {reason : HoldReason} (h : Keeps s t) :
    Keeps s (exuResume extension reason t) := keeps_askExposure (keeps_modExu h)

theorem keeps_exuEject {reason : HoldReason} (h : Keeps s t) : Keeps s (exuEject reason t) := by
  have released := keeps_releaseEnded (ch := .main) (keeps_releaseEnded (ch := .back)
    (keeps_driveOff (c := .intakeRollers) h))
  unfold exuEject
  dsimp only
  apply keeps_exuEnterClearWait
  split
  · exact keeps_modExu released
  · exact released

/-! ### The finisher (chapter 7) -/

theorem keeps_lfnEnterEmpty (h : Keeps s t) : Keeps s (lfnEnterEmpty t) := keeps_arbiter (keeps_modLfn h)

theorem keeps_lfnEnterClearWait (h : Keeps s t) : Keeps s (lfnEnterClearWait t) := by
  unfold lfnEnterClearWait
  dsimp only
  split
  · exact keeps_modLfn h
  · exact keeps_lfnEnterEmpty (keeps_modLfn h)

theorem keeps_lfnPresentChange {active : Bool} (h : Keeps s t) : Keeps s (lfnPresentChange active t) := by
  unfold lfnPresentChange
  (repeat' split) <;> apply_rules [keeps_lfnEnterClearWait, keeps_lfnEnterEmpty]

theorem keeps_lfnPlaced {k : Slot} (h : Keeps s t) : Keeps s (lfnPlaced k t) := keeps_modLfn h

theorem keeps_setFinisherRun {c : FinisherLamp} {r : FinisherRun} (h : Keeps s t) : Keeps s (setFinisherRun c r t) :=
  keeps_modLfn h

theorem keeps_updateOutfeed (h : Keeps s t) : Keeps s (updateOutfeed t) := by
  unfold updateOutfeed
  (repeat' split) <;> apply_rules [keeps_driveOn, keeps_driveOff]

theorem keeps_tryRelease (h : Keeps s t) : Keeps s (tryRelease t) := by
  unfold tryRelease
  (repeat' split) <;> apply_rules [keeps_driveOn, keeps_modTrc, keeps_modLfn]

theorem keeps_lfnReleaseEnd (h : Keeps s t) : Keeps s (lfnReleaseEnd t) :=
  keeps_lfnEnterClearWait (keeps_modLfn (keeps_driveOff h))

theorem keeps_lfnEnterHeld {k : Slot} {reason : HoldReason} (h : Keeps s t) : Keeps s (lfnEnterHeld k reason t) :=
  keeps_modLfn (keeps_holdPlate h)

theorem keeps_lfnFinished {k : Slot} (h : Keeps s t) : Keeps s (lfnFinished k t) :=
  keeps_tryRelease (keeps_modLfn (keeps_movePlate (fun _ => rfl) (fun _ => rfl) (by decide) (by decide) h))

theorem keeps_testFinished (h : Keeps s t) : Keeps s (testFinished t) := by
  unfold testFinished
  (repeat' split) <;> apply_rules [keeps_lfnFinished]

theorem keeps_lfnAnswer {c : FinisherLamp} {k : Slot} {x : State × WorkAnswer} (h : Keeps s x.1) :
    Keeps s (lfnAnswer c k x) := by
  unfold lfnAnswer
  split
  · exact keeps_setFinisherRun h
  · exact h
  · exact keeps_setFinisherRun h
  · exact keeps_lfnEnterHeld (keeps_setFinisherRun h)

theorem keeps_lfnWaits {c : FinisherLamp} {k : Slot} (h : Keeps s t) : Keeps s (lfnWaits c k t) := by
  unfold lfnWaits
  (repeat' split) <;> apply_rules [keeps_setFinisherRun]

theorem keeps_askFinisherChannel {c : FinisherLamp} (h : Keeps s t) : Keeps s (askFinisherChannel c t) := by
  unfold askFinisherChannel
  split
  · exact h
  · split
    · split
      · split
        · next waits => exact keeps_lfnWaits (.of_answer waits (keeps_askFresh h))
        · exact keeps_lfnAnswer (keeps_askFresh h)
      · split
        · next waits => exact keeps_lfnWaits (.of_answer waits (keeps_askFresh h))
        · exact keeps_lfnAnswer (keeps_askFresh h)
      · split <;> next resumed =>
          have resumed := Keeps.of_answer resumed (keeps_continueRun h)
          apply_rules [keeps_lfnAnswer, keeps_lfnWaits]
      · exact h
    · exact h

theorem keeps_askFinisher (h : Keeps s t) : Keeps s (askFinisher t) :=
  keeps_testFinished (keeps_askFinisherChannel (keeps_askFinisherChannel h))

theorem keeps_lfnRunEnding {ch : LampChannel} {ending : RunEnding} (h : Keeps s t) :
    Keeps s (lfnRunEnding ch ending t) := by
  unfold lfnRunEnding
  (repeat' split) <;> apply_rules [keeps_testFinished, keeps_setFinisherRun, keeps_addNotice, keeps_lfnEnterHeld]

theorem keeps_lfnPauseReport {ch : LampChannel} (h : Keeps s t) : Keeps s (lfnPauseReport ch t) := by
  unfold lfnPauseReport
  (repeat' split) <;> apply_rules [keeps_setFinisherRun]

theorem keeps_takeFinisherTag {tag : Nat} (h : Keeps s t) : Keeps s (takeFinisherTag tag t) := by
  unfold takeFinisherTag
  dsimp only
  split
  · split
    · exact keeps_askFinisher (keeps_modLfn (keeps_movePlate (fun _ => rfl) (fun _ => rfl) (by decide) (by decide)
        (keeps_modLfn h)))
    · exact keeps_lfnEnterHeld (keeps_setFlag (keeps_modLfn h))
  · exact h

theorem keeps_lfnResume {extension : Nat} {reason : HoldReason} (h : Keeps s t) :
    Keeps s (lfnResume extension reason t) := keeps_askFinisher (keeps_modLfn h)

theorem keeps_lfnEject (h : Keeps s t) : Keeps s (lfnEject t) :=
  keeps_lfnEnterClearWait (keeps_modLfn (keeps_releaseChannel (keeps_releaseChannel h)))

/-! ### The exit table and the handoff (R149 to R156) -/

theorem keeps_reportExitFree (h : Keeps s t) : Keeps s (reportExitFree t) := by
  unfold reportExitFree
  split
  · exact keeps_tryRelease h
  · exact h

theorem keeps_testExitClear (h : Keeps s t) : Keeps s (testExitClear t) := by
  unfold testExitClear
  split
  · exact keeps_reportExitFree (keeps_modTrc h)
  · exact h

theorem keeps_completeHandoff (h : Keeps s t) : Keeps s (completeHandoff t) := by
  unfold completeHandoff
  split
  · exact h
  · exact keeps_testExitClear (keeps_modTrc (keeps_closeDone (keeps_refreshOutputs (keeps_modTrc h))))

theorem keeps_updateConveyor (h : Keeps s t) : Keeps s (updateConveyor t) := by
  unfold updateConveyor
  (repeat' split) <;> apply_rules [keeps_driveOn, keeps_driveOff]

theorem keeps_enterPushing (h : Keeps s t) : Keeps s (enterPushing t) := keeps_updateConveyor (keeps_modTrc h)

theorem keeps_enterOffered (h : Keeps s t) : Keeps s (enterOffered t) := keeps_refreshOutputs (keeps_modTrc h)

theorem keeps_dwellEnd (h : Keeps s t) : Keeps s (dwellEnd t) := by
  unfold dwellEnd
  dsimp only
  (repeat' split) <;> apply_rules [keeps_completeHandoff, keeps_enterOffered, keeps_driveOff]

theorem keeps_leaveSetup (h : Keeps s t) : Keeps s (leaveSetup t) := by
  unfold leaveSetup
  split
  · exact keeps_enterPushing h
  · exact keeps_enterOffered h

theorem keeps_setupEnd (h : Keeps s t) : Keeps s (setupEnd t) := by
  unfold setupEnd
  split
  · exact keeps_leaveSetup h
  · exact h

theorem keeps_setupAtOnce (h : Keeps s t) : Keeps s (setupAtOnce t) := by
  unfold setupAtOnce
  split
  · exact keeps_setupEnd h
  · exact h

theorem keeps_enterSetup (h : Keeps s t) : Keeps s (enterSetup t) :=
  keeps_setupAtOnce (keeps_refreshOutputs (keeps_modTrc h))

theorem keeps_restartHandoff (h : Keeps s t) : Keeps s (restartHandoff t) := by
  unfold restartHandoff
  split <;> apply_rules [keeps_enterSetup]

theorem keeps_exitPresentChange {active : Bool} (h : Keeps s t) : Keeps s (exitPresentChange active t) := by
  have arrives : ∀ k, Keeps s (enterSetup (modTrc (fun t => { t with incoming := none, plate := some k })
      (lfnReleaseEnd (movePlate k .finished .atExit id t)))) := fun k =>
    keeps_enterSetup (keeps_modTrc (keeps_lfnReleaseEnd
      (keeps_movePlate (fun _ => rfl) (fun _ => rfl) (by decide) (by decide) h)))
  unfold exitPresentChange
  (repeat' split) <;> apply_rules [keeps_modTrc, keeps_reportExitFree, keeps_testExitClear]

theorem keeps_setTaken (h : Keeps s t) : Keeps s (setTaken t) := keeps_modTrc h

theorem keeps_stkBusyChange {active : Bool} (h : Keeps s t) : Keeps s (stkBusyChange active t) := by
  unfold stkBusyChange
  (repeat' split) <;> apply_rules [keeps_completeHandoff, keeps_setTaken]

theorem keeps_stkTakenChange {active : Bool} (h : Keeps s t) : Keeps s (stkTakenChange active t) := by
  unfold stkTakenChange
  dsimp only
  (repeat' split) <;> apply_rules [keeps_completeHandoff, keeps_setTaken]

theorem keeps_operatorTakeChange {active : Bool} (h : Keeps s t) : Keeps s (operatorTakeChange active t) := by
  unfold operatorTakeChange
  split
  · exact keeps_completeHandoff h
  · exact h

theorem keeps_handoffExpiry (h : Keeps s t) : Keeps s (handoffExpiry t) := by
  unfold handoffExpiry
  split
  · exact keeps_setFlag (keeps_modTrc h)
  · exact h

end Sys2Proof.Machine
end

section
/-! SUPPORT. Line state, inputs, flags, link and requests keep the interlocks and the laws of the loading, the buffers and
the plate table (`Keeps`), but for what changes an input line or the configuration. -/

namespace Sys2Proof.Machine
variable {s t : State}

/-! ### The dryer, picks and places (chapters 6, 8) -/

theorem keeps_accrueDrawer {d : DrawerNo} (h : Keeps s t) : Keeps s (accrueDrawer t d) := by
  unfold accrueDrawer
  split
  · exact keeps_modPlate (fun _ => ⟨rfl, Iff.rfl, fun b => b⟩) h
  · exact h

theorem keeps_finishDrying {d : DrawerNo} (h : Keeps s t) : Keeps s (finishDrying t d) := by
  unfold finishDrying
  split
  · split
    · exact keeps_arbiter (keeps_movePlate (fun _ => rfl) (fun _ => rfl) (by decide) (by decide) (keeps_setDrawer h))
    · exact h
  · exact h

theorem keeps_inBandReading (h : Keeps s t) : Keeps s (inBandReading t) :=
  keeps_foldl (fun _ _ => keeps_finishDrying) _ (keeps_foldl (fun _ _ => keeps_accrueDrawer) _ h)

theorem keeps_aboveReading (h : Keeps s t) : Keeps s (aboveReading t) := keeps_setFlag (keeps_driveOff h)

theorem keeps_overdryTest {d : DrawerNo} (h : Keeps s t) : Keeps s (overdryTest t d) := by
  unfold overdryTest
  split
  · split
    · split
      · exact keeps_setFlag (keeps_addNotice (keeps_modPlate (fun _ => ⟨rfl, Iff.rfl, fun b => b⟩) h))
      · exact h
    · exact h
  · exact h

theorem keeps_actOnClass {c : TempClass} (h : Keeps s t) : Keeps s (actOnClass c t) := by
  cases c
  · exact h
  · exact keeps_setFlag h
  · exact keeps_inBandReading h
  · exact keeps_aboveReading h

theorem keeps_takeDryerReading {reading : Nat} (h : Keeps s t) : Keeps s (takeDryerReading reading t) :=
  keeps_foldl (fun _ _ => keeps_overdryTest) _ (keeps_actOnClass (keeps_modDry h))

theorem keeps_drawerPicked {d : DrawerNo} (h : Keeps s t) : Keeps s (drawerPicked d t) := by
  unfold drawerPicked
  split
  · exact keeps_setDrawer h
  · exact h

theorem keeps_pickReport (h : Keeps s t) : Keeps s (pickReport t) := by
  unfold pickReport
  split
  · exact keeps_travelThen (keeps_platePicked (keeps_modTrc h))
  · exact keeps_travelThen (keeps_drawerPicked h)
  · exact h

theorem keeps_putPlaced {k : Slot} {d : DrawerNo} (h : Keeps s t) : Keeps s (putPlaced k d t) := by
  have moved := keeps_movePlate (k := k) (src := .washExit) (dst := .drying)
    (f := fun r => { r with dry := some (newDryPart r) }) (fun _ => rfl) (fun _ => rfl) (by decide) (by decide) h
  unfold putPlaced
  dsimp only
  split
  · exact keeps_setDrawer moved
  · exact moved

theorem keeps_drawerFreed {d : DrawerNo} {k : Slot} (h : Keeps s t) : Keeps s (drawerFreed d k t) :=
  keeps_evalAdmission (keeps_refreshOutputs (keeps_setDrawer
    (keeps_modPlate (fun _ => ⟨rfl, Iff.rfl, fun b => b⟩) h)))

theorem keeps_placeReport (h : Keeps s t) : Keeps s (placeReport t) := by
  unfold placeReport
  split
  · exact keeps_elevatorToIdle (keeps_putPlaced h)
  · exact keeps_elevatorToIdle (keeps_lfnPlaced (keeps_drawerFreed h))
  · exact h

/-! ### The line state (R171 to R178) -/

theorem keeps_stationsHearLine (h : Keeps s t) : Keeps s (stationsHearLine t) := by
  unfold stationsHearLine
  split
  · exact keeps_arbiter (keeps_tryRelease (keeps_askFinisher (keeps_evalAdmission (keeps_startReplenish
      (keeps_askExposure (keeps_tryIntake h))))))
  · exact keeps_arbiter (keeps_tryRelease (keeps_tryReplenish h))
  · exact h
  · exact h

theorem keeps_changeLine {new : LineState} {cause : Cause} (h : Keeps s t) : Keeps s (changeLine new cause t) :=
  keeps_stationsHearLine (keeps_raiseAttn (keeps_refreshOutputs (keeps_modFlt h)))

theorem keeps_lineHold (h : Keeps s t) : Keeps s (lineHold t) := by
  unfold lineHold
  split
  · exact keeps_changeLine h
  · exact h

theorem keeps_lineResume (h : Keeps s t) : Keeps s (lineResume t) := by
  unfold lineResume
  split
  · exact keeps_changeLine h
  · exact h

theorem keeps_linkLost (h : Keeps s t) : Keeps s (linkLost t) := by
  unfold linkLost
  dsimp only
  split
  · exact keeps_changeLine (keeps_setFlag h)
  · exact keeps_setFlag h

theorem keeps_resetLine (h : Keeps s t) : Keeps s (resetLine t) := by
  unfold resetLine
  dsimp only
  split <;> split <;> first | exact keeps_modFlt h | exact keeps_changeLine h

/-! ### The inhibit, the lid and the delivery of a change (R160, R168, R169, R173) -/

theorem keeps_pauseSegment {ch : LampChannel} (h : Keeps s t) : Keeps s (pauseSegment ch t) := by
  unfold pauseSegment
  split
  · exact keeps_lfnPauseReport (keeps_exuPauseReport (keeps_pauseChannel h))
  · exact h

theorem keeps_forceDrive {c : DriveChannel} (h : Keeps s t) : Keeps s (forceDrive t c) := by
  unfold forceDrive
  split
  · exact keeps_setDrive (by simp) h
  · exact h

theorem keeps_forceLamp {c : LampChannel} (h : Keeps s t) : Keeps s (forceLamp t c) := by
  unfold forceLamp
  split
  · exact keeps_refreshOutputs (keeps_setLamp (.inl rfl) h)
  · exact h

theorem keeps_forceAllOff (h : Keeps s t) : Keeps s (forceAllOff t) :=
  keeps_foldl (fun _ _ => keeps_forceLamp) _ (keeps_foldl (fun _ _ => keeps_forceDrive) _ h)

theorem keeps_stopLine (h : Keeps s t) : Keeps s (stopLine t) := by
  unfold stopLine
  dsimp only
  split
  · exact keeps_changeLine (keeps_setFlag h)
  · exact keeps_changeLine (keeps_setFlag h)
  · exact keeps_setFlag h
  · exact keeps_setFlag h

theorem keeps_pauseForced {c : LampChannel} (h : Keeps s t) : Keeps s (pauseForced t c) := by
  unfold pauseForced
  split
  · exact keeps_pauseSegment h
  · exact h

theorem keeps_ownersHearInhibit (h : Keeps s t) : Keeps s (ownersHearInhibit t) :=
  keeps_restartHandoff (keeps_updateHalted (keeps_stopReplenish (keeps_transportAnew
    (keeps_foldl (fun _ _ => keeps_pauseForced) _ h))))

theorem keeps_inhibitOn (h : Keeps s t) : Keeps s (inhibitOn t) :=
  keeps_ownersHearInhibit (keeps_stopLine (keeps_forceAllOff h))

theorem keeps_releaseDrive {c : DriveChannel} (h : Keeps s t) : Keeps s (releaseDrive t c) := by
  unfold releaseDrive
  by_cases fault : driveFaulted c t = true
  · rw [if_pos fault]
    exact keeps_setDrive (by simp) h
  · rw [if_neg fault]
    refine h.trans { drives := fun d on => .inl ?_ }
    obtain ⟨sp, on⟩ := driveIsOn_iff.1 on
    rw [driveState_setDrive] at on
    split at on
    · next e => exact e ▸ driveIsOn_iff.2 ⟨sp, on⟩
    · exact driveIsOn_iff.2 ⟨sp, on⟩

theorem keeps_releaseLamp {c : LampChannel} (h : Keeps s t) : Keeps s (releaseLamp t c) :=
  keeps_setLamp (.inr rfl) h

theorem keeps_releaseAll (h : Keeps s t) : Keeps s (releaseAll t) :=
  keeps_foldl (fun _ _ => keeps_releaseLamp) _ (keeps_foldl (fun _ _ => keeps_releaseDrive) _ h)

theorem keeps_releaseLine (h : Keeps s t) : Keeps s (releaseLine t) := by
  unfold releaseLine
  split
  · exact keeps_changeLine h
  · exact h

theorem keeps_handoffGoesOn (h : Keeps s t) : Keeps s (handoffGoesOn t) := by
  unfold handoffGoesOn
  split
  · exact keeps_setupAtOnce h
  · exact keeps_updateConveyor h

theorem keeps_washoutGoesOn (h : Keeps s t) : Keeps s (washoutGoesOn t) := keeps_tryReplenish (keeps_transportAnew h)

theorem keeps_ownersHearRelease (h : Keeps s t) : Keeps s (ownersHearRelease t) :=
  keeps_handoffGoesOn (keeps_updateHalted (keeps_tryRelease (keeps_updateOutfeed (keeps_testHeater
    (keeps_washoutGoesOn (keeps_updateRollers h))))))

theorem keeps_inhibitOff (h : Keeps s t) : Keeps s (inhibitOff t) :=
  keeps_ownersHearRelease (keeps_releaseLine (keeps_releaseAll h))

theorem keeps_lidOpened (h : Keeps s t) : Keeps s (lidOpened t) :=
  keeps_exuLidChange (keeps_pauseSegment (keeps_pauseSegment (keeps_lampOff (keeps_lampOff h))))

theorem keeps_deliver {fn : InputFunction} {active : Bool} (h : Keeps s t) : Keeps s (deliver fn active t) := by
  unfold deliver
  split
  · split
    · exact keeps_inhibitOn h
    · exact keeps_inhibitOff h
  · split
    · exact keeps_lidOpened h
    · exact keeps_exuLidChange h
  · exact keeps_exuPresentChange h
  · exact keeps_intakePresentChange h
  · exact keeps_lfnPresentChange h
  · exact keeps_exitPresentChange h
  · apply keeps_exitSensorChange
    split
    · exact h
    · exact keeps_testStallEnd h
  · exact keeps_stkBusyChange h
  · exact keeps_stkTakenChange h
  · exact keeps_freshLowChange h
  · exact keeps_operatorTakeChange h
  · exact h

/-! ### Output lines and drive faults (R163 to R167) -/

theorem keeps_resettleOutput {i : Fin 8} (h : Keeps s t) : Keeps s (resettleOutput t i) := by
  unfold resettleOutput
  split
  · exact h
  · exact keeps_refreshOutput (keeps_setOutput h)

theorem keeps_holdEnd {i : Fin 8} (h : Keeps s t) : Keeps s (holdEnd i t) := by
  unfold holdEnd
  split
  · exact keeps_refreshOutput (keeps_setOutput h)
  · exact h

theorem keeps_ownerHearsFault {c : DriveChannel} (h : Keeps s t) : Keeps s (ownerHearsFault c t) := by
  cases c
  case transport | brushes => exact keeps_transportAnew h
  case pump => exact keeps_stopReplenish h
  case elevator => exact keeps_updateHalted h
  case intakeRollers | heater | outfeed | conveyor => exact h

theorem keeps_trip {c : DriveChannel} (h : Keeps s t) : Keeps s (trip c t) := by
  unfold trip
  split
  · exact keeps_ownerHearsFault (keeps_setFlag (keeps_setDrive (by simp) h))
  · exact h

theorem keeps_ownerHearsRelease {c : DriveChannel} (h : Keeps s t) : Keeps s (ownerHearsRelease c t) := by
  cases c
  case intakeRollers => exact keeps_updateRollers h
  case transport | brushes => exact keeps_transportAnew h
  case pump => exact keeps_tryReplenish h
  case heater => exact keeps_testHeater h
  case elevator => exact keeps_updateHalted h
  case outfeed => exact keeps_tryRelease (keeps_updateOutfeed h)
  case conveyor => exact keeps_updateConveyor h

theorem keeps_releaseLatch {c : DriveChannel} (h : Keeps s t) : Keeps s (releaseLatch c t) := by
  unfold releaseLatch
  split
  · exact keeps_ownerHearsRelease (keeps_setDrive (by simp) h)
  · exact h

/-! ### Flags cleared, masked and detected (R178, R180 to R184) -/

theorem keeps_whenCleared {m : FlagSet} {l : List Flag} {act : State → State}
    (acts : ∀ u, Keeps s u → Keeps s (act u)) (h : Keeps s t) : Keeps s (whenCleared m l act t) := by
  unfold whenCleared
  split
  · exact acts t h
  · exact h

theorem keeps_reportReservations (h : Keeps s t) : Keeps s (reportReservations t) := by
  unfold reportReservations
  split
  · exact keeps_evalAdmission h
  · exact h

theorem keeps_reportCleared {m : FlagSet} (h : Keeps s t) : Keeps s (reportCleared m t) :=
  keeps_whenCleared (fun _ => keeps_askFinisher)
    (keeps_whenCleared (fun _ => keeps_elevatorRecovery) (keeps_whenCleared (fun _ => keeps_arbiter)
      (keeps_whenCleared (fun _ => keeps_reportReservations) (keeps_whenCleared (fun _ => keeps_testHeater)
        (keeps_whenCleared (fun _ => keeps_evalAdmission) (keeps_whenCleared (fun _ => keeps_askExposure)
          (keeps_whenCleared (fun _ => keeps_tryIntake) h)))))))

theorem keeps_putFlags {m : FlagSet} (h : Keeps s t) : Keeps s (putFlags m t) := keeps_refreshOutputs (keeps_modFlt h)

theorem keeps_releaseNamed {named : FlagSet} (h : Keeps s t) : Keeps s (releaseNamed named t) := by
  refine keeps_foldl (fun u c k => ?_) _ h
  split
  · exact keeps_releaseLatch k
  · exact k

theorem keeps_clearFlags {named : FlagSet} (h : Keeps s t) : Keeps s (clearFlags named t) := keeps_putFlags h

theorem keeps_faultClear {named : FlagSet} (h : Keeps s t) : Keeps s (faultClear named t).1 :=
  keeps_reportCleared (keeps_clearFlags (keeps_releaseNamed h))

theorem keeps_faultMask {mask unmask : FlagSet} (h : Keeps s t) : Keeps s (faultMask mask unmask t) := by
  have masked := keeps_refreshOutputs (keeps_modFlt
    (f := fun x => { x with masks := (x.masks ||| mask) &&& ~~~unmask }) h)
  unfold faultMask
  dsimp only
  split
  · exact masked
  · exact keeps_raiseAttn masked

/-- An emptied plate table and queue meet their laws (R178). -/
theorem keeps_resetTables (h : Keeps s t) : Keeps s (resetTables t) := by
  have free : ∀ k, plateAt (resetTables t) k = none := fun k => by simp [plateAt, resetTables]
  refine h.trans {
    buffers := fun b => ⟨by simp [resetTables], b.receive, fun k r found => by simp [free] at found⟩
    table := fun l => ⟨fun j k p q found => by simp [free] at found, by simp [resetTables], fun k => ?_,
      by simp [resetTables]⟩ }
  have empty : (resetTables t).ptb.queue = [] := rfl
  simp [plateState, free, empty]

theorem keeps_detectAnew (h : Keeps s t) : Keeps s (detectAnew t) := by
  unfold detectAnew
  dsimp only
  split
  · exact keeps_putFlags h
  · exact keeps_raiseAttn (keeps_putFlags h)

theorem keeps_lineReset (h : Keeps s t) : Keeps s (lineReset t) :=
  keeps_resetLine (keeps_reportCleared (keeps_detectAnew (keeps_putFlags (keeps_resetTables h))))

/-! ### The link (chapter 11): the receive buffer takes what it has room for (R187) -/

theorem keeps_takeNext (h : Keeps s t) : Keeps s (takeNext t) := by
  unfold takeNext
  split
  · exact h
  · split
    · next e rest _ rx =>
      refine keeps_modLnk ?_ h
      simp only [rx, List.length_cons]
      omega
    · exact h

theorem keeps_offerEntry {e : RxEntry} (h : Keeps s t) : Keeps s (offerEntry e t) := by
  unfold offerEntry
  split
  · next room =>
    refine keeps_takeNext (keeps_modLnk ?_ h)
    simp only [Config.rxLimit, List.length_append, List.length_singleton] at room ⊢
    omega
  · exact keeps_setFlag h

theorem keeps_startWatchdog (h : Keeps s t) : Keeps s (startWatchdog t) := keeps_modLnk (le_max_right _ _) h

theorem keeps_restartWatchdog (h : Keeps s t) : Keeps s (restartWatchdog t) := by
  unfold restartWatchdog
  split
  · exact keeps_startWatchdog h
  · exact keeps_modLnk (le_max_right _ _) h

theorem keeps_handOverWatchdog (h : Keeps s t) : Keeps s (handOverWatchdog t) := by
  unfold handOverWatchdog
  dsimp only
  split
  · exact keeps_startWatchdog (keeps_modLnk (le_max_right _ _) h)
  · exact keeps_modLnk (le_max_right _ _) h

theorem keeps_watchdogEnd (h : Keeps s t) : Keeps s (watchdogEnd t) := by
  unfold watchdogEnd
  split
  · exact keeps_modLnk (le_max_right _ _) (keeps_linkLost h)
  · exact h

theorem keeps_setParser {p : Parser} (h : Keeps s t) : Keeps s (setParser p t) := keeps_modLnk (le_max_right _ _) h

theorem keeps_completeFrame {got : List Byte} {hi lo : Byte} (h : Keeps s t) : Keeps s (completeFrame got hi lo t) := by
  unfold completeFrame
  (repeat' split) <;> apply_rules [keeps_offerEntry, keeps_restartWatchdog, keeps_setFlag]

theorem keeps_receiveByte {b : Byte} (h : Keeps s t) : Keeps s (receiveByte b t) := by
  unfold receiveByte
  (repeat' split) <;> apply_rules [keeps_completeFrame, keeps_offerEntry, keeps_setParser]

theorem keeps_gapTimeout (h : Keeps s t) : Keeps s (gapTimeout t) := by
  unfold gapTimeout
  split
  · exact h
  · exact keeps_setFlag (keeps_setParser h)

theorem keeps_finishEntry {kind tag : Byte} {r : Reply} (h : Keeps s t) : Keeps s (finishEntry kind tag r t) :=
  keeps_takeNext (keeps_modLnk (le_max_right _ _) h)

theorem keeps_holdEntry {e : RxEntry} (h : Keeps s t) : Keeps s (holdEntry e t) := by
  unfold holdEntry
  split
  · exact h
  · exact keeps_offerEntry h

theorem keeps_serveEntry {e : RxEntry} {act : State → State} (acts : ∀ u, Keeps s u → Keeps s (act u))
    (h : Keeps s t) : Keeps s (serveEntry e act t) := by
  unfold serveEntry
  split
  · exact acts _ (keeps_modLnk (le_max_right _ _) h)
  · exact keeps_holdEntry h

theorem keeps_serveRequest {f : RxFrame} {act : State → State × Reply} (acts : ∀ u, Keeps s u → Keeps s (act u).1)
    (h : Keeps s t) : Keeps s (serveRequest f act t) := by
  refine keeps_serveEntry (fun u k => ?_) h
  split
  · exact keeps_finishEntry (acts u k)
  · exact keeps_finishEntry k

theorem keeps_sendReply (h : Keeps s t) : Keeps s (sendReply t) := by
  unfold sendReply
  split <;> exact keeps_modLnk (le_max_right _ _) h

theorem keeps_chooseFrame (h : Keeps s t) : Keeps s (chooseFrame t) := by
  have unmarked := keeps_modLnk (f := fun l => { l with attnMark := false }) (le_max_right _ _) h
  unfold chooseFrame
  dsimp only
  split
  · split
    · exact keeps_sendReply unmarked
    · exact keeps_modLnk (le_max_right _ _) unmarked
  · exact keeps_sendReply h

/-! ### Settings and unit requests (chapters 2, 5, 6, 9, 11) -/

theorem keeps_setRecipe {i : Fin 24} {r : Option Recipe} (h : Keeps s t) : Keeps s (setRecipe i r t) :=
  keeps_markUnsaved (keeps_modRss rfl h)

theorem keeps_actRecipeWrite {body : List Byte} (h : Keeps s t) : Keeps s (actRecipeWrite body t).1 := by
  unfold actRecipeWrite
  dsimp only
  (repeat' split) <;> apply_rules [keeps_setRecipe]

theorem keeps_actRecipeRead {body : List Byte} (h : Keeps s t) : Keeps s (actRecipeRead body t).1 := by
  unfold actRecipeRead
  (repeat' split) <;> exact h

theorem keeps_actRecipeDelete {body : List Byte} (h : Keeps s t) : Keeps s (actRecipeDelete body t).1 := by
  unfold actRecipeDelete
  (repeat' split) <;> apply_rules [keeps_setRecipe]

theorem keeps_replaceLamp {g : CalGroups} {ch : LampChannel} (h : Keeps s t) : Keeps s (replaceLamp g t ch) := by
  unfold replaceLamp
  split
  · exact keeps_askCountersWrite (keeps_modDin (le_max_right _ _) h)
  · exact h

theorem keeps_handCal {g : CalGroups} (h : Keeps s t) : Keeps s (handCal g t) := by
  unfold handCal
  dsimp only
  (repeat' split) <;> apply_rules [keeps_carrySetpoint, keeps_evalAdmission, keeps_testLampLife]

theorem keeps_applyCal {g : CalGroups} (h : Keeps s t) : Keeps s (applyCal g t) :=
  keeps_handCal (keeps_markUnsaved (keeps_foldl (fun _ _ => keeps_replaceLamp) _ (keeps_modRss rfl h)))

theorem keeps_actCalWrite {body : List Byte} (h : Keeps s t) : Keeps s (actCalWrite body t).1 := by
  unfold actCalWrite actCalGroups
  (repeat' split) <;> apply_rules [keeps_applyCal]

theorem keeps_announceEnabled {old new : AttnSet} (h : Keeps s t) : Keeps s (announceEnabled old new t) := by
  unfold announceEnabled
  split
  · exact h
  · exact keeps_modLnk (le_max_right _ _) h

theorem keeps_handWatchdog {g : ConfigGroups} (h : Keeps s t) : Keeps s (handWatchdog g t) := by
  unfold handWatchdog
  split
  · exact keeps_modLnk (le_max_right _ _) h
  · exact h

theorem setBank_working (n : BankName) (v : Bank) (r : Store) : (setBank n v r).working = r.working := by
  cases n <;> rfl

theorem keeps_beginSave {tag : Byte} (h : Keeps s t) : Keeps s (beginSave tag t) :=
  keeps_modRss (by simp only [setBank_working]) h

theorem keeps_clearStoreCheck (h : Keeps s t) : Keeps s (clearStoreCheck t) := by
  unfold clearStoreCheck
  split
  · exact keeps_tryIntake (keeps_clearFlag h)
  · exact h

theorem keeps_endSave {verified : Bool} (h : Keeps s t) : Keeps s (endSave verified t) := by
  unfold endSave
  dsimp only
  split
  · exact h
  · next sv _ =>
    refine keeps_finishEntry (keeps_startWaitingCounters ?_)
    have ended : Keeps s (modRss (fun r => { setBank sv.bank { bank sv.bank r with valid := verified } r with
        save := none }) t) := keeps_modRss (by simp only [setBank_working]) h
    split
    · exact keeps_clearStoreCheck (keeps_modRss rfl ended)
    · exact ended

theorem keeps_serveSave {f : RxFrame} (h : Keeps s t) : Keeps s (serveSave f t) := by
  refine keeps_serveEntry (fun u k => ?_) h
  split
  · exact keeps_beginSave k
  · exact keeps_finishEntry k

theorem keeps_actReplenishNow (h : Keeps s t) : Keeps s (actReplenishNow t).1 := by
  unfold actReplenishNow
  split <;> apply_rules [keeps_replenishNow]

theorem keeps_actBathChanged (h : Keeps s t) : Keeps s (actBathChanged t).1 := by
  unfold actBathChanged
  split <;> apply_rules [keeps_bathChanged]

theorem keeps_actDryerSet {body : List Byte} (h : Keeps s t) : Keeps s (actDryerSet body t).1 := by
  unfold actDryerSet
  split
  · exact keeps_carrySetpoint (keeps_markUnsaved (keeps_modRss rfl h))
  · exact h

theorem keeps_actAttnEnable {body : List Byte} (h : Keeps s t) : Keeps s (actAttnEnable body t).1 := by
  have stored : ∀ m : AttnSet, Keeps s (modRss (fun r => { r with
      working := { r.working with cfg := { r.working.cfg with attention := m } } }) t) := fun m =>
    h.trans { senses := fun _ => rfl }
  unfold actAttnEnable
  split
  · split
    · exact keeps_announceEnabled (keeps_markUnsaved (stored _))
    · exact h
  · exact h

theorem keeps_clearAttention {m : AttnSet} (h : Keeps s t) : Keeps s (clearAttention m t) :=
  keeps_modLnk (le_max_right _ _) h

theorem keeps_actAttnClear {body : List Byte} (h : Keeps s t) : Keeps s (actAttnClear body t).1 := by
  unfold actAttnClear
  split
  · split
    · exact keeps_clearAttention h
    · exact h
  · exact h

theorem keeps_setUsers {l : List (Nat × Byte)} (h : Keeps s t) : Keeps s (setUsers l t) := by
  refine keeps_foldl (fun u p k => ?_) _ (keeps_foldl (fun _ _ => keeps_setOutput) _ h)
  unfold applyUser
  split
  · exact keeps_refreshOutput k
  · exact k

theorem keeps_actOutputSet {body : List Byte} (h : Keeps s t) : Keeps s (actOutputSet body t).1 := by
  unfold actOutputSet
  split
  · exact keeps_setUsers h
  · exact h

/-! ### Line, fault and trace requests (chapters 3, 10) -/

theorem keeps_actLineResume (h : Keeps s t) : Keeps s (actLineResume t).1 := by
  unfold actLineResume
  split
  · exact h
  · exact keeps_lineResume h

theorem keeps_actLineReset (h : Keeps s t) : Keeps s (actLineReset t).1 := by
  unfold actLineReset
  split
  · exact keeps_lineReset h
  · exact h

theorem keeps_actFaultClear {body : List Byte} (h : Keeps s t) : Keeps s (actFaultClear body t).1 := by
  unfold actFaultClear
  (repeat' split) <;> apply_rules [keeps_faultClear]

theorem keeps_actFaultMask {body : List Byte} (h : Keeps s t) : Keeps s (actFaultMask body t).1 := by
  unfold actFaultMask
  (repeat' split) <;> apply_rules [keeps_faultMask]

theorem keeps_actTraceRead {body : List Byte} (h : Keeps s t) : Keeps s (actTraceRead body t).1 := by
  have dropped : ∀ n, Keeps s (modDin (fun d => { d with trace := d.trace.drop n }) t) := fun n =>
    keeps_modDin (by simp only [List.length_drop]; omega) h
  unfold actTraceRead
  split
  · split
    · exact dropped _
    · exact h
  · exact h

theorem keeps_actTraceClear (h : Keeps s t) : Keeps s (actTraceClear t).1 := by
  have emptied : Keeps s (modDin (fun d => { d with trace := [] }) t) := keeps_modDin (Nat.zero_le _) h
  exact emptied

/-! ### Plate requests (chapter 1): the table and the queue stay lawful (R2, R11) -/

theorem keeps_withPlate {sel : Option Selector} {act : Slot → PlateRecord → State → State × Reply}
    (acts : ∀ k r, plateAt t k = some r → Keeps s (act k r t).1) (h : Keeps s t) :
    Keeps s (withPlate sel act t).1 := by
  unfold withPlate
  split
  · exact h
  · split
    · exact h
    · split
      · exact h
      · next found => exact acts _ _ found

theorem keeps_onPlate {body : List Byte} {act : Slot → PlateRecord → State → State × Reply}
    (acts : ∀ k r, plateAt t k = some r → Keeps s (act k r t).1) (h : Keeps s t) : Keeps s (onPlate body act t).1 := by
  unfold onPlate
  split
  · exact keeps_withPlate acts h
  · exact h

/-- A slot that becomes FREE, its entry taken out of the queue (R18, R19). -/
theorem keeps_slotFreed {k : Slot} {q : List Slot} (queue : TableLawful t → q = t.ptb.queue.filter (· ≠ k))
    (h : Keeps s t) : Keeps s (modPtb (fun x => { x with queue := q }) (setPlate k none t)) := by
  have plates : ∀ j, plateAt (modPtb (fun x => { x with queue := q }) (setPlate k none t)) j =
      if j = k then none else plateAt t j := fun j => plateAt_setPlate j k none t
  refine h.trans {
    buffers := fun b => ⟨by simpa using b.trace, by simpa using b.receive, fun j r at_j => ?_⟩
    table := fun l => ⟨fun i j a b at_i at_j same => ?_, ?_, fun j => ?_, ?_⟩ }
  · rw [plates] at at_j
    split at at_j
    · cases at_j
    · exact b.notices j r at_j
  · rw [plates] at at_i at_j
    split at at_i
    · cases at_i
    · split at at_j
      · cases at_j
      · exact l.idsDiffer i j a b at_i at_j same
  · simpa [queue l] using l.queueOnce.filter _
  · rw [plateState, plates]
    by_cases e : j = k
    · simp [queue l, e]
    · simp [queue l, e, l.queueIsQueued j, plateState]
  · simpa [queue l] using (List.length_filter_le _ _).trans l.queueShort

theorem keeps_cancelPlate {k : Slot} {r : PlateRecord} (h : Keeps s t) : Keeps s (cancelPlate k r t).1 := by
  unfold cancelPlate
  split
  · exact keeps_reportQueueEmpty (keeps_slotFreed (fun _ => rfl) h)
  · exact h

theorem keeps_retirePlate {k : Slot} {r : PlateRecord} (found : plateAt t k = some r) (h : Keeps s t) :
    Keeps s (retirePlate k r t).1 := by
  unfold retirePlate
  split
  · next closed =>
    refine keeps_slotFreed (q := t.ptb.queue) (fun l => (List.filter_eq_self.2 fun j mem => ?_).symm) h
    have queued := (l.queueIsQueued j).1 mem
    simp only [ne_eq, decide_eq_true_eq]
    rintro rfl
    simp only [plateState, found, Option.map_some, Option.some.injEq] at queued
    simp [queued] at closed
  · exact h

theorem keeps_movePlateToHead {k : Slot} {r : PlateRecord} (h : Keeps s t) : Keeps s (movePlateToHead k r t).1 := by
  unfold movePlateToHead
  split
  · have same : ∀ j q, j ∈ toHead k q ↔ j ∈ q := by
      intro j q
      unfold toHead
      split
      · next mem => by_cases e : j = k <;> simp [e, mem]
      · rfl
    have once : ∀ q : List Slot, q.Nodup → (toHead k q).Nodup := by
      intro q nodup
      unfold toHead
      split
      · exact List.nodup_cons.2 ⟨by simp, nodup.filter _⟩
      · exact nodup
    refine h.trans { table := fun l => ⟨l.idsDiffer, once _ l.queueOnce, fun j => ?_, ?_⟩ }
    · exact (same j _).trans (l.queueIsQueued j)
    · have perm : (toHead k t.ptb.queue).Perm t.ptb.queue :=
        (List.perm_ext_iff_of_nodup (once _ l.queueOnce) l.queueOnce).2 fun j => same j _
      exact perm.length_eq.trans_le l.queueShort
  · exact h

theorem keeps_ejectPlate {k : Slot} {r : PlateRecord} (h : Keeps s t) : Keeps s (ejectPlate k r t).1 := by
  unfold ejectPlate
  split
  · exact keeps_closeScrapped (keeps_exuEject h)
  · exact keeps_closeScrapped (keeps_lfnEject h)
  · exact h

theorem keeps_unhold {k : Slot} {dst : PlateState} (to_ : dst ≠ .queued) (h : Keeps s t) : Keeps s (unhold k dst t) :=
  keeps_movePlate (fun _ => rfl) (fun _ => rfl) (by decide) to_ h

theorem keeps_resumePlate {extension : Nat} {k : Slot} {r : PlateRecord} (h : Keeps s t) :
    Keeps s (resumePlate extension k r t).1 := by
  unfold resumePlate
  split
  · split
    · exact keeps_exuResume (keeps_unhold (by decide) h)
    · exact h
  · split
    · exact keeps_lfnResume (keeps_unhold (by decide) h)
    · exact h
  · exact h

theorem keeps_actPlateResume {body : List Byte} (h : Keeps s t) : Keeps s (actPlateResume body t).1 := by
  unfold actPlateResume
  split
  · split
    · exact keeps_withPlate (fun _ _ _ => keeps_resumePlate h) h
    · exact h
  · exact h

/-- A carried plate id that no other slot's record has may replace a record's own (R17, case 6). -/
theorem keeps_amendPlate {a : Amendment} {k : Slot} {r : PlateRecord} (found : plateAt t k = some r) (h : Keeps s t) :
    Keeps s (amendPlate a k r t).1 := by
  unfold amendPlate
  dsimp only
  split
  · exact h
  · split
    · exact h
    · split
      · exact h
      · split
        · exact h
        · next queued _ _ free =>
          have queued : r.state = .queued := not_not.1 queued
          have alone : ∀ j p, plateAt t j = some p → p.plateId = a.plateId.getD r.plateId → TableLawful t → j = k := by
            intro j p at_j same l
            cases id : a.plateId with
            | none =>
              rw [id] at same
              exact l.idsDiffer j k p r at_j found same
            | some n =>
              rw [id] at same
              have there : (slotOfId t n).isSome := slotOfId_isSome_iff.2 ⟨j, p, at_j, same⟩
              obtain ⟨m, first⟩ := Option.isSome_iff_exists.1 there
              obtain ⟨q, at_m, carries⟩ := carriesId_iff.1 (List.find?_some first)
              have is_k : m = k := by
                by_contra other
                exact free (idTaken_iff.2 ⟨n, id, m, first, other⟩)
              rw [← is_k]
              exact l.idsDiffer j m p q at_j at_m (same.trans carries.symm)
          refine h.trans {
            buffers := fun b => ⟨by simpa using b.trace, by simpa using b.receive, fun j q at_j => ?_⟩
            table := fun l => ⟨fun i j p q at_i at_j same => ?_, by simpa using l.queueOnce, fun j => ?_,
              by simpa using l.queueShort⟩ }
          · rw [plateAt_setPlate] at at_j
            split at at_j
            · cases at_j
              exact b.notices k r found
            · exact b.notices j q at_j
          · rw [plateAt_setPlate] at at_i at_j
            split at at_i <;> split at at_j
            · next ei ej => rw [ei, ej]
            · next ei _ =>
              cases at_i
              rw [ei]
              exact (alone j q at_j same.symm l).symm
            · next _ ej =>
              cases at_j
              rw [ej]
              exact alone i p at_i same l
            · exact l.idsDiffer i j p q at_i at_j same
          · have named := l.queueIsQueued j
            have queue : ∀ x, (setPlate k x t).ptb.queue = t.ptb.queue := fun _ => by simp
            rw [queue, named]
            by_cases e : j = k
            · simp [e, plateState, found, queued, amendRecord]
            · simp [plateState, plateAt_setPlate, e]

theorem keeps_actPlateAmend {body : List Byte} (h : Keeps s t) : Keeps s (actPlateAmend body t).1 := by
  unfold actPlateAmend
  split
  · split
    · exact keeps_withPlate (fun _ _ found => keeps_amendPlate found h) h
    · exact h
  · exact h

/-- A new QUEUED record, its id carried by no other, takes a FREE slot and the queue's tail (R13). -/
theorem keeps_addPlate {k : Slot} {r : PlateRecord} (free : plateAt t k = none) (room : t.ptb.queue.length < 16)
    (new : ∀ j p, plateAt t j = some p → p.plateId ≠ r.plateId) (queued : r.state = .queued) (notices : r.notices = [])
    (h : Keeps s t) : Keeps s (addPlate k r t) := by
  have plates : ∀ j, plateAt (addPlate k r t) j = if j = k then some r else plateAt t j :=
    fun j => plateAt_setPlate j k (some r) t
  have queue : (addPlate k r t).ptb.queue = t.ptb.queue ++ [k] := by simp [addPlate]
  refine h.trans {
    buffers := fun b => ⟨by simpa using b.trace, by simpa using b.receive, fun j q at_j => ?_⟩
    table := fun l => ⟨fun i j p q at_i at_j same => ?_, ?_, fun j => ?_, ?_⟩ }
  · rw [plates] at at_j
    split at at_j
    · cases at_j
      simp [notices]
    · exact b.notices j q at_j
  · rw [plates] at at_i at_j
    split at at_i <;> split at at_j
    · next ei ej => rw [ei, ej]
    · cases at_i
      exact absurd same.symm (new j q at_j)
    · cases at_j
      exact absurd same (new i p at_i)
    · exact l.idsDiffer i j p q at_i at_j same
  · have apart : k ∉ t.ptb.queue := fun mem => by simpa [plateState, free] using (l.queueIsQueued k).1 mem
    rw [queue]
    exact List.nodup_append.2 ⟨l.queueOnce, by simp, fun a mem b is => by
      rintro rfl
      exact apart (List.mem_singleton.1 is ▸ mem)⟩
  · rw [queue, List.mem_append, List.mem_singleton, l.queueIsQueued j]
    by_cases e : j = k
    · simp [e, plateState, plates, queued]
    · simp [e, plateState, plates]
  · rw [queue, List.length_append, List.length_singleton]
    omega

theorem keeps_actOrder {o : PlateOrder} (h : Keeps s t) : Keeps s (actOrder o t).1 := by
  unfold actOrder
  dsimp only
  split
  · split
    · exact h
    · split
      · exact h
      · split
        · exact h
        · split
          · exact h
          · next other room _ k lowest =>
            refine keeps_addPlate (lowestFree_eq_some_iff.1 lowest).1 (Nat.lt_of_not_le room) (fun j p at_j same => ?_)
              rfl rfl h
            exact other (slotOfId_isSome_iff.2 ⟨j, p, at_j, same⟩)
  · exact h

theorem keeps_actPlateAdd {body : List Byte} (h : Keeps s t) : Keeps s (actPlateAdd body t).1 := by
  unfold actPlateAdd
  split
  · exact keeps_actOrder h
  · exact h

end Sys2Proof.Machine
end

section
/-! SUPPORT. Every step keeps the interlocks, the loading account, the buffers and the plate table: the settlements of O56
to O59 (R2, R6, R11, R61, R91, R100, R168, R169, R187). -/

namespace Sys2Proof.Machine
variable {s t : State}

/-! ### Commands that leave the input lines and the configuration as they are -/

/-- The commands that may change an input line or the line configuration, or take or give power. -/
def rewires : Instr → Bool
  | .powerOn _ | .powerLoss | .rawInputChange _ _ | .debounceExpiry _ | .configWrite _ _ => true
  | _ => false

theorem keeps_event {act : State → State} (acts : Keeps s (act s)) (h : event act s = .next t) : Keeps s t := by
  unfold event at h
  split at h <;> cases h
  · exact acts
  · exact .refl s

theorem keeps_eventIf {ok : Bool} {act : State → State} (acts : Keeps s (act s)) (h : eventIf ok act s = .next t) :
    Keeps s t := by
  unfold eventIf at h
  split at h
  · exact keeps_event acts h
  · cases h

theorem keeps_request {kind tag : Byte} {body : List Byte} {act : State → State × Reply}
    (acts : ∀ u, Keeps s u → Keeps s (act u).1) (h : request kind tag body act s = .next t) : Keeps s t :=
  keeps_eventIf (keeps_serveRequest acts (.refl s)) h

theorem keeps_readReply {fields : State → List Byte} (h : Keeps s t) : Keeps s (readReply fields t).1 := h

theorem keeps_sample {ch : LampChannel} {raw : Nat} (h : Keeps s t) : Keeps s (sample ch raw t) := by
  unfold sample
  split
  · next taken => exact .of_answer taken (keeps_takeSample h)
  · next taken =>
    have sampled := Keeps.of_answer taken (keeps_takeSample h)
    split
    · exact keeps_exuRunEnding sampled
    · exact keeps_exuRunEnding sampled
    · exact keeps_lfnRunEnding sampled
    · exact keeps_lfnRunEnding sampled

theorem keeps_endInitLine (h : Keeps s t) : Keeps s (endInitLine t) := by
  unfold endInitLine
  split
  · exact keeps_changeLine (keeps_setFlag h)
  · exact keeps_changeLine h

theorem keeps_endInitExu (h : Keeps s t) : Keeps s (endInitExu t) := by
  unfold endInitExu
  dsimp only
  split
  · exact keeps_modExu (keeps_modExu h)
  · exact keeps_exuEnterEmpty (keeps_modExu h)

theorem keeps_finishStartUp {level : Fin 8} (h : Keeps s t) : Keeps s (finishStartUp level t) := by
  unfold finishStartUp
  split
  · exact keeps_takeNext (keeps_beginHoming (keeps_modTrc (keeps_modLfn (keeps_testHeater (keeps_endInitExu
      (keeps_endInitLine (keeps_modExu h)))))))
  · exact h

/-- Every other command keeps: the case split over the table's rows (R188 for the requests, log 33 for their operands). -/
theorem exec_keeps {c : Instr} (quiet : rewires c = false) (h : exec c s = .next t) : Keeps s t := by
  have stays := Keeps.refl s
  cases c
  case powerOn | powerLoss | rawInputChange | debounceExpiry | configWrite => cases quiet
  case startUpLoadFinished level => exact keeps_event (keeps_finishStartUp stays) h
  case countersWriteEnd verified => exact keeps_event (keeps_endCountersWrite stays) h
  case outputHoldEnd line => exact keeps_event (keeps_holdEnd stays) h
  case overcurrentTrip channel => exact keeps_event (keeps_trip stays) h
  case intakeTagArrival tag => exact keeps_eventIf (keeps_takeIntakeTag stays) h
  case loadTimerExpiry => exact keeps_event (keeps_loadTimeout stays) h
  case sampleArrival channel raw => exact keeps_event (keeps_sample stays) h
  case gapMark slot => exact keeps_event (keeps_gapMark stays) h
  case endMark slot => exact keeps_event (keeps_endMark stays) h
  case commitMark slot => exact keeps_event (keeps_commitMark stays) h
  case exitMark => exact keeps_event (keeps_exitMark stays) h
  case solventTempReading reading =>
    refine keeps_event ?_ h
    split
    · exact keeps_takeSolventTemp stays
    · exact stays
  case replenishComplete =>
    refine keeps_event ?_ h
    split
    · exact keeps_completeReplenish stays
    · exact stays
  case dryerReading reading =>
    refine keeps_event ?_ h
    split
    · exact keeps_takeDryerReading stays
    · exact stays
  case elevatorArrived => exact keeps_event (keeps_arrivedReport stays) h
  case elevatorPickComplete => exact keeps_event (keeps_pickReport stays) h
  case elevatorPlaceComplete => exact keeps_event (keeps_placeReport stays) h
  case elevatorPhaseTimeout => exact keeps_event (keeps_phaseTimeout stays) h
  case finisherTagArrival tag => exact keeps_eventIf (keeps_takeFinisherTag stays) h
  case setupDelayEnd => exact keeps_event (keeps_setupEnd stays) h
  case pushDwellEnd => exact keeps_event (keeps_dwellEnd stays) h
  case handoffTimeout => exact keeps_event (keeps_handoffExpiry stays) h
  case frameComplete byte => exact keeps_event (keeps_receiveByte stays) h
  case badLengthEntry byte => exact keeps_event (keeps_receiveByte stays) h
  case byteReceived byte => exact keeps_event (keeps_receiveByte stays) h
  case byteGapTimeout => exact keeps_event (keeps_gapTimeout stays) h
  case badCheck => exact keeps_event (keeps_serveEntry (fun _ => keeps_finishEntry) stays) h
  case badLength frame =>
    cases frame
    · exact keeps_event (keeps_serveEntry (fun _ => keeps_finishEntry) stays) h
    · exact keeps_eventIf (keeps_serveEntry (fun _ => keeps_finishEntry) stays) h
  case unknownKind frame => exact keeps_eventIf (keeps_serveEntry (fun _ => keeps_finishEntry) stays) h
  case txFrameDone => exact keeps_event (keeps_chooseFrame stays) h
  case watchdogExpiry => exact keeps_event (keeps_watchdogEnd stays) h
  case lineStatus tag body => exact keeps_request (fun _ => keeps_readReply) h
  case lineHold tag body => exact keeps_request (fun _ => keeps_lineHold) h
  case lineResume tag body => exact keeps_request (fun _ => keeps_actLineResume) h
  case lineReset tag body => exact keeps_request (fun _ => keeps_actLineReset) h
  case plateAdd tag body => exact keeps_request (fun _ => keeps_actPlateAdd) h
  case plateRead tag body => exact keeps_request (fun _ k => keeps_onPlate (fun _ _ _ => k) k) h
  case plateAmend tag body => exact keeps_request (fun _ => keeps_actPlateAmend) h
  case plateCancel tag body => exact keeps_request (fun _ k => keeps_onPlate (fun _ _ _ => keeps_cancelPlate k) k) h
  case queueRead tag body => exact keeps_request (fun _ => keeps_readReply) h
  case queueMove tag body => exact keeps_request (fun _ k => keeps_onPlate (fun _ _ _ => keeps_movePlateToHead k) k) h
  case plateResume tag body => exact keeps_request (fun _ => keeps_actPlateResume) h
  case plateEject tag body => exact keeps_request (fun _ k => keeps_onPlate (fun _ _ _ => keeps_ejectPlate k) k) h
  case plateRetire tag body =>
    exact keeps_request (fun _ k => keeps_onPlate (fun _ _ found => keeps_retirePlate found k) k) h
  case recipeWrite tag body => exact keeps_request (fun _ => keeps_actRecipeWrite) h
  case recipeRead tag body => exact keeps_request (fun _ => keeps_actRecipeRead) h
  case recipeDelete tag body => exact keeps_request (fun _ => keeps_actRecipeDelete) h
  case calWrite tag body => exact keeps_request (fun _ => keeps_actCalWrite) h
  case calRead tag body => exact keeps_request (fun _ => keeps_readReply) h
  case configRead tag body => exact keeps_request (fun _ => keeps_readReply) h
  case storeSave tag body => exact keeps_eventIf (keeps_serveSave stays) h
  case storeSaveEnd verified => exact keeps_event (keeps_endSave stays) h
  case solventRead tag body => exact keeps_request (fun _ => keeps_readReply) h
  case replenishNow tag body => exact keeps_request (fun _ => keeps_actReplenishNow) h
  case bathChanged tag body => exact keeps_request (fun _ => keeps_actBathChanged) h
  case dryerSet tag body => exact keeps_request (fun _ => keeps_actDryerSet) h
  case dryerRead tag body => exact keeps_request (fun _ => keeps_readReply) h
  case faultRead tag body => exact keeps_request (fun _ => keeps_readReply) h
  case faultClear tag body => exact keeps_request (fun _ => keeps_actFaultClear) h
  case faultMask tag body => exact keeps_request (fun _ => keeps_actFaultMask) h
  case traceRead tag body => exact keeps_request (fun _ => keeps_actTraceRead) h
  case traceClear tag body => exact keeps_request (fun _ => keeps_actTraceClear) h
  case attnEnable tag body => exact keeps_request (fun _ => keeps_actAttnEnable) h
  case attnClear tag body => exact keeps_request (fun _ => keeps_actAttnClear) h
  case outputSet tag body => exact keeps_request (fun _ => keeps_actOutputSet) h

/-! ### The idle step (log 4) -/

theorem keeps_queued {q : List Instr} (h : Keeps s t) : Keeps s { t with pending := q } := h.trans {}

/-- A line written back with its state as it was changes no function. -/
theorem keeps_setInput {i : Fin 12} {v : InputLine} (same : v.active = (inputAt t i).active) (h : Keeps s t) :
    Keeps s (setInput i v t) := by
  refine h.trans { senses := fun fn => ?_ }
  have sense : ∀ j, (inputAt (setInput i v t) j).active = (inputAt t j).active := by
    intro j
    rw [inputAt_setInput]
    split
    · next e => rw [e, same]
    · rfl
  have cfg : ∀ j, inputCfg (setInput i v t) j = inputCfg t j := fun _ => rfl
  simp only [inputActive, sense, cfg]

theorem keeps_tickLines (h : Keeps s t) : Keeps s (tickLines t) :=
  keeps_foldl (fun _ _ => keeps_setOutput) _ (keeps_foldl (fun _ _ k => keeps_setInput (by simp [tickInput]) k) _ h)

theorem keeps_passMs (h : Keeps s t) : Keeps s (passMs t) := by
  have moved : Keeps s (moveTransport t) := keeps_entriesMove rfl rfl (fun _ => ⟨rfl, rfl⟩) h
  have shown : Keeps s (showStall (moveTransport t)) := by
    unfold showStall
    split
    · exact keeps_foldl (fun _ _ => keeps_writeStall) _ moved
    · exact moved
  exact keeps_modLnk (le_max_right _ _) (keeps_modTrc (keeps_modWou rfl rfl (keeps_modExu (keeps_tickLines shown))))

theorem keeps_idle (h : Keeps s t) : Keeps s (idle t) := by
  unfold idle
  split
  · split
    · exact keeps_queued h
    · split
      · exact keeps_queued h
      · exact keeps_queued (keeps_passMs h)
  · exact h

/-! ### The laws of the loading, the buffers and the table, without the interlocks -/

/-- The three laws carry over from `s` to `t`. -/
structure LawsCarry (s t : State) : Prop where
  loading : LoadingKept s → LoadingKept t := by exact fun h => h.of_eq (by simp) (by simp)
  buffers : BuffersBounded s → BuffersBounded t := by exact fun h => h.of_eq (by simp) (by simp) (by simp)
  table : TableLawful s → TableLawful t := by exact fun h => h.of_eq (by simp) (by simp)

namespace LawsCarry
variable {u : State}

theorem refl (s : State) : LawsCarry s s := {}

theorem trans (h : LawsCarry s t) (g : LawsCarry t u) : LawsCarry s u :=
  ⟨fun k => g.loading (h.loading k), fun k => g.buffers (h.buffers k), fun k => g.table (h.table k)⟩

end LawsCarry

theorem Keeps.laws (h : Keeps s t) : LawsCarry s t := ⟨h.loading, h.buffers, h.table⟩

theorem lawsCarry_flipInput (i : Fin 12) (s : State) : LawsCarry s (flipInput i s) := by
  have flipped : LawsCarry s (flipped i s) :=
    ⟨fun h => h.of_eq rfl rfl, fun h => h.of_eq rfl rfl rfl, fun h => h.of_eq rfl rfl⟩
  exact flipped.trans (keeps_deliver (.refl _)).laws

theorem lawsCarry_rawChange (i : Fin 12) (energised : Bool) (s : State) : LawsCarry s (rawChange i energised s) := by
  have raw : LawsCarry s (setInput i { inputAt s i with raw := energised } s) := {}
  unfold rawChange
  dsimp only
  split
  · exact .refl s
  · split
    · exact raw.trans {}
    · split
      · exact raw.trans (lawsCarry_flipInput i _)
      · exact raw.trans {}

theorem lawsCarry_debounceEnd (i : Fin 12) (s : State) : LawsCarry s (debounceEnd i s) := by
  unfold debounceEnd
  split
  · exact lawsCarry_flipInput i s
  · exact .refl s

theorem lawsCarry_losePower (s : State) : LawsCarry s (losePower s) := by
  have free : ∀ k, plateAt (losePower s) k = none := fun k => by simp [plateAt, losePower, State.blank]
  refine ⟨fun _ => ⟨by simp [losePower, State.blank], rfl⟩,
    fun _ => ⟨by simp [losePower, State.blank], by simp [losePower, State.blank], fun k r found => by simp [free] at found⟩,
    fun _ => ⟨fun j k p q found => by simp [free] at found, by simp [losePower, State.blank], fun k => ?_,
      by simp [losePower, State.blank]⟩⟩
  have empty : (losePower s).ptb.queue = [] := rfl
  simp [plateState, free, empty]

theorem lawsCarry_powerUp (levels : BitVec 12) (s : State) : LawsCarry s (powerUp levels s) := by
  have loaded : LawsCarry { losePower s with powered := true } (loadSettings { losePower s with powered := true }) := {}
  have read : LawsCarry (loadSettings { losePower s with powered := true })
      (allInputs.foldl (readInput levels) (handOverWatchdog (loadSettings { losePower s with powered := true }))) := {}
  have counted : ∀ u : State, LawsCarry u (loadCounters u) := fun u => {}
  have powered : LawsCarry s { losePower s with powered := true } := (lawsCarry_losePower s).trans
    ⟨fun h => h.of_eq rfl rfl, fun h => h.of_eq rfl rfl rfl, fun h => h.of_eq rfl rfl⟩
  exact powered.trans (loaded.trans (read.trans ((counted _).trans (keeps_testLampLife (.refl _)).laws)))

theorem lawsCarry_applyInputs (lines : List (Fin 12)) (before s : State) : LawsCarry s (applyInputs lines before s) := by
  have settled : LawsCarry s (lines.foldl (resettleInput before) s) := {}
  exact settled.trans (keeps_foldl (fun _ _ => keeps_deliver) _ (.refl _)).laws

/-- The state with the carried groups of a CONFIG_WRITE stored, before they are handed on (R36). -/
def configStored (g : ConfigGroups) (s : State) : State :=
  markUnsaved (modRss (fun r => { r with working := { r.working with cfg := storeConfig g r.working.cfg } }) s)

/-- The state with the carried output lines settled as well (R163). -/
def outputsSettled (g : ConfigGroups) (s : State) : State := (carriedOutputs g).foldl resettleOutput (configStored g s)

theorem applyConfig_eq (g : ConfigGroups) (s : State) : applyConfig g s =
    announceEnabled (attnEnabled s) (attnEnabled (configStored g s))
      (handWatchdog g (applyInputs (carriedInputs g) s (outputsSettled g s))) := rfl

theorem keeps_outputsSettled (g : ConfigGroups) (s : State) : Keeps (configStored g s) (outputsSettled g s) :=
  keeps_foldl (fun _ _ => keeps_resettleOutput) _ (.refl _)

theorem lawsCarry_applyConfig (g : ConfigGroups) (s : State) : LawsCarry s (applyConfig g s) := by
  have stored : LawsCarry s (configStored g s) :=
    ⟨fun h => h.of_eq rfl rfl, fun h => h.of_eq rfl rfl rfl, fun h => h.of_eq rfl rfl⟩
  rw [applyConfig_eq]
  exact stored.trans ((keeps_outputsSettled g s).laws.trans ((lawsCarry_applyInputs _ _ _).trans
    (keeps_announceEnabled (keeps_handWatchdog (.refl _))).laws))

theorem lawsCarry_actConfigWrite (body : List Byte) (s : State) : LawsCarry s (actConfigWrite body s).1 := by
  unfold actConfigWrite actConfigGroups
  split
  · split
    · exact lawsCarry_applyConfig _ s
    · exact .refl s
  · exact .refl s

theorem lawsCarry_event {act : State → State} (acts : LawsCarry s (act s)) (h : event act s = .next t) :
    LawsCarry s t := by
  unfold event at h
  split at h <;> cases h
  · exact acts
  · exact .refl s

/-- Every command carries the three laws over. -/
theorem exec_lawsCarry {c : Instr} (h : exec c s = .next t) : LawsCarry s t := by
  by_cases quiet : rewires c = false
  · exact (exec_keeps quiet h).laws
  · cases c <;> first | exact absurd rfl quiet | skip
    case powerOn levels =>
      cases h
      exact lawsCarry_powerUp levels s
    case powerLoss => exact lawsCarry_event (lawsCarry_losePower s) h
    case rawInputChange line energised => exact lawsCarry_event (lawsCarry_rawChange line energised s) h
    case debounceExpiry line => exact lawsCarry_event (lawsCarry_debounceEnd line s) h
    case configWrite tag body =>
      have h : eventIf (bodyInFrame body) (serveRequest ⟨kindConfigWrite, tag, body⟩ (actConfigWrite body)) s = .next t := h
      unfold eventIf at h
      split at h
      · refine lawsCarry_event ?_ h
        unfold serveRequest serveEntry
        split
        · have served : LawsCarry s (serving (.frame ⟨kindConfigWrite, tag, body⟩) s) :=
            (keeps_modLnk (le_max_right _ _) (.refl s)).laws
          split
          · exact served.trans ((lawsCarry_actConfigWrite body _).trans (keeps_finishEntry (.refl _)).laws)
          · exact served.trans (keeps_finishEntry (.refl _)).laws
        · exact (keeps_holdEntry (.refl s)).laws
      · cases h

/-- Every step carries the three laws over. -/
theorem step_lawsCarry (h : step s = .next t) : LawsCarry s t := by
  unfold step at h
  split at h
  · cases h
    exact (keeps_idle (.refl s)).laws
  · next c rest _ => exact LawsCarry.trans (keeps_queued (q := rest) (.refl s)).laws (exec_lawsCarry h)

/-- Settles O57: every step carries the account of the transport list over. -/
theorem stepsKeepTheLoading : Obligations.StepsKeepTheLoading := by
  unfold Obligations.StepsKeepTheLoading
  exact fun _ _ kept h => (step_lawsCarry h).loading kept

/-- Settles O58: every step carries the bounds of the buffers over. -/
theorem stepsKeepTheBuffers : Obligations.StepsKeepTheBuffers := by
  unfold Obligations.StepsKeepTheBuffers
  exact fun _ _ kept h => (step_lawsCarry h).buffers kept

/-- Settles O59: every step carries the laws of the plate table over. -/
theorem stepsKeepTheTable : Obligations.StepsKeepTheTable := by
  unfold Obligations.StepsKeepTheTable
  exact fun _ _ kept h => (step_lawsCarry h).table kept

end Sys2Proof.Machine
end

section
/-! SUPPORT. Every step keeps the interlocks and the line state's law: what a changed input line asks to be turned off is
turned off when the change is delivered, and STOPPED follows the inhibit. The settlements of O56 and O60 (R35, R168, R169,
R173). -/

namespace Sys2Proof.Machine
variable {s t u : State}

/-! ### What the interlocks ask (R168, R169) -/

/-- No drive channel and no lamp channel is ON. -/
def AllOff (s : State) : Prop := (∀ c, driveIsOn c s = false) ∧ ∀ c, lampLevel c s = none

/-- The exposure lamps are OFF. -/
def ExposureOff (s : State) : Prop := lampLevel .back s = none ∧ lampLevel .main s = none

theorem interlocked_iff : Interlocked s ↔
    (inhibitActive s = true → AllOff s) ∧ (inputActive .exuLid s = true → ExposureOff s) :=
  ⟨fun h => ⟨fun active => ⟨h.drives active, h.lamps active⟩, h.lid⟩,
   fun ⟨off, lid⟩ => ⟨fun active => (off active).1, fun active => (off active).2, lid⟩⟩

theorem Keeps.allOff (k : Keeps s t) (active : inhibitActive s = true) (off : AllOff s) : AllOff t := by
  refine ⟨fun c => ?_, fun c => ?_⟩
  · by_contra on
    rcases k.drives c (by simpa using on) with was | open_
    · simp [off.1 c] at was
    · simp [active] at open_
  · by_contra on
    rcases k.lamps c (Option.isSome_iff_ne_none.2 on) with was | may
    · simp [lampIsOn, off.2 c] at was
    · simp [lampRefused, active] at may

theorem Keeps.exposureOff (k : Keeps s t) (opened : inputActive .exuLid s = true) (off : ExposureOff s) :
    ExposureOff t := by
  constructor <;> by_contra on
  · rcases k.lamps .back (Option.isSome_iff_ne_none.2 on) with was | may
    · simp [lampIsOn, off.1] at was
    · simp [lampRefused, opened] at may
  · rcases k.lamps .main (Option.isSome_iff_ne_none.2 on) with was | may
    · simp [lampIsOn, off.2] at was
    · simp [lampRefused, opened] at may

/-! ### All channels forced off (R169 step 1) -/

theorem drive_forceDrive (s : State) (c d : DriveChannel) : (forceDrive s c).lio.drives.get d =
    if d = c ∧ driveIsOn d s = true then { state := .off, forced := true } else s.lio.drives.get d := by
  unfold forceDrive
  split
  · next on =>
    simp only [setDrive, modLio_lio, PerDrive.get_set]
    by_cases e : d = c
    · subst e
      simp [on]
    · simp [e]
  · next off =>
    by_cases e : d = c
    · subst e
      simp [off]
    · simp [e]

theorem drive_foldl_forceDrive (l : List DriveChannel) (s : State) (d : DriveChannel) :
    (l.foldl forceDrive s).lio.drives.get d =
      if d ∈ l ∧ driveIsOn d s = true then { state := .off, forced := true } else s.lio.drives.get d := by
  induction l generalizing s with
  | nil => simp
  | cons c l ih =>
    have now : driveIsOn d (forceDrive s c) = (decide (d ≠ c) && driveIsOn d s) := by
      unfold driveIsOn driveState
      rw [drive_forceDrive]
      by_cases e : d = c <;> cases on : driveIsOn d s <;> simp [e]
      · subst e
        simpa [driveIsOn, driveState] using on
    rw [List.foldl_cons, ih, now, drive_forceDrive]
    by_cases e : d = c <;> simp [e]

theorem lamp_forceLamp (s : State) (c d : LampChannel) : (forceLamp s c).lio.lamps.get d =
    if d = c ∧ lampIsOn d s = true then { level := none, forced := true } else s.lio.lamps.get d := by
  have refresh : ∀ u : State, (refreshOutputs u).lio.lamps = u.lio.lamps := fun u => by simp
  unfold forceLamp
  split
  · next on =>
    simp only [refresh, setLamp, modLio_lio, PerLamp.get_set]
    by_cases e : d = c
    · subst e
      simp [on]
    · simp [e]
  · next off =>
    by_cases e : d = c
    · subst e
      simp [off]
    · simp [e]

theorem lamp_foldl_forceLamp (l : List LampChannel) (s : State) (d : LampChannel) :
    (l.foldl forceLamp s).lio.lamps.get d =
      if d ∈ l ∧ lampIsOn d s = true then { level := none, forced := true } else s.lio.lamps.get d := by
  induction l generalizing s with
  | nil => simp
  | cons c l ih =>
    have now : lampIsOn d (forceLamp s c) = (decide (d ≠ c) && lampIsOn d s) := by
      unfold lampIsOn lampLevel
      rw [lamp_forceLamp]
      by_cases e : d = c <;> cases on : lampIsOn d s <;> simp [e]
      · subst e
        simpa [lampIsOn, lampLevel] using on
    rw [List.foldl_cons, ih, now, lamp_forceLamp]
    by_cases e : d = c <;> simp [e]

theorem drive_forceAllOff (s : State) (d : DriveChannel) : (forceAllOff s).lio.drives.get d =
    if driveIsOn d s = true then { state := .off, forced := true } else s.lio.drives.get d := by
  have lamps : (forceAllOff s).lio.drives = (driveChannels.foldl forceDrive s).lio.drives := by
    unfold forceAllOff
    simp
  have every : d ∈ driveChannels := by cases d <;> decide
  rw [lamps, drive_foldl_forceDrive]
  simp [every]

theorem lamp_forceAllOff (s : State) (c : LampChannel) : (forceAllOff s).lio.lamps.get c =
    if lampIsOn c s = true then { level := none, forced := true } else s.lio.lamps.get c := by
  have drives : (driveChannels.foldl forceDrive s).lio.lamps = s.lio.lamps := by simp
  have every : c ∈ lampChannels := by cases c <;> decide
  rw [forceAllOff, lamp_foldl_forceLamp, lampIsOn_congr drives, drives]
  simp [every]

theorem forceAllOff_allOff (s : State) : AllOff (forceAllOff s) := by
  refine ⟨fun c => ?_, fun c => ?_⟩
  · have : driveState c (forceAllOff s) = _ := congrArg Drive.state (drive_forceAllOff s c)
    unfold driveIsOn
    rw [this]
    cases on : driveIsOn c s
    · simpa [driveIsOn, driveState] using on
    · simp
  · have : lampLevel c (forceAllOff s) = _ := congrArg Lamp.level (lamp_forceAllOff s c)
    rw [this]
    cases on : lampIsOn c s
    · simpa [lampIsOn, lampLevel] using on
    · simp

theorem inhibitOn_allOff (active : inhibitActive s = true) : AllOff (inhibitOn s) := by
  have forced := keeps_forceAllOff (.refl s)
  have after : Keeps (forceAllOff s) (inhibitOn s) := keeps_ownersHearInhibit (keeps_stopLine (.refl _))
  exact after.allOff (forced.inhibit.trans active) (forceAllOff_allOff s)

theorem lidOpened_exposureOff (opened : inputActive .exuLid s = true) : ExposureOff (lidOpened s) := by
  have put : Keeps s (lampOff .main (lampOff .back s)) := keeps_lampOff (keeps_lampOff (.refl s))
  have after : Keeps (lampOff .main (lampOff .back s)) (lidOpened s) :=
    keeps_exuLidChange (keeps_pauseSegment (keeps_pauseSegment (.refl _)))
  exact after.exposureOff ((put.senses _).trans opened) ⟨by simp [lampLevel_lampOff], by simp [lampLevel_lampOff]⟩

/-! ### A changed line (R159, R160) -/

theorem inputActive_iff {fn : InputFunction} {s : State} :
    inputActive fn s = true ↔ ∃ i, (inputCfg s i).function = fn ∧ (inputAt s i).active = true := by
  simp [inputActive, allInputs]

/-- A function that becomes active with line `i` is carried by it. -/
theorem gained_by_line {fn : InputFunction} {i : Fin 12} (now : inputActive fn (flipped i s) = true)
    (before : inputActive fn s = false) : (inputCfg s i).function = fn ∧ (inputAt s i).active = false := by
  obtain ⟨j, carries, active⟩ := inputActive_iff.1 now
  have at_j : inputAt (flipped i s) j =
      if j = i then ⟨(inputAt s i).raw, !(inputAt s i).active, none⟩ else inputAt s j :=
    inputAt_setInput i j _ s
  have not_j : ¬ ((inputCfg s j).function = fn ∧ (inputAt s j).active = true) := fun h => by
    rw [inputActive_iff.2 ⟨j, h⟩] at before
    cases before
  by_cases e : j = i
  · subst e
    rw [at_j] at active
    exact ⟨carries, by simpa using active⟩
  · rw [at_j, if_neg e] at active
    exact absurd ⟨carries, active⟩ not_j

theorem interlocked_flipInput (i : Fin 12) (safe : Interlocked s) : Interlocked (flipInput i s) := by
  obtain ⟨inhibited, lid⟩ := interlocked_iff.1 safe
  have delivered : Keeps (flipped i s) (flipInput i s) := keeps_deliver (.refl _)
  refine interlocked_iff.2 ⟨fun active => ?_, fun opened => ?_⟩
  · have active := (delivered.inhibit).symm.trans active
    cases before : inhibitActive s
    · obtain ⟨carries, was⟩ := gained_by_line active before
      rw [flipInput_eq, carries, was]
      exact inhibitOn_allOff active
    · exact delivered.allOff active (inhibited before)
  · have opened := (delivered.senses _).symm.trans opened
    cases before : inputActive .exuLid s
    · obtain ⟨carries, was⟩ := gained_by_line opened before
      rw [flipInput_eq, carries, was]
      exact lidOpened_exposureOff opened
    · exact delivered.exposureOff opened (lid before)

theorem interlocked_rawChange (i : Fin 12) (energised : Bool) (safe : Interlocked s) :
    Interlocked (rawChange i energised s) := by
  have raw : ∀ r timer, Keeps s (setInput i { raw := r, active := (inputAt s i).active, timer := timer } s) :=
    fun _ _ => keeps_setInput rfl (.refl s)
  have again : ∀ r timer r' timer', Keeps s (setInput i { raw := r', active := (inputAt s i).active, timer := timer' }
      (setInput i { raw := r, active := (inputAt s i).active, timer := timer } s)) := fun r timer r' timer' =>
    keeps_setInput (by simp [inputAt_setInput]) (raw r timer)
  unfold rawChange
  dsimp only
  split
  · exact safe
  · split
    · exact (again _ _ _ _).interlocked safe
    · split
      · exact interlocked_flipInput i ((raw _ _).interlocked safe)
      · exact (again _ _ _ _).interlocked safe

/-! ### Several changes delivered one after the other (R161) -/

/-- The changes delivered one after the other. -/
def deliverAll (l : List (InputFunction × Bool)) (s : State) : State := l.foldl (fun t c => deliver c.1 c.2 t) s

theorem keeps_deliverAll (l : List (InputFunction × Bool)) (h : Keeps s t) : Keeps s (deliverAll l t) :=
  keeps_foldl (fun _ _ => keeps_deliver) l h

theorem deliverAll_append (l m : List (InputFunction × Bool)) (s : State) :
    deliverAll (l ++ m) s = deliverAll m (deliverAll l s) := List.foldl_append

theorem deliverAll_allOff {l : List (InputFunction × Bool)} (change : (.inhibit, true) ∈ l)
    (active : inhibitActive s = true) : AllOff (deliverAll l s) := by
  obtain ⟨before, after, rfl⟩ := List.append_of_mem change
  have here : inhibitActive (deliverAll before s) = true := (keeps_deliverAll before (.refl s)).inhibit.trans active
  have off : AllOff (deliver .inhibit true (deliverAll before s)) := inhibitOn_allOff here
  rw [deliverAll_append]
  exact Keeps.allOff (keeps_deliverAll after (.refl _)) ((keeps_deliver (.refl _)).inhibit.trans here) off

theorem deliverAll_exposureOff {l : List (InputFunction × Bool)} (change : (.exuLid, true) ∈ l)
    (opened : inputActive .exuLid s = true) : ExposureOff (deliverAll l s) := by
  obtain ⟨before, after, rfl⟩ := List.append_of_mem change
  have here : inputActive .exuLid (deliverAll before s) = true :=
    ((keeps_deliverAll before (.refl s)).senses _).trans opened
  have off : ExposureOff (deliver .exuLid true (deliverAll before s)) := lidOpened_exposureOff here
  rw [deliverAll_append]
  exact Keeps.exposureOff (keeps_deliverAll after (.refl _)) (((keeps_deliver (.refl _)).senses _).trans here) off

theorem mem_changedFunctions {before after : State} {fn : InputFunction} (carried : fn ∈ inputFunctions)
    (was : inputActive fn before = false) (now : inputActive fn after = true) :
    (fn, true) ∈ changedFunctions before after := by
  refine List.mem_map.2 ⟨fn, List.mem_filter.2 ⟨carried, ?_⟩, ?_⟩
  · simp [was, now]
  · simp [now]

/-- The carried input lines applied, with drives and lamps as they were before the write. -/
theorem interlocked_applyInputs {before : State} (lines : List (Fin 12)) (safe : Interlocked before)
    (drives : s.lio.drives = before.lio.drives) (lamps : s.lio.lamps = before.lio.lamps) :
    Interlocked (applyInputs lines before s) := by
  obtain ⟨inhibited, lid⟩ := interlocked_iff.1 safe
  have drives' : (lines.foldl (resettleInput before) s).lio.drives = before.lio.drives := by simpa using drives
  have lamps' : (lines.foldl (resettleInput before) s).lio.lamps = before.lio.lamps := by simpa using lamps
  generalize settled : lines.foldl (resettleInput before) s = u at drives' lamps'
  have applied : applyInputs lines before s = deliverAll (changedFunctions before u) u := by rw [← settled]; rfl
  have delivered := keeps_deliverAll (changedFunctions before u) (.refl u)
  rw [applied]
  refine interlocked_iff.2 ⟨fun active => ?_, fun opened => ?_⟩
  · have active := delivered.inhibit.symm.trans active
    cases was : inhibitActive before
    · exact deliverAll_allOff (mem_changedFunctions (by decide) was active) active
    · obtain ⟨d, l⟩ := inhibited was
      exact delivered.allOff active ⟨fun c => (driveIsOn_congr drives' c).trans (d c),
        fun c => (lampLevel_congr lamps' c).trans (l c)⟩
  · have opened := (delivered.senses _).symm.trans opened
    cases was : inputActive .exuLid before
    · exact deliverAll_exposureOff (mem_changedFunctions (by decide) was opened) opened
    · obtain ⟨back, main⟩ := lid was
      exact delivered.exposureOff opened ⟨(lampLevel_congr lamps' _).trans back, (lampLevel_congr lamps' _).trans main⟩

theorem interlocked_actConfigWrite (body : List Byte) (safe : Interlocked s) :
    Interlocked (actConfigWrite body s).1 := by
  have applied : ∀ g, Interlocked (applyConfig g s) := by
    intro g
    have lio : (configStored g s).lio = s.lio := rfl
    rw [applyConfig_eq]
    refine (keeps_announceEnabled (keeps_handWatchdog (.refl _))).interlocked (interlocked_applyInputs _ safe ?_ ?_)
    · unfold outputsSettled
      simp [lio]
    · unfold outputsSettled
      simp [lio]
  unfold actConfigWrite actConfigGroups
  split
  · split
    · exact applied _
    · exact safe
  · exact safe

/-! ### Power (R165, R168) -/

theorem allOff_of_blank (drives : s.lio.drives = State.blank.lio.drives) (lamps : s.lio.lamps = State.blank.lio.lamps) :
    AllOff s :=
  ⟨fun c => by cases c <;> simp [driveIsOn, driveState, drives, State.blank, perDrive, PerDrive.get],
   fun c => by cases c <;> simp [lampLevel, lamps, State.blank, perLamp, PerLamp.get]⟩

theorem interlocked_of_allOff (off : AllOff s) : Interlocked s := ⟨fun _ => off.1, fun _ => off.2, fun _ => ⟨off.2 _, off.2 _⟩⟩

theorem interlocked_powerUp (levels : BitVec 12) (s : State) : Interlocked (powerUp levels s) := by
  refine interlocked_of_allOff (allOff_of_blank ?_ ?_)
  · simp [powerUp, losePower]
  · simp [powerUp, losePower]

/-! ### Every step keeps the interlocks -/

theorem interlocked_event {act : State → State} (acts : Interlocked (act s)) (safe : Interlocked s)
    (h : event act s = .next t) : Interlocked t := by
  unfold event at h
  split at h <;> cases h
  · exact acts
  · exact safe

theorem exec_interlocked {c : Instr} (safe : Interlocked s) (h : exec c s = .next t) : Interlocked t := by
  by_cases quiet : rewires c = false
  · exact (exec_keeps quiet h).interlocked safe
  · cases c <;> first | exact absurd rfl quiet | skip
    case powerOn levels =>
      cases h
      exact interlocked_powerUp levels s
    case powerLoss => exact interlocked_event (interlocked_of_allOff (allOff_of_blank rfl rfl)) safe h
    case rawInputChange line energised => exact interlocked_event (interlocked_rawChange line energised safe) safe h
    case debounceExpiry line =>
      refine interlocked_event ?_ safe h
      unfold debounceEnd
      split
      · exact interlocked_flipInput line safe
      · exact safe
    case configWrite tag body =>
      have h : eventIf (bodyInFrame body) (serveRequest ⟨kindConfigWrite, tag, body⟩ (actConfigWrite body)) s = .next t := h
      unfold eventIf at h
      split at h
      · refine interlocked_event ?_ safe h
        unfold serveRequest serveEntry
        split
        · have served : Keeps s (serving (.frame ⟨kindConfigWrite, tag, body⟩) s) :=
            keeps_modLnk (le_max_right _ _) (.refl s)
          split
          · exact (keeps_finishEntry (.refl _)).interlocked (interlocked_actConfigWrite body (served.interlocked safe))
          · exact (keeps_finishEntry served).interlocked safe
        · exact (keeps_holdEntry (.refl s)).interlocked safe
      · cases h

/-- Settles O56: the case split of a step into a command and the idle step. -/
theorem stepsKeepTheInterlocks : Obligations.StepsKeepTheInterlocks := by
  unfold Obligations.StepsKeepTheInterlocks
  intro s t safe h
  unfold step at h
  split at h
  · cases h
    exact (keeps_idle (.refl s)).interlocked safe
  · next c rest _ => exact exec_interlocked ((keeps_queued (q := rest) (.refl s)).interlocked safe) h

end Sys2Proof.Machine
end

section
/-! SUPPORT. Every step keeps the configuration checked and STOPPED tied to the inhibit: the settlement of O60
(R35, R169, R173). -/

namespace Sys2Proof.Machine
variable {s t u : State}

/-! ### The checked configuration (R35) -/

/-- The working copy and both banks pass the checks on input lines. -/
structure Configured (s : State) : Prop where
  working : configConsistent s.rss.working.cfg = true
  bankA : configConsistent s.rss.bankA.settings.cfg = true
  bankB : configConsistent s.rss.bankB.settings.cfg = true

theorem LineLawful.configured (h : LineLawful s) : Configured s := ⟨h.working, h.bankA, h.bankB⟩

theorem Configured.bank (h : Configured s) (n : BankName) : configConsistent (bank n s.rss).settings.cfg = true := by
  cases n
  · exact h.bankA
  · exact h.bankB

/-- The checks read the input lines alone. -/
theorem configConsistent_congr {c d : LineConfig} (same : c.inputs = d.inputs) :
    configConsistent c = configConsistent d := by
  unfold configConsistent linesWith
  rw [same]

theorem Configured.of_inputs (working : t.rss.working.cfg.inputs = s.rss.working.cfg.inputs)
    (bankA : t.rss.bankA.settings.cfg.inputs = s.rss.bankA.settings.cfg.inputs)
    (bankB : t.rss.bankB.settings.cfg.inputs = s.rss.bankB.settings.cfg.inputs) (h : Configured s) : Configured t :=
  ⟨(configConsistent_congr working).trans h.working, (configConsistent_congr bankA).trans h.bankA,
   (configConsistent_congr bankB).trans h.bankB⟩

/-- In a checked configuration line 1 alone carries INHIBIT. -/
theorem inhibit_line (checked : configConsistent s.rss.working.cfg = true) (i : Fin 12) :
    (inputCfg s i).function = .inhibit ↔ i = 0 := by
  simp only [configConsistent, Bool.and_eq_true, beq_iff_eq, List.all_eq_true, decide_eq_true_eq] at checked
  obtain ⟨⟨first, -⟩, once⟩ := checked
  have one := once .inhibit (by decide)
  constructor
  · intro carries
    by_contra other
    have two : [i, 0].Subperm ((allInputs.filter (fun i => s.rss.working.cfg.inputs[i.val].function == .inhibit))) := by
      refine List.subperm_of_subset (by simpa using other) fun j hj => ?_
      obtain rfl | rfl : j = i ∨ j = 0 := by simpa using hj
      · exact List.mem_filter.2 ⟨by simp [allInputs], by simpa [inputCfg] using carries⟩
      · exact List.mem_filter.2 ⟨by simp [allInputs], by simpa using first⟩
    have := two.length_le
    have short : (allInputs.filter (fun i => s.rss.working.cfg.inputs[i.val].function == .inhibit)).length ≤ 1 := one
    simp at this
    omega
  · rintro rfl
    exact first

theorem inhibitActive_eq (checked : configConsistent s.rss.working.cfg = true) :
    inhibitActive s = (inputAt s 0).active := by
  have : inhibitActive s = true ↔ (inputAt s 0).active = true :=
    inputActive_iff.trans ⟨fun ⟨i, carries, active⟩ => (inhibit_line checked i).1 carries ▸ active,
      fun active => ⟨0, (inhibit_line checked 0).2 rfl, active⟩⟩
  exact Bool.eq_iff_iff.2 this

/-! ### Steps that leave the line state -/

/-- From `s` to `t` the configuration stays checked and the line state stands. -/
structure LineStays (s t : State) : Prop where
  configured : Configured s → Configured t := by exact Configured.of_inputs (by simp) (by simp) (by simp)
  line : t.flt.lineState = s.flt.lineState := by simp

theorem LineStays.trans (h : LineStays s t) (g : LineStays t u) : LineStays s u :=
  ⟨fun k => g.configured (h.configured k), g.line.trans h.line⟩

theorem LineStays.lawful (h : LineStays s t) (inhibit : inhibitActive t = inhibitActive s) (lawful : LineLawful s) :
    LineLawful t := by
  obtain ⟨working, bankA, bankB⟩ := h.configured lawful.configured
  refine ⟨working, bankA, bankB, ?_⟩
  rw [h.line, inhibit]
  exact lawful.stopped

theorem lineStays_event {act : State → State} (acts : LineStays s (act s)) (h : event act s = .next t) :
    LineStays s t := by
  unfold event at h
  split at h <;> cases h
  · exact acts
  · exact {}

theorem lineStays_eventIf {ok : Bool} {act : State → State} (acts : LineStays s (act s))
    (h : eventIf ok act s = .next t) : LineStays s t := by
  unfold eventIf at h
  split at h
  · exact lineStays_event acts h
  · cases h

theorem lineStays_serveEntry {e : RxEntry} {act : State → State} (acts : ∀ u, LineStays u (act u)) :
    LineStays s (serveEntry e act s) := by
  have served : LineStays s (modLnk (fun l => { l with inService := some e }) s) := {}
  unfold serveEntry
  split
  · exact served.trans (acts _)
  · exact {}

theorem lineStays_request {kind tag : Byte} {body : List Byte} {act : State → State × Reply}
    (acts : ∀ u, LineStays u (act u).1) (h : request kind tag body act s = .next t) : LineStays s t := by
  refine lineStays_eventIf (lineStays_serveEntry fun u => ?_) h
  dsimp only
  split
  · exact (acts u).trans {}
  · exact {}

theorem lineStays_onPlate {body : List Byte} {act : Slot → PlateRecord → State → State × Reply}
    (acts : ∀ k r t, (act k r t).1.rss.working = t.rss.working ∧ (act k r t).1.rss.bankA = t.rss.bankA
      ∧ (act k r t).1.rss.bankB = t.rss.bankB ∧ (act k r t).1.flt.lineState = t.flt.lineState) (u : State) :
    LineStays u (onPlate body act u).1 := by
  have working := onPlate_keeps (fun t => t.rss.working) body act u fun k r t => (acts k r t).1
  have bankA := onPlate_keeps (fun t => t.rss.bankA) body act u fun k r t => (acts k r t).2.1
  have bankB := onPlate_keeps (fun t => t.rss.bankB) body act u fun k r t => (acts k r t).2.2.1
  have line := onPlate_keeps (fun t => t.flt.lineState) body act u fun k r t => (acts k r t).2.2.2
  exact ⟨Configured.of_inputs (by rw [working]) (by rw [bankA]) (by rw [bankB]), line⟩

theorem lineStays_sample (ch : LampChannel) (raw : Nat) (s : State) : LineStays s (sample ch raw s) := by
  have sampled : LineStays s (takeSample ch raw s).1 := {}
  unfold sample
  split
  · next s1 taken =>
    rw [taken] at sampled
    exact sampled
  · next s1 ending taken =>
    rw [taken] at sampled
    have ends : ∀ ch, LineStays s1 (exuRunEnding ch ending s1) ∧ LineStays s1 (lfnRunEnding ch ending s1) :=
      fun ch => ⟨{}, {}⟩
    cases ch
    · exact sampled.trans (ends _).1
    · exact sampled.trans (ends _).1
    · exact sampled.trans (ends _).2
    · exact sampled.trans (ends _).2

theorem lineStays_readReply (fields : State → List Byte) (s : State) : LineStays s (readReply fields s).1 :=
  ⟨fun h => h, rfl⟩

theorem lineStays_setRecipe (i : Fin 24) (r : Option Recipe) (s : State) : LineStays s (setRecipe i r s) :=
  ⟨Configured.of_inputs rfl rfl rfl, rfl⟩

theorem lineStays_actRecipeWrite (body : List Byte) (s : State) : LineStays s (actRecipeWrite body s).1 := by
  unfold actRecipeWrite
  dsimp only
  split
  · split
    · exact lineStays_setRecipe _ _ s
    · exact {}
  · exact {}

theorem lineStays_actRecipeDelete (body : List Byte) (s : State) : LineStays s (actRecipeDelete body s).1 := by
  unfold actRecipeDelete
  split
  · exact {}
  · split
    · exact {}
    · exact lineStays_setRecipe _ _ s

theorem lineStays_actCalWrite (body : List Byte) (s : State) : LineStays s (actCalWrite body s).1 := by
  have applied : ∀ g, LineStays s (applyCal g s) := fun g => by
    unfold applyCal
    exact ⟨Configured.of_inputs (by simp) (by simp) (by simp), by simp⟩
  unfold actCalWrite actCalGroups
  split
  · split
    · split
      · exact {}
      · exact applied _
    · exact {}
  · exact {}

theorem lineStays_actDryerSet (body : List Byte) (s : State) : LineStays s (actDryerSet body s).1 := by
  have stored : ∀ n, LineStays s (storeSetpoint n s) := fun _ => ⟨Configured.of_inputs rfl rfl rfl, rfl⟩
  unfold actDryerSet
  split
  · next n =>
    have carried : ∀ u : State, LineStays u (carrySetpoint (markUnsaved u)) := fun _ => {}
    exact (stored _).trans (carried _)
  · exact {}

theorem lineStays_actAttnEnable (body : List Byte) (s : State) : LineStays s (actAttnEnable body s).1 := by
  unfold actAttnEnable
  split
  · split
    · exact ⟨Configured.of_inputs (by simp [enableAttention]) (by simp [enableAttention]) (by simp [enableAttention]),
        by simp [enableAttention]⟩
    · exact {}
  · exact {}

theorem lineStays_commitMark (k : Slot) (s : State) : LineStays s (commitMark k s) := by
  unfold commitMark
  split
  · exact {}
  · dsimp only
    split
    · exact ⟨Configured.of_inputs (by simp) (by simp) (by simp), by simp⟩
    · exact {}

theorem configured_of_setBank {r : Store} {n : BankName} {b : Bank} (h : Configured s) (was : s.rss = r)
    (new : configConsistent b.settings.cfg = true) (bankA : t.rss.bankA = (setBank n b r).bankA)
    (bankB : t.rss.bankB = (setBank n b r).bankB) (working : t.rss.working = r.working) : Configured t := by
  subst was
  cases n
  · exact ⟨working ▸ h.working, bankA ▸ new, bankB ▸ h.bankB⟩
  · exact ⟨working ▸ h.working, bankA ▸ h.bankA, bankB ▸ new⟩

theorem lineStays_beginSave (tag : Byte) (s : State) : LineStays s (beginSave tag s) :=
  ⟨fun h => configured_of_setBank h rfl h.working rfl rfl (setBank_working ..), rfl⟩

theorem lineStays_endSave (verified : Bool) (s : State) : LineStays s (endSave verified s) := by
  unfold endSave
  split
  · exact {}
  · next sv _ =>
    have marked : LineStays s (modRss (fun r =>
        { setBank sv.bank { bank sv.bank r with valid := verified } r with save := none }) s) :=
      ⟨fun h => configured_of_setBank (n := sv.bank) (b := { bank sv.bank s.rss with valid := verified }) h rfl
        (h.bank sv.bank) rfl rfl (setBank_working ..), rfl⟩
    refine marked.trans ?_
    dsimp only
    split
    · exact {}
    · exact {}

/-! ### The commands that leave the line state -/

/-- The commands that may change the line state, beside those that rewire an input. -/
def movesLine : Instr → Bool
  | .startUpLoadFinished _ | .watchdogExpiry | .lineHold _ _ | .lineResume _ _ | .lineReset _ _ => true
  | _ => false

theorem exec_lineStays {c : Instr} (quiet : rewires c = false) (still : movesLine c = false) (h : exec c s = .next t) :
    LineStays s t := by
  cases c
  case powerOn | powerLoss | rawInputChange | debounceExpiry | configWrite => cases quiet
  case startUpLoadFinished | watchdogExpiry | lineHold | lineResume | lineReset => cases still
  case countersWriteEnd verified => exact lineStays_event {} h
  case outputHoldEnd line => exact lineStays_event {} h
  case overcurrentTrip channel => exact lineStays_event {} h
  case intakeTagArrival tag => exact lineStays_eventIf {} h
  case loadTimerExpiry => exact lineStays_event {} h
  case sampleArrival channel raw => exact lineStays_event (lineStays_sample _ _ s) h
  case gapMark slot => exact lineStays_event {} h
  case endMark slot => exact lineStays_event {} h
  case commitMark slot => exact lineStays_event (lineStays_commitMark slot s) h
  case exitMark => exact lineStays_event {} h
  case solventTempReading reading =>
    refine lineStays_event ?_ h
    split
    · exact {}
    · exact {}
  case replenishComplete =>
    refine lineStays_event ?_ h
    split
    · exact {}
    · exact {}
  case dryerReading reading =>
    refine lineStays_event ?_ h
    split
    · exact {}
    · exact {}
  case elevatorArrived => exact lineStays_event {} h
  case elevatorPickComplete => exact lineStays_event {} h
  case elevatorPlaceComplete => exact lineStays_event {} h
  case elevatorPhaseTimeout => exact lineStays_event {} h
  case finisherTagArrival tag => exact lineStays_eventIf {} h
  case setupDelayEnd => exact lineStays_event {} h
  case pushDwellEnd => exact lineStays_event {} h
  case handoffTimeout => exact lineStays_event {} h
  case frameComplete byte => exact lineStays_event {} h
  case badLengthEntry byte => exact lineStays_event {} h
  case byteReceived byte => exact lineStays_event {} h
  case byteGapTimeout => exact lineStays_event {} h
  case badCheck => exact lineStays_event (lineStays_serveEntry fun _ => {}) h
  case badLength frame =>
    cases frame
    · exact lineStays_event (lineStays_serveEntry fun _ => {}) h
    · exact lineStays_eventIf (lineStays_serveEntry fun _ => {}) h
  case unknownKind frame => exact lineStays_eventIf (lineStays_serveEntry fun _ => {}) h
  case txFrameDone => exact lineStays_event {} h
  case lineStatus tag body => exact lineStays_request (lineStays_readReply _) h
  case plateAdd tag body => exact lineStays_request (fun _ => {}) h
  case plateRead tag body => exact lineStays_request (lineStays_onPlate fun _ _ _ => by simp) h
  case plateAmend tag body => exact lineStays_request (fun _ => {}) h
  case plateCancel tag body => exact lineStays_request (lineStays_onPlate fun _ _ _ => by simp) h
  case queueRead tag body => exact lineStays_request (lineStays_readReply _) h
  case queueMove tag body => exact lineStays_request (lineStays_onPlate fun _ _ _ => by simp) h
  case plateResume tag body => exact lineStays_request (fun _ => {}) h
  case plateEject tag body => exact lineStays_request (lineStays_onPlate fun _ _ _ => by simp) h
  case plateRetire tag body => exact lineStays_request (lineStays_onPlate fun _ _ _ => by simp) h
  case recipeWrite tag body => exact lineStays_request (lineStays_actRecipeWrite body) h
  case recipeRead tag body => exact lineStays_request (fun _ => {}) h
  case recipeDelete tag body => exact lineStays_request (lineStays_actRecipeDelete body) h
  case calWrite tag body => exact lineStays_request (lineStays_actCalWrite body) h
  case calRead tag body => exact lineStays_request (lineStays_readReply _) h
  case configRead tag body => exact lineStays_request (lineStays_readReply _) h
  case storeSave tag body =>
    refine lineStays_eventIf (lineStays_serveEntry fun u => ?_) h
    split
    · exact lineStays_beginSave _ u
    · exact {}
  case storeSaveEnd verified => exact lineStays_event (lineStays_endSave verified s) h
  case solventRead tag body => exact lineStays_request (lineStays_readReply _) h
  case replenishNow tag body => exact lineStays_request (fun _ => {}) h
  case bathChanged tag body => exact lineStays_request (fun _ => {}) h
  case dryerSet tag body => exact lineStays_request (lineStays_actDryerSet body) h
  case dryerRead tag body => exact lineStays_request (lineStays_readReply _) h
  case faultRead tag body => exact lineStays_request (lineStays_readReply _) h
  case faultClear tag body => exact lineStays_request (fun _ => {}) h
  case faultMask tag body => exact lineStays_request (fun _ => {}) h
  case traceRead tag body => exact lineStays_request (fun _ => {}) h
  case traceClear tag body => exact lineStays_request (fun _ => {}) h
  case attnEnable tag body => exact lineStays_request (lineStays_actAttnEnable body) h
  case attnClear tag body => exact lineStays_request (fun _ => {}) h
  case outputSet tag body => exact lineStays_request (fun _ => {}) h

/-! ### A new line state (R172 to R178) -/

theorem lineLawful_of_line (configured : Configured t) (inhibit : inhibitActive t = inhibitActive s)
    (line : t.flt.lineState = .stopped ↔ inhibitActive s = true) : LineLawful t :=
  ⟨configured.working, configured.bankA, configured.bankB, fun _ => inhibit ▸ line⟩

theorem lineLawful_changeLine {new : LineState} {cause : Cause} (configured : Configured s)
    (tied : new = .stopped ↔ inhibitActive s = true) : LineLawful (changeLine new cause s) :=
  lineLawful_of_line (Configured.of_inputs (by simp) (by simp) (by simp) configured)
    (keeps_changeLine (.refl s)).inhibit (by simpa using tied)

theorem lineLawful_stays (lawful : LineLawful s) (stays : LineStays s t := by exact {}) (kept : Keeps s t) :
    LineLawful t := stays.lawful kept.inhibit lawful

theorem LineLawful.not_inhibited (lawful : LineLawful s) (moving : s.flt.lineState = .run ∨ s.flt.lineState = .safeHold) :
    inhibitActive s = false := by
  have tied := lawful.stopped (by rcases moving with h | h <;> simp [h])
  rcases moving with h | h <;> simpa [h] using tied

theorem lineLawful_lineHold (lawful : LineLawful s) : LineLawful (lineHold s) := by
  unfold lineHold
  split
  · next run => exact lineLawful_changeLine lawful.configured (by simp [lawful.not_inhibited (.inl run)])
  · exact lawful

theorem lineLawful_lineResume (lawful : LineLawful s) : LineLawful (lineResume s) := by
  unfold lineResume
  split
  · next held => exact lineLawful_changeLine lawful.configured (by simp [lawful.not_inhibited (.inr held)])
  · exact lawful

theorem lineLawful_setFlag {f : Flag} (lawful : LineLawful s) : LineLawful (setFlag f s) :=
  lineLawful_stays lawful (kept := keeps_setFlag (.refl s))

theorem lineLawful_linkLost (lawful : LineLawful s) : LineLawful (linkLost s) := by
  have flagged := lineLawful_setFlag (f := .linkLoss) lawful
  unfold linkLost
  dsimp only
  split
  · next run => exact lineLawful_changeLine flagged.configured (by simp [flagged.not_inhibited (.inl run)])
  · exact flagged

theorem lineLawful_resetLine (configured : Configured s) : LineLawful (resetLine s) := by
  have tied : (if inhibitActive s then LineState.stopped else LineState.run) = .stopped ↔ inhibitActive s = true := by
    cases inhibitActive s <;> simp
  unfold resetLine
  dsimp only
  generalize (if inhibitActive s then LineState.stopped else LineState.run) = new at tied
  split
  · next same =>
    exact lineLawful_of_line (s := s) (Configured.of_inputs (s := s) rfl rfl rfl configured) rfl (by rw [← tied, ← same]; rfl)
  · exact lineLawful_changeLine configured tied

theorem lineLawful_endInitLine (configured : Configured s) : LineLawful (endInitLine s) := by
  unfold endInitLine
  split
  · next active =>
    exact lineLawful_changeLine (Configured.of_inputs (by simp) (by simp) (by simp) configured)
      (by simp [(keeps_setFlag (f := .inhibit) (.refl s)).inhibit, active])
  · next idle => exact lineLawful_changeLine configured (by simp [idle])

theorem lineLawful_finishStartUp (level : Fin 8) (lawful : LineLawful s) : LineLawful (finishStartUp level s) := by
  have line := lineLawful_endInitLine (s := discardArming s)
    (Configured.of_inputs (s := s) rfl rfl rfl lawful.configured)
  unfold finishStartUp
  split
  · exact lineLawful_stays line (kept := keeps_takeNext (keeps_beginHoming (keeps_modTrc (keeps_modLfn
      (keeps_testHeater (keeps_endInitExu (.refl _)))))))
  · exact lawful

theorem lineLawful_watchdogEnd (lawful : LineLawful s) : LineLawful (watchdogEnd s) := by
  unfold watchdogEnd
  split
  · exact lineLawful_stays (lineLawful_linkLost lawful) (kept := keeps_modLnk (le_max_right _ _) (.refl _))
  · exact lawful

theorem lineLawful_actLineResume (lawful : LineLawful s) : LineLawful (actLineResume s).1 := by
  unfold actLineResume
  split
  · exact lawful
  · exact lineLawful_lineResume lawful

theorem lineLawful_actLineReset (lawful : LineLawful s) : LineLawful (actLineReset s).1 := by
  have reset : LineLawful (lineReset s) := by
    unfold lineReset
    exact lineLawful_resetLine (Configured.of_inputs (by simp) (by simp) (by simp) lawful.configured)
  unfold actLineReset
  split
  · exact reset
  · exact lawful

/-! ### What a changed line delivers (R160, R161, R173) -/

theorem stopLine_line (s : State) :
    (stopLine s).flt.lineState = if s.flt.lineState = .init then .init else .stopped := by
  unfold stopLine
  cases line : s.flt.lineState <;> simp [line]

theorem releaseLine_line (s : State) :
    (releaseLine s).flt.lineState = if s.flt.lineState = .stopped then .safeHold else s.flt.lineState := by
  unfold releaseLine
  split
  · simp
  · rfl

theorem inhibitOn_line (s : State) :
    (inhibitOn s).flt.lineState = if s.flt.lineState = .init then .init else .stopped := by
  simp [inhibitOn, stopLine_line]

theorem inhibitOff_line (s : State) :
    (inhibitOff s).flt.lineState = if s.flt.lineState = .stopped then .safeHold else s.flt.lineState := by
  simp [inhibitOff, releaseLine_line]

theorem configured_deliver {fn : InputFunction} {active : Bool} (h : Configured s) :
    Configured (deliver fn active s) := Configured.of_inputs (by simp) (by simp) (by simp) h

/-- Whatever the line state was, the inhibit's own change leaves it tied to the inhibit. -/
theorem lineLawful_deliver_inhibit (configured : Configured s) :
    LineLawful (deliver .inhibit (inhibitActive s) s) := by
  refine ⟨(configured_deliver configured).working, (configured_deliver configured).bankA,
    (configured_deliver configured).bankB, fun ended => ?_⟩
  rw [(keeps_deliver (.refl s)).inhibit]
  cases active : inhibitActive s
  · have line := inhibitOff_line s
    simp only [deliver, Bool.false_eq_true, if_false, line, iff_false]
    split
    · simp
    · assumption
  · have line := inhibitOn_line s
    rw [active] at ended
    simp only [deliver, if_true, line] at ended ⊢
    split at ended
    · exact absurd rfl ended
    · simp_all

theorem lineStays_deliver {fn : InputFunction} {active : Bool} (other : fn ≠ .inhibit) (s : State) :
    LineStays s (deliver fn active s) := by
  refine ⟨configured_deliver, ?_⟩
  cases fn <;> first | exact absurd rfl other | skip
  all_goals cases active <;> simp [deliver]

theorem lineLawful_deliver {fn : InputFunction} {active : Bool} (configured : Configured s)
    (inhibit : fn = .inhibit → active = inhibitActive s) (lawful : fn ≠ .inhibit → LineLawful s) :
    LineLawful (deliver fn active s) := by
  by_cases e : fn = .inhibit
  · rw [e, inhibit e]
    exact lineLawful_deliver_inhibit configured
  · exact (lineStays_deliver e s).lawful (keeps_deliver (.refl s)).inhibit (lawful e)

theorem lineLawful_flipInput (i : Fin 12) (lawful : LineLawful s) : LineLawful (flipInput i s) := by
  have line := inhibitActive_eq (s := s) lawful.working
  have flips := inhibitActive_eq (s := flipped i s) lawful.working
  have at_0 : inputAt (flipped i s) 0 =
      if 0 = i then ⟨(inputAt s i).raw, !(inputAt s i).active, none⟩ else inputAt s 0 :=
    inputAt_setInput i 0 _ s
  rw [flipInput_eq]
  refine lineLawful_deliver (Configured.of_inputs (s := s) rfl rfl rfl lawful.configured) (fun carries => ?_) (fun other => ?_)
  · obtain rfl := (inhibit_line lawful.working i).1 carries
    rw [flips, at_0]
    rfl
  · have away : ¬ 0 = i := fun e => other ((inhibit_line lawful.working i).2 e.symm)
    refine ⟨lawful.working, lawful.bankA, lawful.bankB, ?_⟩
    rw [flips, at_0, if_neg away, ← line]
    exact lawful.stopped

theorem lineLawful_rawChange (i : Fin 12) (energised : Bool) (lawful : LineLawful s) :
    LineLawful (rawChange i energised s) := by
  have raw : ∀ r timer, LineLawful (setInput i { raw := r, active := (inputAt s i).active, timer := timer } s) :=
    fun _ _ => lineLawful_stays lawful (kept := keeps_setInput rfl (.refl s))
  have again : ∀ r timer r' timer', LineLawful (setInput i { raw := r', active := (inputAt s i).active, timer := timer' }
      (setInput i { raw := r, active := (inputAt s i).active, timer := timer } s)) := fun r timer r' timer' =>
    lineLawful_stays (raw r timer) (kept := keeps_setInput (by simp [inputAt_setInput]) (.refl _))
  unfold rawChange
  dsimp only
  split
  · exact lawful
  · split
    · exact again _ _ _ _
    · split
      · exact lineLawful_flipInput i (raw _ _)
      · exact again _ _ _ _

/-! ### A line configuration written (R35, R36, R161) -/

/-- A list of changes ends lawful when the inhibit is among them, or the state they meet is lawful. -/
theorem lineLawful_deliverAll (l : List (InputFunction × Bool)) (configured : Configured s)
    (inhibit : ∀ b, (.inhibit, b) ∈ l → b = inhibitActive s) (lawful : (∀ b, (.inhibit, b) ∉ l) → LineLawful s) :
    LineLawful (deliverAll l s) := by
  induction l generalizing s with
  | nil => exact lawful (by simp)
  | cons c l ih =>
    obtain ⟨fn, active⟩ := c
    have kept := (keeps_deliver (fn := fn) (active := active) (.refl s)).inhibit
    have rest := ih (s := deliver fn active s) (configured_deliver configured)
      (fun b listed => (inhibit b (List.mem_cons_of_mem _ listed)).trans kept.symm)
    by_cases e : fn = .inhibit
    · exact rest fun _ => lineLawful_deliver configured (fun _ => inhibit active (by simp [e])) (absurd e)
    · refine rest fun none_left => (lineStays_deliver e s).lawful kept (lawful fun b => ?_)
      simp [none_left b, Ne.symm e]

theorem mem_changedFunctions_inhibit {before after : State} {b : Bool} :
    (.inhibit, b) ∈ changedFunctions before after ↔ inhibitActive before ≠ inhibitActive after ∧ b = inhibitActive after := by
  have carried : InputFunction.inhibit ∈ inputFunctions := by decide
  unfold changedFunctions
  simp only [List.mem_map, List.mem_filter, Prod.mk.injEq]
  constructor
  · rintro ⟨fn, ⟨-, differs⟩, rfl, rfl⟩
    exact ⟨by simpa [inhibitActive] using differs, rfl⟩
  · rintro ⟨differs, rfl⟩
    exact ⟨.inhibit, ⟨carried, by simpa [inhibitActive] using differs⟩, rfl, rfl⟩

theorem lineLawful_applyInputs {before : State} (lines : List (Fin 12)) (lawful : LineLawful before)
    (configured : Configured s) (line : s.flt.lineState = before.flt.lineState) :
    LineLawful (applyInputs lines before s) := by
  have stays : LineStays s (lines.foldl (resettleInput before) s) := {}
  refine lineLawful_deliverAll _ (stays.configured configured) (fun b change => (mem_changedFunctions_inhibit.1 change).2)
    fun none => ?_
  have same : inhibitActive (lines.foldl (resettleInput before) s) = inhibitActive before := by
    by_contra differs
    exact none _ (mem_changedFunctions_inhibit.2 ⟨Ne.symm differs, rfl⟩)
  obtain ⟨working, bankA, bankB⟩ := stays.configured configured
  refine ⟨working, bankA, bankB, ?_⟩
  rw [stays.line, line, same]
  exact lawful.stopped

theorem lineLawful_applyConfig (g : ConfigGroups) (lawful : LineLawful s)
    (checked : configConsistent (storeConfig g s.rss.working.cfg) = true) : LineLawful (applyConfig g s) := by
  have stored : Configured (configStored g s) := ⟨checked, lawful.bankA, lawful.bankB⟩
  have settled : LineStays (configStored g s) (outputsSettled g s) := by
    unfold outputsSettled
    exact {}
  rw [applyConfig_eq]
  exact lineLawful_stays (lineLawful_applyInputs (carriedInputs g) lawful (settled.configured stored) settled.line)
    (kept := keeps_announceEnabled (keeps_handWatchdog (.refl _)))

theorem lineLawful_actConfigWrite (body : List Byte) (lawful : LineLawful s) :
    LineLawful (actConfigWrite body s).1 := by
  unfold actConfigWrite actConfigGroups
  split
  · split
    · next accepted =>
      simp only [Bool.and_eq_true] at accepted
      exact lineLawful_applyConfig _ lawful accepted.2
    · exact lawful
  · exact lawful

/-! ### Power (R41, R171) -/

theorem lineLawful_of_init (configured : Configured s) (init : s.flt.lineState = .init) : LineLawful s :=
  ⟨configured.working, configured.bankA, configured.bankB, fun ended => absurd init ended⟩

theorem defaultSettings_checked : configConsistent defaultSettings.cfg = true := by decide

theorem blankSettings_checked : configConsistent State.blankStore.working.cfg = true := by decide

theorem configured_losePower (h : Configured s) : Configured (losePower s) :=
  ⟨blankSettings_checked, h.bankA, h.bankB⟩

theorem configured_loadSettings (h : Configured s) : Configured (loadSettings s) := by
  unfold loadSettings
  split
  · exact ⟨h.bank _, h.bankA, h.bankB⟩
  · have loaded : Configured (modRss (fun r => { r with working := defaultSettings, unsaved := true }) s) :=
      ⟨defaultSettings_checked, h.bankA, h.bankB⟩
    exact Configured.of_inputs (by simp) (by simp) (by simp) loaded

theorem lineLawful_powerUp (levels : BitVec 12) (configured : Configured s) : LineLawful (powerUp levels s) := by
  have lost := configured_losePower configured
  have loaded := configured_loadSettings (s := { losePower s with powered := true }) ⟨lost.working, lost.bankA, lost.bankB⟩
  refine lineLawful_of_init ?_ ?_
  · unfold powerUp
    exact Configured.of_inputs (by simp) (by simp) (by simp) loaded
  · unfold powerUp
    simp [losePower, State.blank]

/-! ### Every step keeps the line lawful -/

theorem lineLawful_event {act : State → State} (acts : LineLawful (act s)) (lawful : LineLawful s)
    (h : event act s = .next t) : LineLawful t := by
  unfold event at h
  split at h <;> cases h
  · exact acts
  · exact lawful

theorem lineLawful_request {kind tag : Byte} {body : List Byte} {act : State → State × Reply}
    (acts : ∀ u, LineLawful u → LineLawful (act u).1) (lawful : LineLawful s)
    (h : request kind tag body act s = .next t) : LineLawful t := by
  have h : eventIf (bodyInFrame body) (serveRequest ⟨kind, tag, body⟩ act) s = .next t := h
  have answered : ∀ u r, LineLawful u → LineLawful (finishEntry kind tag r u) := fun u r lawful =>
    lineLawful_stays lawful (kept := keeps_finishEntry (.refl u))
  unfold eventIf at h
  split at h
  · refine lineLawful_event ?_ lawful h
    unfold serveRequest serveEntry
    split
    · have served : LineLawful (serving (.frame ⟨kind, tag, body⟩) s) :=
        ⟨lawful.working, lawful.bankA, lawful.bankB, lawful.stopped⟩
      split
      · exact answered _ _ (acts _ served)
      · exact answered _ _ served
    · exact lineLawful_stays lawful (kept := keeps_holdEntry (.refl s))
  · cases h

theorem exec_lineLawful {c : Instr} (lawful : LineLawful s) (h : exec c s = .next t) : LineLawful t := by
  by_cases quiet : rewires c = false
  · by_cases still : movesLine c = false
    · exact (exec_lineStays quiet still h).lawful (exec_keeps quiet h).inhibit lawful
    · cases c <;> first | exact absurd rfl still | skip
      case startUpLoadFinished level => exact lineLawful_event (lineLawful_finishStartUp level lawful) lawful h
      case watchdogExpiry => exact lineLawful_event (lineLawful_watchdogEnd lawful) lawful h
      case lineHold tag body => exact lineLawful_request (fun _ => lineLawful_lineHold) lawful h
      case lineResume tag body => exact lineLawful_request (fun _ => lineLawful_actLineResume) lawful h
      case lineReset tag body => exact lineLawful_request (fun _ => lineLawful_actLineReset) lawful h
  · cases c <;> first | exact absurd rfl quiet | skip
    case powerOn levels =>
      cases h
      exact lineLawful_powerUp levels lawful.configured
    case powerLoss => exact lineLawful_event (lineLawful_of_init (configured_losePower lawful.configured) rfl) lawful h
    case rawInputChange line energised => exact lineLawful_event (lineLawful_rawChange line energised lawful) lawful h
    case debounceExpiry line =>
      refine lineLawful_event ?_ lawful h
      unfold debounceEnd
      split
      · exact lineLawful_flipInput line lawful
      · exact lawful
    case configWrite tag body => exact lineLawful_request (fun _ => lineLawful_actConfigWrite body) lawful h

/-- Settles O60: the case split of a step into a command and the idle step. -/
theorem stepsKeepTheLine : Obligations.StepsKeepTheLine := by
  unfold Obligations.StepsKeepTheLine
  intro s t lawful h
  unfold step at h
  split at h
  · cases h
    exact lineLawful_stays lawful (kept := keeps_idle (.refl s))
  · next c rest _ => exact exec_lineLawful (s := { s with pending := rest }) ⟨lawful.working, lawful.bankA, lawful.bankB, lawful.stopped⟩ h

end Sys2Proof.Machine
end

section
/-! SUPPORT. Every command is an event behind the check of its operand, and leaves the queue of waiting commands: the
settlements of O1 and O2 (logs 2, 3 and 33). -/

namespace Sys2Proof.Machine

/-- Settles O1: the step's own case of a queue with a front. -/
theorem stepRunsTheFrontCommand : Obligations.StepRunsTheFrontCommand := by
  unfold Obligations.StepRunsTheFrontCommand
  intro c rest s
  rfl

/-- The command is an event that is taken when `ok`, and its act leaves the queue of waiting commands. -/
def EventWhen (ok : Bool) (run : State → Host.Outcome State Fault Refusal) : Prop :=
  ∃ act : State → State, (∀ s, run s = eventIf ok act s) ∧ ∀ s, (act s).pending = s.pending

theorem eventWhen_event {act : State → State} (stands : ∀ s, (act s).pending = s.pending) :
    EventWhen true (event act) := ⟨act, fun _ => rfl, stands⟩

theorem eventWhen_eventIf {ok : Bool} {act : State → State} (stands : ∀ s, (act s).pending = s.pending) :
    EventWhen ok (eventIf ok act) := ⟨act, fun _ => rfl, stands⟩

theorem serveEntry_pending {e : RxEntry} {act : State → State} (stands : ∀ s, (act s).pending = s.pending) (s : State) :
    (serveEntry e act s).pending = s.pending := by
  unfold serveEntry
  split
  · exact stands _
  · simp

theorem eventWhen_request {kind tag : Byte} {body : List Byte} {act : State → State × Reply}
    (stands : ∀ s, (act s).1.pending = s.pending) :
    EventWhen (bodyInFrame body) (request kind tag body act) := by
  refine eventWhen_eventIf (serveEntry_pending fun s => ?_)
  dsimp only
  split
  · simp [stands]
  · simp

theorem onPlate_pending {body : List Byte} {act : Slot → PlateRecord → State → State × Reply}
    (stands : ∀ k r s, (act k r s).1.pending = s.pending) (s : State) : (onPlate body act s).1.pending = s.pending :=
  onPlate_keeps (fun t => t.pending) body act s stands

/-- Every command but POWER_ON is such an event, by the table's rows. -/
theorem exec_eventWhen (c : Instr) (other : ∀ levels, c ≠ .powerOn levels) : EventWhen c.wellFormed (exec c) := by
  cases c
  case powerOn levels => exact absurd rfl (other levels)
  case powerLoss => exact eventWhen_event fun _ => rfl
  case startUpLoadFinished level => exact eventWhen_event fun s => by simp
  case countersWriteEnd verified => exact eventWhen_event fun s => by simp
  case rawInputChange line energised => exact eventWhen_event fun s => by simp
  case debounceExpiry line => exact eventWhen_event fun s => by simp
  case outputHoldEnd line => exact eventWhen_event fun s => by simp
  case overcurrentTrip channel => exact eventWhen_event fun s => by simp
  case intakeTagArrival tag => exact eventWhen_eventIf fun s => by simp
  case loadTimerExpiry => exact eventWhen_event fun s => by simp
  case sampleArrival channel raw => exact eventWhen_event fun s => by simp
  case gapMark slot => exact eventWhen_event fun s => by simp
  case endMark slot => exact eventWhen_event fun s => by simp
  case commitMark slot => exact eventWhen_event fun s => by simp
  case exitMark => exact eventWhen_event fun s => by simp
  case solventTempReading reading => exact eventWhen_event fun s => by split <;> simp
  case replenishComplete => exact eventWhen_event fun s => by split <;> simp
  case dryerReading reading => exact eventWhen_event fun s => by split <;> simp
  case elevatorArrived => exact eventWhen_event fun s => by simp
  case elevatorPickComplete => exact eventWhen_event fun s => by simp
  case elevatorPlaceComplete => exact eventWhen_event fun s => by simp
  case elevatorPhaseTimeout => exact eventWhen_event fun s => by simp
  case finisherTagArrival tag => exact eventWhen_eventIf fun s => by simp
  case setupDelayEnd => exact eventWhen_event fun s => by simp
  case pushDwellEnd => exact eventWhen_event fun s => by simp
  case handoffTimeout => exact eventWhen_event fun s => by simp
  case frameComplete byte => exact eventWhen_event fun s => by simp
  case badLengthEntry byte => exact eventWhen_event fun s => by simp
  case byteReceived byte => exact eventWhen_event fun s => by simp
  case byteGapTimeout => exact eventWhen_event fun s => by simp
  case badCheck => exact eventWhen_event (serveEntry_pending fun s => by simp)
  case badLength frame =>
    cases frame
    · exact eventWhen_event (serveEntry_pending fun s => by simp)
    · exact eventWhen_eventIf (serveEntry_pending fun s => by simp)
  case unknownKind frame => exact eventWhen_eventIf (serveEntry_pending fun s => by simp)
  case txFrameDone => exact eventWhen_event fun s => by simp
  case watchdogExpiry => exact eventWhen_event fun s => by simp
  case lineStatus tag body => exact eventWhen_request fun _ => rfl
  case lineHold tag body => exact eventWhen_request fun s => by simp
  case lineResume tag body => exact eventWhen_request fun s => by simp
  case lineReset tag body => exact eventWhen_request fun s => by simp
  case plateAdd tag body => exact eventWhen_request fun s => by simp
  case plateRead tag body => exact eventWhen_request (onPlate_pending fun _ _ s => by simp)
  case plateAmend tag body => exact eventWhen_request fun s => by simp
  case plateCancel tag body => exact eventWhen_request (onPlate_pending fun _ _ s => by simp)
  case queueRead tag body => exact eventWhen_request fun _ => rfl
  case queueMove tag body => exact eventWhen_request (onPlate_pending fun _ _ s => by simp)
  case plateResume tag body => exact eventWhen_request fun s => by simp
  case plateEject tag body => exact eventWhen_request (onPlate_pending fun _ _ s => by simp)
  case plateRetire tag body => exact eventWhen_request (onPlate_pending fun _ _ s => by simp)
  case recipeWrite tag body => exact eventWhen_request fun s => by simp
  case recipeRead tag body => exact eventWhen_request fun s => by simp
  case recipeDelete tag body => exact eventWhen_request fun s => by simp
  case calWrite tag body => exact eventWhen_request fun s => by simp
  case calRead tag body => exact eventWhen_request fun _ => rfl
  case configWrite tag body => exact eventWhen_request fun s => by simp
  case configRead tag body => exact eventWhen_request fun _ => rfl
  case storeSave tag body =>
    refine eventWhen_eventIf (serveEntry_pending fun s => ?_)
    split
    · simp
    · simp
  case storeSaveEnd verified => exact eventWhen_event fun s => by simp
  case solventRead tag body => exact eventWhen_request fun _ => rfl
  case replenishNow tag body => exact eventWhen_request fun s => by simp
  case bathChanged tag body => exact eventWhen_request fun s => by simp
  case dryerSet tag body => exact eventWhen_request fun s => by simp
  case dryerRead tag body => exact eventWhen_request fun _ => rfl
  case faultRead tag body => exact eventWhen_request fun _ => rfl
  case faultClear tag body => exact eventWhen_request fun s => by simp
  case faultMask tag body => exact eventWhen_request fun s => by simp
  case traceRead tag body => exact eventWhen_request fun s => by simp
  case traceClear tag body => exact eventWhen_request fun s => by simp
  case attnEnable tag body => exact eventWhen_request fun s => by simp
  case attnClear tag body => exact eventWhen_request fun s => by simp
  case outputSet tag body => exact eventWhen_request fun s => by simp

theorem powerUp_pending (levels : BitVec 12) (s : State) : (powerUp levels s).pending = s.pending := by
  simp [powerUp, losePower]

/-- Settles O2, by `exec_eventWhen` for every command but POWER_ON. -/
theorem commandsAreTaken : Obligations.CommandsAreTaken := by
  unfold Obligations.CommandsAreTaken
  refine ⟨fun c s t h => ?_, fun c s => ?_⟩
  · by_cases on : ∃ levels, c = .powerOn levels
    · obtain ⟨levels, rfl⟩ := on
      cases h
      exact powerUp_pending levels s
    · obtain ⟨act, run, stands⟩ := exec_eventWhen c (not_exists.1 on)
      rw [run, eventIf, event] at h
      split at h
      · cases h
        split
        · exact stands s
        · rfl
      · cases h
  · by_cases on : ∃ levels, c = .powerOn levels
    · obtain ⟨levels, rfl⟩ := on
      exact ⟨fun _ => ⟨_, rfl⟩, fun ill => (Bool.noConfusion ill), fun _ _ other => absurd rfl (other levels)⟩
    · obtain ⟨act, run, stands⟩ := exec_eventWhen c (not_exists.1 on)
      refine ⟨fun well => ?_, fun ill => ?_, fun well off _ => ?_⟩
      · simp [run, eventIf, event, well]
      · simp [run, eventIf, ill]
      · simp [run, eventIf, event, well, off]

end Sys2Proof.Machine
end

section
/-! SUPPORT. The link: requests that wait, refused entries and the service of the entry taken, the parser, the byte gap
and the watchdog, the transmitter, and the reports: the settlements of O4 to O10 (R6, R180, R181, R185 to R191). -/

namespace Sys2Proof.Machine
variable {s : State}

theorem isSet_setFlag (f g : Flag) (s : State) : isSet g (setFlag f s) = (decide (g = f) || isSet g s) := by
  simp [isSet, setFlag_flags, flagHas_or, flagHas_flagBit, Bool.or_comm]

/-- A report changes nothing of what the watchdog keeps in mind. -/
@[simp] theorem raiseAttn_hands (a : AttnItem) (s : State) :
    (raiseAttn a s).lnk.handed = s.lnk.handed ∧ (raiseAttn a s).lnk.heard = s.lnk.heard := by
  unfold raiseAttn
  split <;> exact ⟨rfl, rfl⟩

@[simp] theorem setFlag_hands (f : Flag) (s : State) :
    (setFlag f s).lnk.handed = s.lnk.handed ∧ (setFlag f s).lnk.heard = s.lnk.heard := by
  unfold setFlag
  split
  · simp
  · dsimp only
    split <;> simp

/-! ### The form of a request's row (R188) -/

/-- A request's row serves its frame, and refuses a body that does not fit. -/
theorem exec_of_requestFrame {c : Instr} {f : RxFrame} (h : requestFrame c = some f) :
    ∃ act : State → State, (∀ s, exec c s = eventIf (bodyInFrame f.body) (serveEntry (.frame f) act) s)
      ∧ (bodyFits f = false → ∀ t, act t = finishEntry f.kind f.tag (refusal .badLength) t) := by
  cases c <;> cases h <;> exact ⟨_, fun _ => rfl, fun unfit t => if_neg (Bool.eq_false_iff.1 unfit)⟩

theorem isRequestKind_iff (kind : Byte) : isRequestKind kind = true ↔ namesRequest kind := by
  unfold namesRequest
  revert kind
  decide

theorem frameCommand_of_requestFrame {c : Instr} {f : RxFrame} (h : requestFrame c = some f) (fits : bodyFits f = true) :
    frameCommand f = c := by
  unfold frameCommand
  cases c <;> cases h <;> simp [fits, isRequestKind, fixedLength]

/-! ### Entries that wait (R187) -/

/-- An entry that has room joins the buffer, and is taken into service at once when nothing is and INIT has ended. -/
theorem offerEntry_room (e : RxEntry) (room : s.lnk.rx.length < 2) :
    offerEntry e s = { s with lnk := joinedLink e (s.flt.lineState != .init) s.lnk } := by
  have room : s.lnk.rx.length < Config.rxLimit := room
  unfold offerEntry joinedLink
  rw [if_pos room]
  by_cases init : s.flt.lineState = .init
  · simp [takeNext, modLnk, init]
  · cases free : s.lnk.inService with
    | some other => simp [takeNext, modLnk, init, free]
    | none => cases held : s.lnk.rx <;> simp [takeNext, modLnk, init, free, held]

theorem offerEntry_full (e : RxEntry) (full : 2 ≤ s.lnk.rx.length) : offerEntry e s = setFlag .linkOverrun s :=
  if_neg (Nat.not_lt.2 full)

theorem not_entryReady {e other : RxEntry}
    (h : s.flt.lineState = .init ∨ (s.lnk.inService = some other ∧ other ≠ e)) : entryReady e s = false := by
  rcases h with init | ⟨busy, differs⟩
  · simp [entryReady, init]
  · simp [entryReady, busy, differs]

/-- Settles O4: the row is offered to the receive buffer. -/
theorem requestsWaitTheirTurn : Obligations.RequestsWaitTheirTurn := by
  unfold Obligations.RequestsWaitTheirTurn
  intro c f s names long power busy new absent
  obtain ⟨act, run, -⟩ := exec_of_requestFrame names
  have blocked : entryReady (.frame f) s = false := by
    rcases busy with init | ⟨e, other⟩
    · exact not_entryReady (other := .badCheck) (.inl init)
    · exact not_entryReady (.inr other)
  have offered : exec c s = .next (offerEntry (.frame f) s) := by
    simp [run, eventIf, event, bodyInFrame, long, power, serveEntry, blocked, holdEntry, new, absent]
  refine ⟨fun room => ?_, fun full => ⟨_, offered, ?_⟩⟩
  · have stays : ¬ ((s.flt.lineState != .init) = true ∧ s.lnk.inService = none) := by
      rintro ⟨ended, free⟩
      rcases busy with init | ⟨e, taken, -⟩
      · simp [init] at ended
      · simp [taken] at free
    rw [offered, offerEntry_room _ room, joinedLink, if_neg stays]
  · rw [offerEntry_full _ full]
    simp [isSet_setFlag]

/-! ### Entries in service (R187, R188) -/

theorem serveEntry_finish {e : RxEntry} {kind tag : Byte} {r : Reply} (ready : Servable e s) :
    serveEntry e (finishEntry kind tag r) s = replied kind tag r s := by
  obtain ⟨-, ended, save, free⟩ := ready
  have running : (modLnk (fun l => { l with inService := some e }) s).flt.lineState ≠ .init := ended
  rw [serveEntry_ready ((entryReady_eq e s).2 ⟨ended, save, free⟩), finishEntry_lnk running]
  rfl

theorem step_serves {e : RxEntry} (power : s.powered = true) (ended : s.flt.lineState ≠ .init)
    (save : s.rss.save = none) (empty : s.pending = []) (taken : s.lnk.inService = some e) :
    step s = .next { s with pending := [entryCommand e] } := by
  have ready : entryReady e s = true := (entryReady_eq e s).2 ⟨ended, save, .inr taken⟩
  simp [step, empty, idle, power, dueService, taken, ready]

theorem fixedBodies (p : ℕ × ℕ) (listed : p ∈ [(16, 0), (17, 0), (18, 0), (19, 0), (32, 13), (33, 3), (35, 3), (36, 0),
      (37, 3), (38, 4), (39, 3), (40, 3), (48, 46), (49, 1), (50, 1), (52, 0), (54, 0), (55, 0), (64, 0), (65, 0), (66, 0),
      (67, 1), (68, 0), (80, 0), (81, 5), (82, 10), (83, 1), (84, 0), (96, 1), (97, 1)]) :
    fixedLength (BitVec.ofNat 8 p.1).toNat = some p.2 := by
  revert p
  decide

/-- Settles O5: the refused entries by `serveEntry_finish`, the service by `step_serves`. -/
theorem entriesAreAnswered : Obligations.EntriesAreAnswered := by
  unfold Obligations.EntriesAreAnswered
  refine ⟨fun s => ⟨fun ready => ?_, fun ready => ?_, fun f long names unfit ready => ?_, fun f long unnamed ready => ?_⟩,
    fun c f s names long unfit ready => ?_, fun p listed tag body => ?_,
    fun s power ended save empty => ⟨fun c f names fits taken => ?_, fun f taken => ⟨fun names unfit => ?_, fun unnamed => ?_⟩,
      step_serves power ended save empty, step_serves power ended save empty⟩⟩
  · have run : exec .badCheck s = event (serveEntry .badCheck (finishEntry 0#8 0#8 (refusal .badCheck))) s := rfl
    rw [run, event, if_pos ready.1, serveEntry_finish ready]
    rfl
  · have run : exec (.badLength none) s = event (serveEntry .badLength (finishEntry 0#8 0#8 (refusal .badLength))) s := rfl
    rw [run, event, if_pos ready.1, serveEntry_finish ready]
    rfl
  · have run : exec (.badLength (some f)) s = eventIf (unfitFrame f)
      (serveEntry (.frame f) (finishEntry f.kind f.tag (refusal .badLength))) s := rfl
    have meets : unfitFrame f = true := by simp [unfitFrame, bodyInFrame, long, (isRequestKind_iff _).2 names, unfit]
    rw [run, eventIf, if_pos meets, event, if_pos ready.1, serveEntry_finish ready]
    rfl
  · have run : exec (.unknownKind f) s = eventIf (unknownFrame f)
      (serveEntry (.frame f) (finishEntry f.kind f.tag (refusal .unknownKind))) s := rfl
    have meets : unknownFrame f = true := by
      simp [unknownFrame, bodyInFrame, long, Bool.eq_false_iff.2 ((isRequestKind_iff _).not.2 unnamed)]
    rw [run, eventIf, if_pos meets, event, if_pos ready.1, serveEntry_finish ready]
    rfl
  · obtain ⟨act, run, refuses⟩ := exec_of_requestFrame names
    have act_eq : act = finishEntry f.kind f.tag (refusal .badLength) := funext (refuses unfit)
    rw [Answers, run, act_eq, eventIf, if_pos (show bodyInFrame f.body = true from decide_eq_true long), event, if_pos ready.1, serveEntry_finish ready]
    rfl
  · have fixed := fixedBodies p listed
    unfold bodyFits
    dsimp only
    rw [fixed]
    exact beq_iff_eq
  · rw [step_serves power ended save empty taken, entryCommand, frameCommand_of_requestFrame names fits]
  · rw [step_serves power ended save empty taken, entryCommand, frameCommand]
    simp [(isRequestKind_iff _).2 names, unfit]
  · rw [step_serves power ended save empty taken, entryCommand, frameCommand]
    simp [Bool.eq_false_iff.2 ((isRequestKind_iff _).not.2 unnamed)]

/-! ### The parser (R185, R186) -/

theorem exec_byteReceived (power : s.powered = true) (b : Byte) :
    exec (.byteReceived b) s = .next (receiveByte b s) := by
  simp [exec, execByteReceived, event, power]

theorem exec_frameComplete (power : s.powered = true) (b : Byte) :
    exec (.frameComplete b) s = .next (receiveByte b s) := by
  simp [exec, execFrameComplete, event, power]

theorem exec_badLengthEntry (power : s.powered = true) (b : Byte) :
    exec (.badLengthEntry b) s = .next (receiveByte b s) := by
  simp [exec, execBadLengthEntry, event, power]

section Parser
variable {b hi : Byte}

theorem receiveByte_sync (at_ : s.lnk.parser = .hunt) : receiveByte 213#8 s = setParser (.length none) s := by
  simp [receiveByte, at_, Config.syncByte]

theorem receiveByte_hunt (at_ : s.lnk.parser = .hunt) (other : b ≠ 213#8) : receiveByte b s = s := by
  simp [receiveByte, at_, Config.syncByte, other]

theorem receiveByte_length (at_ : s.lnk.parser = .length none) :
    receiveByte b s = setParser (.length (some b)) s := by simp [receiveByte, at_]

theorem receiveByte_length_done (at_ : s.lnk.parser = .length (some hi)) (least : 2 ≤ num2 hi b) (most : num2 hi b ≤ 300) :
    receiveByte b s = setParser (.body (num2 hi b) []) s := by simp [receiveByte, at_, least, most]

theorem receiveByte_length_bad (at_ : s.lnk.parser = .length (some hi)) (bad : num2 hi b < 2 ∨ 300 < num2 hi b) :
    receiveByte b s = offerEntry .badLength (setParser .hunt s) := by
  have bad : ¬ (2 ≤ num2 hi b ∧ num2 hi b ≤ 300) := by omega
  simp [receiveByte, at_, bad]

variable {n : Nat} {got : List Byte}

theorem receiveByte_body (at_ : s.lnk.parser = .body n got) (more : got.length + 1 < n) :
    receiveByte b s = setParser (.body n (got ++ [b])) s := by simp [receiveByte, at_, Nat.not_le.2 more]

theorem receiveByte_body_last (at_ : s.lnk.parser = .body n got) (last : n ≤ got.length + 1) :
    receiveByte b s = setParser (.check (got ++ [b]) none) s := by simp [receiveByte, at_, last]

theorem receiveByte_check (at_ : s.lnk.parser = .check got none) :
    receiveByte b s = setParser (.check got (some b)) s := by simp [receiveByte, at_]

theorem receiveByte_check_last (at_ : s.lnk.parser = .check got (some hi)) :
    receiveByte b s = completeFrame got hi b (setParser .hunt s) := by simp [receiveByte, at_]

end Parser

theorem parsedLink_joinedLink (p : Parser) (e : RxEntry) (ended : Bool) (l : Link) :
    joinedLink e ended (parsedLink p l) = parsedLink p (joinedLink e ended l) := by
  unfold joinedLink parsedLink
  split <;> rfl

theorem parsedLink_heardLink (p : Parser) (period : Nat) (l : Link) :
    heardLink period (parsedLink p l) = parsedLink p (heardLink period l) := by
  unfold heardLink parsedLink
  split <;> rfl

theorem heardLink_rx (period : Nat) (l : Link) : (heardLink period l).rx = l.rx := by
  unfold heardLink
  split <;> rfl

section Check
variable {kind tag hi lo : Byte} {body : List Byte}

theorem completeFrame_agrees (agrees : (frameCheck (kind :: tag :: body)).toNat = num2 hi lo) :
    completeFrame (kind :: tag :: body) hi lo s =
      offerEntry (.frame ⟨kind, tag, body⟩) (modLnk (heardLink s.rss.working.cfg.watchdog) s) := by
  rw [← restartWatchdog_eq]
  exact if_pos agrees

/-- A frame whose check agrees and that has room joins the buffer and restarts the watchdog (R186, R190). -/
theorem completeFrame_joins (agrees : (frameCheck (kind :: tag :: body)).toNat = num2 hi lo) (room : s.lnk.rx.length < 2) :
    completeFrame (kind :: tag :: body) hi lo (setParser .hunt s) =
      { s with lnk := parsedLink .hunt (joinedLink (.frame ⟨kind, tag, body⟩) (s.flt.lineState != .init)
        (heardLink s.rss.working.cfg.watchdog s.lnk)) } := by
  have room : (heardLink s.rss.working.cfg.watchdog (parsedLink .hunt s.lnk)).rx.length < 2 := by
    rw [heardLink_rx]
    exact room
  rw [completeFrame_agrees agrees, offerEntry_room _ room, ← parsedLink_joinedLink, ← parsedLink_heardLink]
  rfl

theorem completeFrame_full (agrees : (frameCheck (kind :: tag :: body)).toNat = num2 hi lo) (full : 2 ≤ s.lnk.rx.length) :
    completeFrame (kind :: tag :: body) hi lo (setParser .hunt s) =
      setFlag .linkOverrun (modLnk (heardLink s.rss.working.cfg.watchdog) (setParser .hunt s)) := by
  have full : 2 ≤ (heardLink s.rss.working.cfg.watchdog (parsedLink .hunt s.lnk)).rx.length := by
    rw [heardLink_rx]
    exact full
  rw [completeFrame_agrees agrees, offerEntry_full _ full]
  rfl

theorem completeFrame_badCheck (differs : (frameCheck (kind :: tag :: body)).toNat ≠ num2 hi lo) :
    completeFrame (kind :: tag :: body) hi lo s = offerEntry .badCheck (setFlag .linkBadcheck s) := if_neg differs

end Check

/-! ### A whole frame (R185) -/

theorem execAll_byte {b : Byte} {t : State} (rest : List Instr) (power : s.powered = true) (next : receiveByte b s = t) :
    execAll (.byteReceived b :: rest) s = execAll rest t := by
  rw [execAll, exec_byteReceived power, next]

/-- The bytes of kind, tag and body, sent one after the other. -/
theorem execAll_body (l : List Byte) {n : Nat} {got : List Byte} (rest : List Instr) (power : s.powered = true)
    (at_ : s.lnk.parser = .body n got) (some_left : l ≠ []) (count : got.length + l.length = n) :
    execAll (l.map .byteReceived ++ rest) s = execAll rest (setParser (.check (got ++ l) none) s) := by
  induction l generalizing s got with
  | nil => exact absurd rfl some_left
  | cons b l ih =>
    cases l with
    | nil => exact execAll_byte rest power (receiveByte_body_last at_ (by simpa using count.ge))
    | cons b' l =>
      have count : got.length + l.length + 2 = n := by simpa [← add_assoc] using count
      have tail := ih (s := setParser (.body n (got ++ [b])) s) power rfl (by simp) (by simp; omega)
      rw [List.append_assoc] at tail
      exact (execAll_byte _ power (receiveByte_body at_ (by omega))).trans tail

/-- Settles O6: sync and length, the body by `execAll_body`, and the check. -/
theorem framesArriveWhole : Obligations.FramesArriveWhole := by
  unfold Obligations.FramesArriveWhole
  rintro ⟨kind, tag, body⟩ s power at_ long room
  have long : body.length + 2 ≤ 300 := Nat.add_le_add_right long 2
  generalize check : (frameCheck (kind :: tag :: body)).toNat = n
  have small : n < 65536 := check ▸ (frameCheck (kind :: tag :: body)).isLt
  have bytes : frameBytes ⟨kind, tag, body⟩ =
      (213#8 :: BitVec.ofNat 8 ((body.length + 2) / 256) :: BitVec.ofNat 8 (body.length + 2) :: (kind :: tag :: body)
        ++ [BitVec.ofNat 8 (n / 256)]) ++ [BitVec.ofNat 8 n] := by
    simp [frameBytes, lineBytes, b2, Config.syncByte, check]
  have commands : frameCommands ⟨kind, tag, body⟩ =
      .byteReceived 213#8 :: .byteReceived (BitVec.ofNat 8 ((body.length + 2) / 256))
        :: .byteReceived (BitVec.ofNat 8 (body.length + 2)) :: ((kind :: tag :: body).map .byteReceived
          ++ [.byteReceived (BitVec.ofNat 8 (n / 256)), .frameComplete (BitVec.ofNat 8 n)]) := by
    rw [frameCommands, bytes, List.dropLast_concat, List.getLastD_concat]
    simp
  have length := num2_ofNat (n := body.length + 2) (by omega)
  have checked := completeFrame_joins (hi := BitVec.ofNat 8 (n / 256)) (lo := BitVec.ofNat 8 n)
    (check.trans (num2_ofNat small).symm) room
  rw [commands]
  calc execAll _ s
      = execAll _ (setParser (.length none) s) := execAll_byte _ power (receiveByte_sync at_)
    _ = execAll _ (setParser (.length (some _)) s) := execAll_byte _ power (receiveByte_length rfl)
    _ = execAll _ (setParser (.body (body.length + 2) []) s) := execAll_byte _ power (by
      rw [receiveByte_length_done rfl (by omega) (by omega), length]
      rfl)
    _ = execAll _ (setParser (.check (kind :: tag :: body) none) s) :=
      execAll_body (got := []) (kind :: tag :: body) _ power rfl (by simp) (by simp)
    _ = execAll [.frameComplete _] (setParser (.check (kind :: tag :: body) (some _)) s) :=
      execAll_byte _ power (receiveByte_check rfl)
    _ = .next _ := by
      rw [execAll, exec_frameComplete (s := setParser _ s) power, receiveByte_check_last rfl]
      exact congrArg Host.Outcome.next checked

/-- Settles O7, byte by byte from the parser's cases. -/
theorem bytesAreParsed : Obligations.BytesAreParsed := by
  unfold Obligations.BytesAreParsed
  refine ⟨fun b s power => ⟨fun at_ sync => ?_, fun at_ other => ?_, fun at_ => ?_, fun hi at_ least most => ?_,
    fun n got at_ more => ?_, fun n got at_ last => ?_, fun got at_ => ?_⟩,
    fun b hi kind tag body s power => ⟨fun at_ differs room busy => ?_, fun at_ agrees full period => ?_,
      fun at_ agrees room => ?_, fun at_ bad room => ?_⟩⟩
  · rw [exec_byteReceived power, sync, receiveByte_sync at_]
    rfl
  · rw [exec_byteReceived power, receiveByte_hunt at_ other]
  · rw [exec_byteReceived power, receiveByte_length at_]
    rfl
  · rw [exec_byteReceived power, receiveByte_length_done at_ least most]
    rfl
  · rw [exec_byteReceived power, receiveByte_body at_ more]
    rfl
  · rw [exec_byteReceived power, receiveByte_body_last at_ last]
    rfl
  · rw [exec_byteReceived power, receiveByte_check at_]
    rfl
  · have offered := offerEntry_room (s := setFlag .linkBadcheck (setParser .hunt s)) .badCheck (by simpa using room)
    have waits : joinedLink .badCheck ((setFlag .linkBadcheck (setParser .hunt s)).flt.lineState != .init)
        (setFlag .linkBadcheck (setParser .hunt s)).lnk =
        { (setFlag .linkBadcheck (setParser .hunt s)).lnk with rx := s.lnk.rx ++ [.badCheck] } := by
      simp [joinedLink, setParser, busy]
    rw [waits] at offered
    refine ⟨_, by rw [exec_frameComplete power, receiveByte_check_last at_, completeFrame_badCheck differs, offered], ?_⟩
    simp [setParser, isSet, setFlag_flags, flagHas_or, flagHas_flagBit]
  · refine ⟨_, by rw [exec_frameComplete power, receiveByte_check_last at_, completeFrame_full agrees full], ?_⟩
    cases handed : s.lnk.handed <;> simp [setParser, isSet_setFlag, heardLink, period, handed]
  · rw [exec_frameComplete power, receiveByte_check_last at_, completeFrame_joins agrees room]
  · rw [exec_badLengthEntry power, receiveByte_length_bad at_ bad, offerEntry_room (s := setParser .hunt s) _ room]
    exact congrArg (fun l => Host.Outcome.next { s with lnk := l }) (parsedLink_joinedLink .hunt .badLength _ s.lnk)

/-! ### Silence (R175, R186, R190) -/

theorem gapTimeout_hunt (at_ : s.lnk.parser = .hunt) : gapTimeout s = s := by simp [gapTimeout, at_]

theorem gapTimeout_inFrame (inside : s.lnk.parser ≠ .hunt) :
    gapTimeout s = setFlag .linkTrunc (setParser .hunt s) := by
  cases at_ : s.lnk.parser <;> simp_all [gapTimeout]

theorem watchdogEnd_stopped (stopped : s.lnk.watchdog = none) : watchdogEnd s = s := by simp [watchdogEnd, stopped]

theorem watchdogEnd_running (running : s.lnk.watchdog ≠ none) :
    watchdogEnd s = modLnk (fun l => { l with watchdog := none }) (linkLost s) := by
  obtain ⟨w, held⟩ := Option.ne_none_iff_exists'.1 running
  simp [watchdogEnd, held]

theorem linkLost_run (run : s.flt.lineState = .run) :
    linkLost s = changeLine .safeHold .linkLoss (setFlag .linkLoss s) := by simp [linkLost, run]

theorem linkLost_other (other : s.flt.lineState ≠ .run) : linkLost s = setFlag .linkLoss s := by simp [linkLost, other]

/-- Settles O8. -/
theorem silenceOnTheLink : Obligations.SilenceOnTheLink := by
  unfold Obligations.SilenceOnTheLink
  intro s power
  have gap : exec .byteGapTimeout s = .next (gapTimeout s) := by simp [exec, execByteGapTimeout, event, power]
  have expiry : exec .watchdogExpiry s = .next (watchdogEnd s) := by simp [exec, execWatchdogExpiry, event, power]
  refine ⟨fun at_ => ?_, fun inside => ⟨_, gap, ?_⟩, fun stopped => ?_, fun running run => ⟨_, expiry, ?_⟩,
    fun running other => ⟨_, expiry, ?_⟩⟩
  · rw [gap, gapTimeout_hunt at_]
  · rw [gapTimeout_inFrame inside]
    simp [setFlag_flags, setParser]
  · rw [expiry, watchdogEnd_stopped stopped]
  · have on := (goesOn_changeLine .safeHold .linkLoss (setFlag .linkLoss s)).flags
    rw [watchdogEnd_running running, linkLost_run run]
    have loss : isSet .linkLoss (changeLine .safeHold .linkLoss (setFlag .linkLoss s)) = true :=
      on .linkLoss (by simp [isSet_setFlag])
    refine ⟨rfl, loss, ?_⟩
    simp [changeLine_safeHold]
  · rw [watchdogEnd_running running, linkLost_other other]
    simp [setFlag_flags]

/-! ### The transmitter (R185, R189) -/

theorem exec_txFrameDone (power : s.powered = true) : exec .txFrameDone s = .next (chooseFrame s) := by
  simp [exec, execTxFrameDone, event, power]

theorem attentionBody_eq (s : State) : attentionBody s =
    [BitVec.ofNat 8 s.lnk.attnPending.toNat, BitVec.ofNat 8 s.rss.working.cfg.attention.toNat,
     (match s.flt.lineState with
      | .init => 1#8
      | .run => 2#8
      | .safeHold => 3#8
      | .stopped => 4#8),
     (if s.flt.flags &&& ~~~s.flt.masks = 0#35 then 0#8 else 1#8), BitVec.ofNat 8 s.ptb.queue.length] := by
  have summary : bBool (faultSummary s) = [if s.flt.flags &&& ~~~s.flt.masks = 0#35 then 0#8 else 1#8] := by
    unfold faultSummary
    split <;> simp_all [bBool, b1]
  have line : bEnum lineStates s.flt.lineState = [match s.flt.lineState with
      | .init => 1#8
      | .run => 2#8
      | .safeHold => 3#8
      | .stopped => 4#8] := by
    cases s.flt.lineState <;> rfl
  rw [attentionBody, summary, line]
  rfl

/-- With no ATTENTION frame due the oldest reply is chosen, the mark being no. -/
theorem chooseFrame_reply (none_due : s.lnk.attnMark = true → s.lnk.attnPending &&& s.rss.working.cfg.attention = 0#6) :
    chooseFrame s = sendReply (modLnk (fun l => { l with attnMark := false }) s) := by
  unfold chooseFrame
  split
  · next mark => exact if_pos (none_due mark)
  · next mark =>
    have off : s.lnk.attnMark = false := by simpa using mark
    have same : modLnk (fun l => { l with attnMark := false }) s = s := by
      rw [modLnk, ← off]
    rw [same]

/-- Settles O9. -/
theorem transmitterChooses : Obligations.TransmitterChooses := by
  unfold Obligations.TransmitterChooses
  refine ⟨fun s power => ⟨fun mark pending => ?_, fun none_due => ⟨fun f rest held => ?_, fun empty => ?_⟩,
    fun queue free idle waits => ?_⟩, fun kind tag body => ?_⟩
  · have due : ¬ (s.lnk.attnPending &&& attnEnabled s = 0#6) := pending
    have chosen : chooseFrame s = modLnk (fun l =>
        { l with
          attnMark := false
          sending := some (lineBytes 112#8 0#8 (attentionBody s)) }) s := (if_pos mark).trans (if_neg due)
    rw [exec_txFrameDone power, chosen, attentionBody_eq]
    rfl
  · rw [exec_txFrameDone power, chooseFrame_reply none_due]
    simp [sendReply, held, modLnk]
  · rw [exec_txFrameDone power, chooseFrame_reply none_due]
    simp [sendReply, empty, modLnk]
  · have waiting : transmitterWaits s = true := by simpa [transmitterWaits, idle] using waits
    simp [step, queue, Machine.idle, power, dueService, free, waiting]
  · simp [lineBytes, frameCheck, b2, Config.syncByte]

/-! ### Reports (R6, R180, R181, R191) -/

/-- Settles O10. -/
theorem reportsAreTakenOnce : Obligations.ReportsAreTakenOnce := by
  unfold Obligations.ReportsAreTakenOnce
  refine ⟨fun a s => ⟨fun held => ?_, fun new => ?_⟩,
    fun f s => ⟨fun held => ?_, fun g => ?_, fun new => ?_, by simp, by simp, by simp, by simp, by simp, by simp⟩,
    fun n r => ⟨fun held => ?_, fun new room => ?_, fun new full => ?_⟩⟩
  · simp [raiseAttn, held]
  · simp [raiseAttn, new, modLnk, attnEnabled]
  · simp [setFlag, held]
  · simp [isSet_setFlag]
  · simp only [setFlag, new, Bool.false_eq_true, if_false]
    split
    · next masked => simp [masked]
    · next unmasked => simp [raiseAttn_pending, attnHas_or, attnHas_attnBit, unmasked]
  · simp [appendNotice, held]
  · simp [appendNotice, new, Config.noticeLimit, room]
  · simp [appendNotice, new, Config.noticeLimit, Nat.not_lt.2 full]

end Sys2Proof.Machine
end

section
/-! SUPPORT. Power, the store and the counters area, and the debounced and held lines: the settlements of O3, O12, O14,
O15 and O16 (R38 to R42, R158, R159, R163). -/

namespace Sys2Proof.Machine
variable {s : State}

/-- With power an event command is its act. -/
theorem event_on {act : State → State} (power : s.powered = true) : event act s = .next (act s) := by
  simp [event, power]

/-! ### Reset values (R41, R42 and the power-on rules) -/

theorem interlocked_reset : Interlocked State.reset := interlocked_of_allOff (allOff_of_blank rfl rfl)

theorem tableLawful_reset : TableLawful State.reset := by
  have free : ∀ k, plateAt State.reset k = none := fun k => by simp [plateAt, State.reset, State.blank]
  have empty : State.reset.ptb.queue = [] := rfl
  refine ⟨fun j k p q found => by simp [free] at found, by simp [empty], fun k => ?_, by simp [empty]⟩
  simp [plateState, free, empty]

theorem buffersBounded_reset : BuffersBounded State.reset := by
  refine ⟨by decide, by decide, fun k r found => ?_⟩
  have free : plateAt State.reset k = none := by simp [plateAt, State.reset, State.blank]
  simp [free] at found

theorem isSet_reset (f : Flag) : isSet f State.reset = true ↔ f = .storeCheck ∨ f = .countersCheck := by
  cases f
  case lampFail ch => cases ch <;> decide
  case driveFault ch => cases ch <;> decide
  all_goals decide

/-- Settles O3. -/
theorem resetValuesAndLaws : Obligations.ResetValuesAndLaws := by
  unfold Obligations.ResetValuesAndLaws
  refine ⟨⟨⟨rfl, rfl⟩, ⟨rfl, rfl, isSet_reset⟩,
    ⟨fun k => by simp [plateAt, State.reset, State.blank], rfl, rfl⟩, ⟨rfl, rfl⟩, ⟨rfl, rfl, rfl⟩,
    ⟨fun c => by cases c <;> rfl, fun c => by cases c <;> rfl, rfl, rfl⟩,
    ⟨fun d => by simp [drawerAt, State.reset, State.blank], rfl, rfl⟩,
    ⟨fun c => by cases c <;> rfl, fun c => by cases c <;> rfl,
      fun i => by simp [outputAt, State.reset, State.blank]⟩, ⟨rfl, rfl, rfl, rfl⟩⟩,
    interlocked_reset, ⟨by decide, rfl⟩, buffersBounded_reset, tableLawful_reset,
    ⟨by decide, by decide, by decide, fun ended => absurd rfl ended⟩⟩

/-! ### The counters area (R40) -/

theorem startWaitingCounters_none (none_waits : s.rss.countersWaiting = false) : startWaitingCounters s = s := by
  simp [startWaitingCounters, none_waits]

theorem startWaitingCounters_failed (s : State) :
    (startWaitingCounters s).rss.countersFailed = s.rss.countersFailed := by
  unfold startWaitingCounters beginCountersWrite
  split <;> rfl

/-- Settles O14. -/
theorem countersWriteEnds : Obligations.CountersWriteEnds := by
  unfold Obligations.CountersWriteEnds
  intro s power writing
  have run : ∀ verified, exec (.countersWriteEnd verified) s = .next (endCountersWrite verified s) :=
    fun _ => event_on power
  refine ⟨fun none_waits => ?_, fun waits free => ?_, _, run false, ?_⟩
  · simp [run, endCountersWrite, writing, startWaitingCounters, none_waits, modRss]
  · simp [run, endCountersWrite, writing, startWaitingCounters, waits, free, beginCountersWrite, modRss]
  · refine ⟨?_, ?_, fun none_waits => ?_, ?_⟩
    · have flagged : isSet .countersCheck (endCountersWrite false s) = isSet .countersCheck (setFlag .countersCheck _) :=
        isSet_congr (by simp [endCountersWrite, writing]; rfl) _
      rw [flagged, isSet_setFlag]
      simp
    · simp [endCountersWrite, writing, startWaitingCounters_failed]
    · simp [endCountersWrite, writing, startWaitingCounters, none_waits]
    · simp

/-! ### The current bank (R38, R39) -/

theorem currentBank_congr {r q : Store} (bankA : q.bankA = r.bankA) (bankB : q.bankB = r.bankB) :
    currentBank q = currentBank r := by
  simp [currentBank, newerBank, bankA, bankB]

/-- A save number's successor follows it, and is not followed by it. -/
theorem follows_succ {n : Nat} (small : n < 4294967296) :
    follows ((n + 1) % 4294967296) n = true ∧ follows n ((n + 1) % 4294967296) = false := by
  have ahead : saveDistance ((n + 1) % 4294967296) n = 1 := by
    unfold saveDistance
    omega
  have behind : saveDistance n ((n + 1) % 4294967296) = 4294967295 := by
    unfold saveDistance
    omega
  simp [follows, ahead, behind]

theorem currentBank_verified (r : Store) (settings : Settings) (bankA : r.bankA.saveNumber < 4294967296)
    (bankB : r.bankB.saveNumber < 4294967296) :
    currentBank (setBank (saveTarget r) ⟨settings, nextSaveNumber r, true⟩ r) = some (saveTarget r) := by
  obtain ⟨afterA, notA⟩ := follows_succ bankA
  obtain ⟨afterB, notB⟩ := follows_succ bankB
  cases current : currentBank r with
  | none =>
    have none_valid : r.bankB.valid = false := by
      cases a : r.bankA.valid <;> cases b : r.bankB.valid <;> simp_all [currentBank]
    have target : saveTarget r = .a := by rw [saveTarget, current]
    have next : nextSaveNumber r = 1 := by rw [nextSaveNumber, current]
    simp [target, next, currentBank, setBank, none_valid]
  | some n =>
    have target : saveTarget r = otherBank n := by rw [saveTarget, current]
    have next : nextSaveNumber r = ((bank n r).saveNumber + 1) % 4294967296 := by rw [nextSaveNumber, current]
    have valid : (bank n r).valid = true := by
      cases a : r.bankA.valid <;> cases b : r.bankB.valid <;> cases n <;> simp_all [currentBank, bank]
    rw [target, next]
    cases n with
    | a =>
      have valid : r.bankA.valid = true := valid
      simp [currentBank, setBank, otherBank, bank, valid, newerBank, afterA, notA]
    | b =>
      have valid : r.bankB.valid = true := valid
      simp [currentBank, setBank, otherBank, bank, valid, newerBank, afterB, notB]

/-- While a save's bank is not valid, the bank that was current stays current. -/
theorem currentBank_writing (r : Store) (settings : Settings) (n : Nat) :
    currentBank (setBank (saveTarget r) ⟨settings, n, false⟩ r) = currentBank r := by
  unfold saveTarget
  cases a : r.bankA.valid <;> cases b : r.bankB.valid
  · simp [currentBank, setBank, a, b]
  · simp [currentBank, setBank, otherBank, a, b]
  · simp [currentBank, setBank, otherBank, a, b]
  · cases newer : newerBank r <;> simp [currentBank, setBank, otherBank, a, b, newer]


/-! ### STORE_SAVE and its end (R39) -/

theorem exec_storeSave {tag : Byte} (ready : Servable (.frame ⟨55#8, tag, []⟩) s) :
    exec (.storeSave tag []) s = .next (beginSave tag (serving (.frame ⟨55#8, tag, []⟩) s)) := by
  obtain ⟨power, ended, save, free⟩ := ready
  have served : serveSave ⟨55#8, tag, []⟩ s = beginSave tag (serving (.frame ⟨55#8, tag, []⟩) s) :=
    serveEntry_ready ((entryReady_eq _ s).2 ⟨ended, save, free⟩)
  exact (event_on power).trans (congrArg Host.Outcome.next served)

theorem saveTarget_of {n : BankName} {r : Store} (current : currentBank r = some n) : saveTarget r = otherBank n := by
  rw [saveTarget, current]

theorem clearStoreCheck_isSet (f : Flag) (s : State) :
    isSet f (clearStoreCheck s) = (isSet f s && decide (f ≠ .storeCheck)) := by
  unfold clearStoreCheck
  split
  · next set =>
    have flags : (tryIntake (clearFlag .storeCheck s)).flt.flags = s.flt.flags &&& ~~~flagBit .storeCheck := by
      simp [clearFlag_flags]
    rw [isSet, flags]
    simp [isSet, flagHas_and, flagHas_not, flagHas_flagBit]
  · next clear =>
    by_cases e : f = .storeCheck
    · simpa [e] using clear
    · simp [e]

/-- The store once a save has ended: the bank read back with its mark, no save in progress. -/
def saveEnded (n : BankName) (verified : Bool) (r : Store) : Store :=
  { setBank n { bank n r with valid := verified } r with save := none }

theorem saveEnded_waiting (n : BankName) (verified : Bool) (r : Store) :
    (saveEnded n verified r).countersWaiting = r.countersWaiting := by cases n <;> rfl

theorem endSave_failed {n : BankName} {tag : Byte} (saving : s.rss.save = some ⟨n, tag⟩)
    (none_waits : s.rss.countersWaiting = false) :
    endSave false s = finishEntry 55#8 tag (refusal .storeFail) (modRss (saveEnded n false) s) := by
  have waits : startWaitingCounters (modRss (saveEnded n false) s) = modRss (saveEnded n false) s :=
    startWaitingCounters_none ((saveEnded_waiting n false s.rss).trans none_waits)
  rw [← waits]
  unfold endSave
  rw [saving]
  rfl

theorem endSave_verified {n : BankName} {tag : Byte} (saving : s.rss.save = some ⟨n, tag⟩)
    (none_waits : s.rss.countersWaiting = false) :
    endSave true s = finishEntry 55#8 tag (okReply []) (saveVerified (modRss (saveEnded n true) s)) := by
  have waits : startWaitingCounters (saveVerified (modRss (saveEnded n true) s)) =
      saveVerified (modRss (saveEnded n true) s) := by
    refine startWaitingCounters_none ?_
    simp [saveVerified, saveEnded_waiting, none_waits]
  rw [← waits]
  unfold endSave
  rw [saving]
  rfl

/-- Settles O15. -/
theorem storeSave : Obligations.StoreSave := by
  unfold Obligations.StoreSave
  refine ⟨fun tag s ready => ⟨_, exec_storeSave ready, ?_⟩, fun n tag s power ended saving none_waits => ⟨?_, ?_⟩,
    fun r settings bankA bankB => ⟨currentBank_verified r settings bankA bankB, currentBank_writing r settings _⟩⟩
  · have target : ∀ n, currentBank s.rss = some n → saveTarget s.rss = otherBank n := fun n => saveTarget_of
    refine ⟨fun none_current => ?_, fun current => ?_, fun current => ?_, ?_, ?_, rfl, ?_⟩
    · have first : saveTarget s.rss = .a := by rw [saveTarget, none_current]
      have number : nextSaveNumber s.rss = 1 := by rw [nextSaveNumber, none_current]
      simp [beginSave, serving, modRss, first, number, setBank]
    · have number : nextSaveNumber s.rss = (s.rss.bankA.saveNumber + 1) % 4294967296 := by
        rw [nextSaveNumber, current]
        rfl
      simp [beginSave, serving, modRss, target _ current, number, setBank, otherBank]
    · have number : nextSaveNumber s.rss = (s.rss.bankB.saveNumber + 1) % 4294967296 := by
        rw [nextSaveNumber, current]
        rfl
      simp [beginSave, serving, modRss, target _ current, number, setBank, otherBank]
    · rw [← currentBank_writing s.rss s.rss.working (nextSaveNumber s.rss)]
      exact currentBank_congr rfl rfl
    · simp [beginSave, serving, modRss]
    · simp only [beginSave, serving, modRss, modLnk]
      cases saveTarget s.rss <;> rfl
  · have ends : exec (.storeSaveEnd true) s = .next (endSave true s) := event_on power
    have running : (saveVerified (modRss (saveEnded n true) s)).flt.lineState ≠ .init := by simpa using ended
    refine ⟨_, by rw [ends, endSave_verified saving none_waits, finishEntry_lnk running], ?_⟩
    have store : (saveVerified (modRss (saveEnded n true) s)).rss = { saveEnded n true s.rss with unsaved := false } := by
      simp [saveVerified]
    have flags : ∀ f, isSet f (saveVerified (modRss (saveEnded n true) s)) = (isSet f s && decide (f ≠ .storeCheck)) :=
      fun f => clearStoreCheck_isSet f _
    refine ⟨?_, ?_, ?_, ?_, ?_, ?_, fun f other => ?_, ?_⟩
    · cases n <;> simp [store, saveEnded, bank, setBank]
    · cases n <;> simp [store, saveEnded, bank, setBank, otherBank]
    · simp [store, saveEnded]
    · simp [store]
    · cases n <;> simp [store, saveEnded, setBank]
    · exact (flags _).trans (by simp)
    · exact (flags f).trans (by simp [other])
    · have code : Status.ok.code = 0#8 := rfl
      simp [okReply, code]
  · have ends : exec (.storeSaveEnd false) s = .next (endSave false s) := event_on power
    rw [ends, endSave_failed saving none_waits, finishEntry_lnk (s := modRss (saveEnded n false) s) ended]
    rfl

/-! ### Debounce and holds (R159, R163) -/

theorem setInput_setInput (i : Fin 12) (v w : InputLine) (s : State) :
    setInput i w (setInput i v s) = setInput i w s := by
  simp [setInput, modLio]

section Lines
variable {i : Fin 12} {energised : Bool}

theorem rawChange_same (same : (inputAt s i).raw = energised) : rawChange i energised s = s := by
  simp [rawChange, same]

theorem rawChange_returns (new : (inputAt s i).raw ≠ energised)
    (back : rawSense energised (inputCfg s i).invert = (inputAt s i).active) :
    rawChange i energised s = setInput i ⟨energised, (inputAt s i).active, none⟩ s := by
  simp [rawChange, new, back, setInput_setInput]

theorem rawChange_times (new : (inputAt s i).raw ≠ energised)
    (away : rawSense energised (inputCfg s i).invert ≠ (inputAt s i).active) (timed : (inputCfg s i).debounce ≠ 0) :
    rawChange i energised s = setInput i ⟨energised, (inputAt s i).active, some 0⟩ s := by
  simp [rawChange, new, away, timed, setInput_setInput]

theorem rawChange_flips (new : (inputAt s i).raw ≠ energised)
    (away : rawSense energised (inputCfg s i).invert ≠ (inputAt s i).active) (at_once : (inputCfg s i).debounce = 0) :
    rawChange i energised s = flipInput i (setInput i { inputAt s i with raw := energised } s) := by
  simp [rawChange, new, away, at_once]

/-- A change of a line without a function changes the line alone. -/
theorem flipInput_none (none_carried : (inputCfg s i).function = .none) : flipInput i s = flipped i s := by
  rw [flipInput_eq, none_carried]
  rfl

/-- What a flipped line's timer was does not matter. -/
theorem flipInput_setInput (raw : Bool) (timer : Option Nat) :
    flipInput i (setInput i ⟨raw, (inputAt s i).active, timer⟩ s) =
      deliver (inputCfg s i).function (!(inputAt s i).active) (setInput i ⟨raw, !(inputAt s i).active, none⟩ s) := by
  unfold flipInput
  simp only [inputAt_setInput, if_true, setInput_setInput]
  rfl

end Lines

theorem holdEnd_none {i : Fin 8} (free : (outputAt s i).hold = none) : holdEnd i s = s := by simp [holdEnd, free]

/-- The end of a hold settles the line anew (R163). -/
theorem holdEnd_holding {i : Fin 8} (held : (outputAt s i).hold ≠ none) :
    holdEnd i s = setOutput i (settledOutput s (outputCfg s i) { outputAt s i with hold := none }) s := by
  have stands : ∀ o, settledOutput (setOutput i { outputAt s i with hold := none } s) (outputCfg s i) o =
      settledOutput s (outputCfg s i) o := fun _ => rfl
  have cfg : outputCfg (setOutput i { outputAt s i with hold := none } s) i = outputCfg s i := rfl
  unfold holdEnd refreshOutput
  rw [if_pos (Option.isSome_iff_ne_none.2 held), cfg, stands, outputAt_setOutput, if_pos rfl]
  simp [setOutput, modLio]

/-- Settles O16. -/
theorem linesAreDebouncedAndHeld : Obligations.LinesAreDebouncedAndHeld := by
  unfold Obligations.LinesAreDebouncedAndHeld
  refine ⟨fun i energised s power => ?_, fun i s power => ?_⟩
  · have raw : exec (.rawInputChange i energised) s = .next (rawChange i energised s) := event_on power
    have ends : ∀ u : State, u.powered = true → exec (.debounceExpiry i) u = .next (debounceEnd i u) :=
      fun u on => event_on on
    refine ⟨fun same => ?_, fun new back => ?_, fun new away timed => ?_, fun new away at_once none_carried => ?_,
      fun new away at_once => ?_, fun stopped => ?_, fun timed none_carried => ?_⟩
    · rw [raw, rawChange_same same]
    · rw [raw, rawChange_returns new back]
      rfl
    · rw [raw, rawChange_times new away timed]
      rfl
    · rw [raw, rawChange_flips new away at_once, flipInput_setInput, none_carried]
      rfl
    · have due : exec (.debounceExpiry i) (setInput i ⟨energised, (inputAt s i).active, some 0⟩ s) =
          .next (flipInput i (setInput i ⟨energised, (inputAt s i).active, some 0⟩ s)) :=
        (ends (setInput i _ s) power).trans (by simp [debounceEnd, inputAt_setInput])
      rw [raw, rawChange_flips new away at_once, flipInput_setInput]
      exact ((due.trans (by rw [flipInput_setInput])).symm)
    · simp [ends s power, debounceEnd, stopped]
    · rw [ends s power, debounceEnd, if_pos (Option.isSome_iff_ne_none.2 timed), flipInput_none none_carried]
      rfl
  · have ends : exec (.outputHoldEnd i) s = .next (holdEnd i s) := event_on power
    refine ⟨fun free => by rw [ends, holdEnd_none free], fun held wanted => ?_, fun held unwanted => ?_⟩
    · rw [ends, holdEnd_holding held, settledOutput, if_pos wanted]
      rfl
    · have flips : wantedState s (outputCfg s i) (outputAt s i).user = !(outputAt s i).driven :=
        Bool.eq_not.2 unwanted
      rw [ends, holdEnd_holding held, settledOutput, if_neg unwanted, flips]
      rfl

/-! ### Power-on and power loss (R39 to R42, R158) -/

theorem currentBank_losePower (s : State) : currentBank (losePower s).rss = currentBank s.rss :=
  currentBank_congr rfl rfl

theorem inputAt_readInputs (levels : BitVec 12) (l : List (Fin 12)) (s : State) (i : Fin 12) :
    inputAt (l.foldl (readInput levels) s) i =
      if i ∈ l then ⟨levels.getLsbD i.val, levels.getLsbD i.val != (inputCfg s i).invert, none⟩ else inputAt s i := by
  induction l generalizing s with
  | nil => rfl
  | cons j l ih =>
    have cfg : inputCfg (readInput levels s j) i = inputCfg s i := rfl
    rw [List.foldl_cons, ih, cfg, readInput, inputAt_setInput]
    by_cases listed : i ∈ l
    · simp [listed]
    · by_cases e : i = j
      · subst e
        simp [rawSense]
      · simp [listed, e]

section Init
variable (init : s.flt.lineState = .init)
include init

/-- During INIT the output lines are held, so that a flag moves none of them. -/
theorem setFlag_lio_init (f : Flag) : (setFlag f s).lio = s.lio := by
  unfold setFlag
  split
  · rfl
  · have held : refreshOutputs (modFlt (fun t => { t with flags := t.flags ||| flagBit f }) s) =
        modFlt (fun t => { t with flags := t.flags ||| flagBit f }) s := if_pos init
    rw [held]
    dsimp only
    split <;> simp

theorem loadSettings_lio : (loadSettings s).lio = s.lio := by
  unfold loadSettings
  split
  · rfl
  · exact setFlag_lio_init (s := modRss _ s) init _

theorem loadCounters_lio : (loadCounters s).lio = s.lio := by
  unfold loadCounters replaceCounters
  split
  · rfl
  · simp [setFlag_lio_init (s := modRss (fun r => { r with countersFailed := true }) s) init]

theorem testLampLife_lio : (testLampLife s).lio = s.lio := by
  unfold testLampLife
  split
  · exact setFlag_lio_init init _
  · rfl

end Init

theorem loadSettings_current {n : BankName} (current : currentBank s.rss = some n) :
    loadSettings s = modRss (fun r => { r with working := (bank n r).settings, unsaved := false }) s := by
  unfold loadSettings
  rw [current]

theorem loadSettings_none (none_current : currentBank s.rss = none) :
    loadSettings s =
      setFlag .storeCheck (modRss (fun r => { r with working := defaultSettings, unsaved := true }) s) := by
  unfold loadSettings
  rw [none_current]

theorem isSet_testLampLife {f : Flag} (other : f ≠ .lampLife) (s : State) : isSet f (testLampLife s) = isSet f s := by
  unfold testLampLife
  split
  · simp [isSet_setFlag, other]
  · rfl

theorem isSet_replaceCounters (f : Flag) (s : State) :
    isSet f (replaceCounters s) = (decide (f = .countersCheck) || isSet f s) := by
  have flags : isSet f (replaceCounters s) = isSet f (setFlag .countersCheck _) :=
    isSet_congr (by simp [replaceCounters]; rfl) f
  rw [flags, isSet_setFlag]
  rfl

/-- The counters load without a good area, no write being in progress and no save (R42). -/
theorem replaceCounters_counts (idle : s.rss.countersWriting = false) (save : s.rss.save = none) :
    (replaceCounters s).wou.lambda = s.rss.working.cal.wash.lambdaMax
    ∧ (replaceCounters s).din.lampOn = ⟨0, 0, 0, 0⟩ ∧ (replaceCounters s).rss.countersWriting = true
    ∧ (replaceCounters s).rss.counters = ⟨(replaceCounters s).wou.lambda, (replaceCounters s).din.lampOn, true⟩ := by
  simp [replaceCounters, askCountersWrite, idle, save, beginCountersWrite, washCal, perLamp, modRss]

/-- The state power returns to, before any load (R39, log 2). -/
def repowered (s : State) : State := { losePower s with powered := true }

theorem isSet_repowered (f : Flag) (s : State) : isSet f (repowered s) = false := by
  simp [isSet, repowered, losePower, State.blank, flagHas]

/-- The lines read and the settings loaded: the start of the counters load at POWER_ON. -/
def settingsLoaded (levels : BitVec 12) (s : State) : State :=
  allInputs.foldl (readInput levels) (handOverWatchdog (loadSettings (repowered s)))

theorem powerUp_eq (levels : BitVec 12) (s : State) :
    powerUp levels s = testLampLife (loadCounters (settingsLoaded levels s)) := rfl

theorem settingsLoaded_init (levels : BitVec 12) (s : State) : (settingsLoaded levels s).flt.lineState = .init := by
  simp [settingsLoaded, repowered, losePower, State.blank]

theorem isSet_loadCounters {f : Flag} (other : f ≠ .countersCheck) (s : State) :
    isSet f (loadCounters s) = isSet f s := by
  unfold loadCounters
  split
  · rfl
  · simp [isSet_replaceCounters, other]

theorem settingsLoaded_flags (levels : BitVec 12) (s : State) :
    (settingsLoaded levels s).flt.flags = (loadSettings (repowered s)).flt.flags := by
  simp [settingsLoaded]

/-- What the settings load leaves blank (R41). -/
theorem settingsLoaded_blank (levels : BitVec 12) (s : State) :
    (settingsLoaded levels s).din = State.blank.din ∧ (settingsLoaded levels s).wou = State.blank.wou
    ∧ (settingsLoaded levels s).dry = State.blank.dry ∧ (settingsLoaded levels s).lio.outputs = State.blank.lio.outputs
    ∧ (settingsLoaded levels s).lio.drives = State.blank.lio.drives
    ∧ (settingsLoaded levels s).lio.lamps = State.blank.lio.lamps
    ∧ (settingsLoaded levels s).rss.countersWriting = false ∧ (settingsLoaded levels s).rss.save = none := by
  have lio : (loadSettings (repowered s)).lio = State.blank.lio :=
    (loadSettings_lio (s := repowered s) rfl).trans rfl
  have writing : (loadSettings (repowered s)).rss.countersWriting = false := by
    unfold loadSettings
    split
    · rfl
    · simp [repowered, losePower, State.blankStore]
  simp [settingsLoaded, lio, writing]
  simp [repowered, losePower, State.blankStore]

theorem settingsLoaded_hands (levels : BitVec 12) (s : State) :
    (settingsLoaded levels s).lnk.handed = true ∧ (settingsLoaded levels s).lnk.heard = false
    ∧ (settingsLoaded levels s).lnk.watchdog = none := by
  have heard : (loadSettings (repowered s)).lnk.heard = false := by
    unfold loadSettings
    split
    · rfl
    · simp [repowered, losePower, State.blank]
  have watchdog : (loadSettings (repowered s)).lnk.watchdog = none := by
    simp [repowered, losePower, State.blank]
  have watched : (settingsLoaded levels s).lnk.watchdog = (loadSettings (repowered s)).lnk.watchdog := by
    simp [settingsLoaded, handOverWatchdog_eq, heard, modLnk]
  refine ⟨?_, ?_, watched.trans watchdog⟩
  · simp [settingsLoaded, handOverWatchdog_eq, heard, modLnk]
  · simp [settingsLoaded, handOverWatchdog_eq, heard, modLnk]

theorem loadCounters_hands (s : State) :
    (loadCounters s).lnk.handed = s.lnk.handed ∧ (loadCounters s).lnk.heard = s.lnk.heard := by
  unfold loadCounters
  split
  · exact ⟨rfl, rfl⟩
  · simp [replaceCounters]

theorem testLampLife_hands (s : State) :
    (testLampLife s).lnk.handed = s.lnk.handed ∧ (testLampLife s).lnk.heard = s.lnk.heard := by
  unfold testLampLife
  split <;> simp

section PowerUp
variable (levels : BitVec 12) (s : State)

theorem powerUp_lio : (powerUp levels s).lio = (settingsLoaded levels s).lio := by
  have init := settingsLoaded_init levels s
  have counted_init : (loadCounters (settingsLoaded levels s)).flt.lineState = .init := by simp [init]
  rw [powerUp_eq, testLampLife_lio counted_init, loadCounters_lio init]

theorem settingsLoaded_working :
    (settingsLoaded levels s).rss.working = (loadSettings (repowered s)).rss.working
    ∧ (settingsLoaded levels s).rss.unsaved = (loadSettings (repowered s)).rss.unsaved
    ∧ (settingsLoaded levels s).rss.counters = keptCounters s.rss := by
  simp [settingsLoaded, repowered, losePower]

theorem powerUp_working :
    (powerUp levels s).rss.working = (loadSettings (repowered s)).rss.working
    ∧ (powerUp levels s).rss.unsaved = (loadSettings (repowered s)).rss.unsaved
    ∧ isSet .storeCheck (powerUp levels s) = isSet .storeCheck (loadSettings (repowered s)) := by
  have check : isSet .storeCheck (powerUp levels s) = isSet .storeCheck (loadSettings (repowered s)) := by
    rw [powerUp_eq, isSet_testLampLife (by simp), isSet_loadCounters (by simp), isSet, settingsLoaded_flags, isSet]
  exact ⟨by simp [powerUp_eq, settingsLoaded_working], by simp [powerUp_eq, settingsLoaded_working], check⟩

/-- R41, with a current bank. -/
theorem powerUp_current {n : BankName} (current : currentBank s.rss = some n) :
    (powerUp levels s).rss.working = (bank n s.rss).settings ∧ (powerUp levels s).rss.unsaved = false
    ∧ isSet .storeCheck (powerUp levels s) = false := by
  have load := loadSettings_current (s := repowered s) ((currentBank_losePower s).trans current)
  have kept : bank n (repowered s).rss = bank n s.rss := by cases n <;> rfl
  have clear : isSet .storeCheck (loadSettings (repowered s)) = false := by
    rw [load]
    exact isSet_repowered _ s
  obtain ⟨working, unsaved, check⟩ := powerUp_working levels s
  rw [working, unsaved, check, clear, load]
  exact ⟨congrArg Bank.settings kept, rfl, rfl⟩

/-- R41, without one. -/
theorem powerUp_none (none_current : currentBank s.rss = none) :
    (powerUp levels s).rss.working = defaultSettings ∧ (powerUp levels s).rss.unsaved = true
    ∧ isSet .storeCheck (powerUp levels s) = true := by
  have load := loadSettings_none (s := repowered s) ((currentBank_losePower s).trans none_current)
  obtain ⟨working, unsaved, check⟩ := powerUp_working levels s
  rw [working, unsaved, check, load]
  simp [isSet_setFlag]

/-- R42, with a good counters area. -/
theorem powerUp_counters (valid : s.rss.counters.valid = true) :
    (powerUp levels s).wou.lambda = min 65535 (s.rss.counters.lambda + s.rss.commitsSinceWrite)
    ∧ (powerUp levels s).din.lampOn = s.rss.counters.lampOn ∧ isSet .countersCheck (powerUp levels s) = false
    ∧ (powerUp levels s).rss.countersWriting = false := by
  obtain ⟨-, -, counters⟩ := settingsLoaded_working levels s
  obtain ⟨-, -, -, -, -, -, idle, -⟩ := settingsLoaded_blank levels s
  have good : (settingsLoaded levels s).rss.counters.valid = true := by
    rw [counters]
    exact valid
  have counted : loadCounters (settingsLoaded levels s) = giveCounters (settingsLoaded levels s) := if_pos good
  have clear : isSet .countersCheck (powerUp levels s) = false := by
    rw [powerUp_eq, isSet_testLampLife (by simp), counted, isSet_congr (s := settingsLoaded levels s) (by simp), isSet,
      settingsLoaded_flags]
    unfold loadSettings
    split
    · exact isSet_repowered _ s
    · have blank : isSet .countersCheck
          (modRss (fun r => { r with working := defaultSettings, unsaved := true }) (repowered s)) = false :=
        isSet_repowered _ s
      exact (isSet_setFlag _ _ _).trans (by rw [blank]; rfl)
  refine ⟨?_, ?_, clear, ?_⟩
  · simp [powerUp_eq, counted, giveCounters, counters, keptCounters, satAdd]
  · simp [powerUp_eq, counted, giveCounters, counters, keptCounters]
  · simp [powerUp_eq, counted, idle]

/-- R42, without one. -/
theorem powerUp_no_counters (invalid : s.rss.counters.valid = false) :
    (powerUp levels s).wou.lambda = (powerUp levels s).rss.working.cal.wash.lambdaMax
    ∧ (powerUp levels s).din.lampOn = ⟨0, 0, 0, 0⟩ ∧ isSet .countersCheck (powerUp levels s) = true
    ∧ (powerUp levels s).rss.countersWriting = true
    ∧ (powerUp levels s).rss.counters = ⟨(powerUp levels s).wou.lambda, (powerUp levels s).din.lampOn, true⟩ := by
  obtain ⟨-, -, counters⟩ := settingsLoaded_working levels s
  obtain ⟨-, -, -, -, -, -, idle, save⟩ := settingsLoaded_blank levels s
  have bad : ¬ (settingsLoaded levels s).rss.counters.valid = true := by
    rw [counters]
    simpa [keptCounters] using invalid
  have counted : loadCounters (settingsLoaded levels s) = replaceCounters (settingsLoaded levels s) := if_neg bad
  obtain ⟨lambda, lampOn, writing, area⟩ := replaceCounters_counts idle save
  have set : isSet .countersCheck (powerUp levels s) = true := by
    rw [powerUp_eq, isSet_testLampLife (by simp), counted, isSet_replaceCounters]
    rfl
  refine ⟨?_, ?_, set, ?_, ?_⟩
  · simp [powerUp_eq, counted, lambda]
  · simp [powerUp_eq, counted, lampOn]
  · simp [powerUp_eq, counted, writing]
  · simp [powerUp_eq, counted, area]

/-- R158. -/
theorem powerUp_inputs (i : Fin 12) : inputAt (powerUp levels s) i =
    ⟨levels.getLsbD i.val, levels.getLsbD i.val != (inputCfg (powerUp levels s) i).invert, none⟩ := by
  have cfg : inputCfg (handOverWatchdog (loadSettings (repowered s))) i = inputCfg (powerUp levels s) i := by
    simp [inputCfg, powerUp_working]
  rw [inputAt_congr (congrArg LineIo.inputs (powerUp_lio levels s)), settingsLoaded, inputAt_readInputs,
    if_pos (by simp [allInputs]), cfg]

theorem powerUp_lines :
    (∀ i, (outputAt (powerUp levels s) i).driven = false ∧ (outputAt (powerUp levels s) i).hold = none)
    ∧ (∀ c, driveState c (powerUp levels s) = .off) ∧ (∀ c, lampLevel c (powerUp levels s) = none) := by
  have lio := powerUp_lio levels s
  obtain ⟨-, -, -, outputs, drives, lamps, -⟩ := settingsLoaded_blank levels s
  refine ⟨fun i => ?_, fun c => ?_, fun c => ?_⟩
  · rw [outputAt, lio, outputs]
    simp [State.blank]
  · rw [driveState_congr ((congrArg LineIo.drives lio).trans drives)]
    cases c <;> rfl
  · rw [lampLevel_congr ((congrArg LineIo.lamps lio).trans lamps)]
    cases c <;> rfl

/-- What the counters load leaves of dose and washout (R42). -/
theorem loadCounters_leaves (u : State) :
    (loadCounters u).din.channels = u.din.channels ∧ (loadCounters u).din.carry = u.din.carry
    ∧ (loadCounters u).din.trace = u.din.trace ∧ (loadCounters u).din.traceActive = u.din.traceActive
    ∧ (loadCounters u).wou.temp = u.wou.temp := by
  unfold loadCounters
  split <;> simp [giveCounters, replaceCounters]

theorem powerUp_units :
    ((powerUp levels s).din.channels = ⟨.idle, .idle, .idle, .idle⟩ ∧ (powerUp levels s).din.carry = ⟨0, 0, 0, 0⟩
      ∧ (powerUp levels s).din.trace = [] ∧ (powerUp levels s).din.traceActive = true)
    ∧ ((powerUp levels s).wou.list = [] ∧ (powerUp levels s).wou.committed = 0
      ∧ (powerUp levels s).wou.replenish = .none ∧ (powerUp levels s).wou.temp = none)
    ∧ ((∀ d, drawerAt (powerUp levels s) d = .free) ∧ (powerUp levels s).dry.clock = 0
      ∧ (powerUp levels s).dry.temp = none) := by
  obtain ⟨din, wou, dry, -⟩ := settingsLoaded_blank levels s
  simp [powerUp_eq, loadCounters_leaves, din, wou, drawerAt, dry, State.blank, perLamp]

theorem powerUp_link :
    (powerUp levels s).lnk.parser = .hunt ∧ (powerUp levels s).lnk.rx = [] ∧ (powerUp levels s).lnk.tx = []
    ∧ (powerUp levels s).lnk.inService = none ∧ (powerUp levels s).lnk.watchdog = none
    ∧ (powerUp levels s).lnk.handed = true ∧ (powerUp levels s).lnk.heard = false := by
  obtain ⟨handed, heard, watchdog⟩ := settingsLoaded_hands levels s
  have hands := loadCounters_hands (settingsLoaded levels s)
  have kept := testLampLife_hands (loadCounters (settingsLoaded levels s))
  simp [powerUp_eq, kept, hands, handed, heard, watchdog]
  simp [settingsLoaded, repowered, losePower, State.blank]

end PowerUp

/-- Settles O12. -/
theorem powerOnAndLoss : Obligations.PowerOnAndLoss := by
  unfold Obligations.PowerOnAndLoss
  refine ⟨fun levels s => ⟨powerUp levels s, rfl, ?_⟩, fun s => ?_, fun s power => ⟨losePower s, event_on power, ?_⟩⟩
  · obtain ⟨din, wou, dry⟩ := powerUp_units levels s
    refine ⟨?_, powerUp_pending levels s, ?_, ?_, ⟨fun n => powerUp_current levels s, powerUp_none levels s⟩, ?_,
      ⟨powerUp_counters levels s, powerUp_no_counters levels s⟩, powerUp_inputs levels s, powerUp_lines levels s, din, wou,
      dry, powerUp_link levels s⟩
    · simp [powerUp_eq, settingsLoaded, repowered]
    · simp [powerUp_eq, settingsLoaded, repowered, losePower, State.blank]
    · simp [powerUp_eq, settingsLoaded, repowered, losePower, State.blank, plateAt]
    · simp [powerUp_eq, settingsLoaded, repowered, losePower, State.blankStore]
  · rw [handOverWatchdog_eq]
    cases heard : s.lnk.heard <;> simp [modLnk, heard, heardLink]
  · refine ⟨rfl, rfl, rfl, rfl, rfl, rfl, ?_, fun c => by cases c <;> rfl, fun c => by cases c <;> rfl, rfl⟩
    simp [losePower, keptCounters, satAdd]

end Sys2Proof.Machine
end

section
/-! SUPPORT. What the stations' hearing of the line state leaves alone, and the end of INIT: the settlement of O13
(R172, R177). -/

namespace Sys2Proof.Machine
variable {s t u : State}

/-! ### Latches, forced-off marks and flags through a change of the line state (R166, R169, R177) -/

/-- From `s` to `t` no channel enters or leaves FAULT, no forced-off mark changes, no flag but SOLVENT_LIMIT changes, and
the watchdog's hand-over stands. -/
structure Steady (s t : State) : Prop where
  faults : ∀ c, driveFaulted c t = driveFaulted c s := by exact driveFaulted_congr (by simp)
  forced : ∀ c, (t.lio.drives.get c).forced = (s.lio.drives.get c).forced := by simp
  flags : ∀ f, f ≠ .solventLimit → isSet f t = isSet f s := by exact fun f _ => isSet_congr (by simp) f
  handed : t.lnk.handed = s.lnk.handed := by simp
  heard : t.lnk.heard = s.lnk.heard := by simp

namespace Steady

theorem refl (s : State) : Steady s s := {}

theorem trans (h : Steady s t) (g : Steady t u) : Steady s u :=
  ⟨fun c => (g.faults c).trans (h.faults c), fun c => (g.forced c).trans (h.forced c),
   fun f other => (g.flags f other).trans (h.flags f other), g.handed.trans h.handed, g.heard.trans h.heard⟩

theorem of_answer {α : Type} {x : State × α} {a : α} (eq : x = (t, a)) (h : Steady s x.1) : Steady s t := by
  rw [eq] at h
  exact h

end Steady

theorem steady_raiseAttn (a : AttnItem) (s : State) : Steady s (raiseAttn a s) := {}

theorem steady_setSolventLimit (s : State) : Steady s (setFlag .solventLimit s) :=
  { flags := fun f other => by simp [isSet_setFlag, other] }

theorem driveFaulted_eq (c : DriveChannel) (s : State) : driveFaulted c s = decide (driveState c s = .fault) := by
  unfold driveFaulted
  cases driveState c s <;> rfl

theorem driveFaulted_setDrive (c d : DriveChannel) (v : Drive) (s : State) :
    driveFaulted d (setDrive c v s) = if d = c then decide (v.state = .fault) else driveFaulted d s := by
  rw [driveFaulted_eq, driveFaulted_eq, driveState_setDrive]
  split <;> rfl

theorem forced_setDrive (c d : DriveChannel) (v : Drive) (s : State) :
    ((setDrive c v s).lio.drives.get d).forced = if d = c then v.forced else (s.lio.drives.get d).forced := by
  simp only [setDrive, modLio_lio, PerDrive.get_set]
  split <;> rfl

/-- A channel that is not in FAULT is written with its forced-off mark as it is. -/
theorem steady_setDrive {c : DriveChannel} {st : DriveState} (sound : driveFaulted c s = false) (on : st ≠ .fault) :
    Steady s (setDrive c { s.lio.drives.get c with state := st } s) := by
  refine { faults := fun d => ?_, forced := fun d => ?_ }
  · rw [driveFaulted_setDrive]
    split
    · next e => simp [e, sound, on]
    · rfl
  · rw [forced_setDrive]
    split
    · next e => rw [e]
    · rfl

theorem steady_driveOn (c : DriveChannel) (sp : Setpoint) (s : State) : Steady s (driveOn c sp s) := by
  unfold driveOn
  split
  · exact .refl s
  · next on => exact steady_setDrive (by simp [driveFaulted, on]) (by simp)
  · next off =>
    split
    · exact .refl s
    · exact steady_setDrive (by simp [driveFaulted, off]) (by simp)

theorem steady_driveOff (c : DriveChannel) (s : State) : Steady s (driveOff c s) := by
  unfold driveOff
  split
  · next on => exact steady_setDrive (by simp [driveFaulted, on]) (by simp)
  · exact .refl s

theorem steady_holdPlate (k : Slot) (at_ : Station) (reason : HoldReason) (s : State) :
    Steady s (holdPlate k at_ reason s) := by
  unfold holdPlate
  split
  · exact {}
  · split
    · exact {}
    · exact {}

/-! #### The exposure unit's part -/

theorem steady_modExu (f : Exposure → Exposure) (s : State) : Steady s (modExu f s) := {}

theorem steady_exuAnswer (k : Slot) (x : State × WorkAnswer) : Steady x.1 (exuAnswer k x) := by
  unfold exuAnswer
  split
  · exact steady_modExu _ _
  · exact .refl _
  · exact .refl _
  · exact (steady_holdPlate k .exu _ _).trans (steady_modExu _ _)

theorem steady_exuRequest (ch : LampChannel) (k : Slot) (s : State) : Steady s (exuRequest ch k s).1 := {}

theorem steady_askMain (s : State) : Steady s (askMain s) := by
  unfold askMain
  split
  · split
    · exact (steady_exuRequest .main _ s).trans (steady_exuAnswer _ _)
    · exact .refl s
  · exact .refl s

theorem steady_askExposure (s : State) : Steady s (askExposure s) := by
  unfold askExposure
  split
  · exact steady_askMain s
  · split
    · split
      · next k _ =>
        have asked := steady_exuRequest .back k s
        split
        · next skipped => exact ((Steady.of_answer skipped asked).trans (steady_modExu _ _)).trans (steady_askMain _)
        · exact asked.trans (steady_exuAnswer k _)
      · exact .refl s
    · exact .refl s
  · exact .refl s

/-! #### The washout's part -/

theorem steady_takeTransport (s : State) : Steady s (takeTransport s) := by
  have entered : ∀ f, Steady s (modWou f s) := fun _ => {}
  unfold takeTransport
  dsimp only
  split
  · exact ((entered _).trans (steady_driveOn _ _ _)).trans (steady_driveOn _ _ _)
  · split
    · exact ((entered _).trans (steady_driveOff _ _)).trans (steady_driveOff _ _)
    · exact entered _

theorem steady_admitPlate (k : Slot) (p : PlateRecord) (d : DrawerNo) (s : State) : Steady s (admitPlate k p d s) := by
  unfold admitPlate
  dsimp only
  split
  · exact Steady.trans {} (steady_takeTransport _)
  · exact Steady.trans {} (steady_takeTransport _)

theorem steady_setBlocker (b : Blocker) (s : State) : Steady s (setBlocker b s) := {}

theorem steady_testAdmission (k : Slot) (p : PlateRecord) (s : State) : Steady s (testAdmission k p s) := by
  unfold testAdmission
  split
  · split
    · exact steady_setBlocker _ s
    · next granted =>
      have grant := reserveDrawer_frame granted
      exact .trans { faults := driveFaulted_congr (by simp [grant])
                     forced := by simp [grant]
                     flags := fun f _ => isSet_congr (by simp [grant]) f
                     handed := by simp [grant]
                     heard := by simp [grant] } (steady_admitPlate k p _ _)
  · dsimp only
    split
    · exact steady_setBlocker _ s
    · exact (steady_setBlocker _ s).trans (steady_setSolventLimit _)

theorem steady_evalAdmission (s : State) : Steady s (evalAdmission s) := by
  unfold evalAdmission
  split
  · exact steady_setBlocker _ s
  · split
    · exact .refl s
    · split
      · exact steady_testAdmission _ _ s
      · exact .refl s

theorem steady_startReplenish (s : State) : Steady s (startReplenish s) := by
  unfold startReplenish
  split
  · have runs : ∀ f u, Steady u (refreshOutputs (modWou f u)) := fun _ _ => {}
    exact (steady_driveOn _ _ s).trans (runs _ _)
  · exact .refl s

theorem steady_tryReplenish (s : State) : Steady s (tryReplenish s) := by
  unfold tryReplenish
  dsimp only
  split
  · exact steady_startReplenish s
  · exact (steady_startReplenish s).trans (steady_evalAdmission _)

theorem steady_transportAnew (s : State) : Steady s (transportAnew s) := by
  unfold transportAnew
  dsimp only
  split
  · exact steady_takeTransport s
  · exact (steady_takeTransport s).trans (steady_evalAdmission _)

/-! #### The finisher's part -/

theorem steady_modLfn (f : Finisher → Finisher) (s : State) : Steady s (modLfn f s) := {}

theorem steady_lfnAnswer (c : FinisherLamp) (k : Slot) (x : State × WorkAnswer) : Steady x.1 (lfnAnswer c k x) := by
  unfold lfnAnswer
  split
  · exact steady_modLfn _ _
  · exact .refl _
  · exact steady_modLfn _ _
  · exact ((steady_modLfn _ _).trans (steady_holdPlate k .lfn _ _)).trans (steady_modLfn _ _)

theorem steady_lfnWaits (c : FinisherLamp) (k : Slot) (s : State) : Steady s (lfnWaits c k s) := {}

theorem steady_askFresh (ch : LampChannel) (k : Slot) (s : State) : Steady s (askFresh ch k s).1 := {}

theorem steady_continueRun (ch : LampChannel) (k : Slot) (extension : Nat) (s : State) :
    Steady s (continueRun ch k extension s).1 := {}

theorem steady_askFinisherChannel (c : FinisherLamp) (s : State) : Steady s (askFinisherChannel c s) := by
  unfold askFinisherChannel
  split
  · exact .refl s
  · next k _ =>
    have fresh := steady_askFresh c.channel k s
    have continued := steady_continueRun c.channel k s.lfn.extension s
    split
    · split
      · split
        · next waits => exact (Steady.of_answer waits fresh).trans (steady_lfnWaits c k _)
        · exact fresh.trans (steady_lfnAnswer c k _)
      · split
        · next waits => exact (Steady.of_answer waits fresh).trans (steady_lfnWaits c k _)
        · exact fresh.trans (steady_lfnAnswer c k _)
      · split
        · next answer => exact (Steady.of_answer answer continued).trans (steady_lfnAnswer c k (_, _))
        · next answer => exact (Steady.of_answer answer continued).trans (steady_lfnWaits c k _)
        · next answer => exact (Steady.of_answer answer continued).trans (steady_lfnAnswer c k (_, _))
      · exact .refl s
    · exact .refl s

theorem steady_modTrc (f : Transfer → Transfer) (s : State) : Steady s (modTrc f s) := {}

theorem steady_tryRelease (s : State) : Steady s (tryRelease s) := by
  unfold tryRelease
  split
  · split
    · exact ((steady_modLfn _ s).trans (steady_modTrc _ _)).trans (steady_driveOn _ _ _)
    · exact .refl s
  · exact .refl s

theorem steady_lfnFinished (k : Slot) (s : State) : Steady s (lfnFinished k s) := by
  have moved : Steady s (movePlate k .finishing .finished id s) := {}
  exact (moved.trans (steady_modLfn _ _)).trans (steady_tryRelease _)

theorem steady_testFinished (s : State) : Steady s (testFinished s) := by
  unfold testFinished
  split
  · split
    · exact steady_lfnFinished _ s
    · exact .refl s
  · exact .refl s

theorem steady_askFinisher (s : State) : Steady s (askFinisher s) :=
  ((steady_askFinisherChannel .uva s).trans (steady_askFinisherChannel .uvc _)).trans (steady_testFinished _)

/-! #### Transfer Control's part -/

theorem steady_commandPhase (p : Phase) (s : State) : Steady s (commandPhase p s) :=
  (steady_modTrc _ s).trans (steady_driveOn _ _ _)

theorem steady_travelThen (target : Fin 8) (p : Phase) (s : State) : Steady s (travelThen target p s) := by
  unfold travelThen
  split
  · exact steady_commandPhase _ s
  · exact steady_commandPhase _ s

theorem steady_beginPut (k : Slot) (s : State) : Steady s (beginPut k s) := by
  unfold beginPut
  split
  · exact .refl s
  · exact (steady_modTrc _ s).trans (steady_travelThen _ _ _)

theorem steady_beginTake (d : DrawerNo) (k : Slot) (s : State) : Steady s (beginTake d k s) :=
  ((steady_modTrc _ s).trans (steady_modLfn _ _)).trans (steady_travelThen _ _ _)

theorem steady_arbiter (s : State) : Steady s (arbiter s) := by
  unfold arbiter
  split
  · split
    · exact steady_beginPut _ s
    · split
      · split
        · exact steady_beginTake _ _ s
        · exact .refl s
      · exact .refl s
  · exact .refl s

theorem steady_elevatorToIdle (s : State) : Steady s (elevatorToIdle s) :=
  ((steady_modTrc _ s).trans (steady_driveOff _ _)).trans (steady_arbiter _)

theorem steady_beginHoming (s : State) : Steady s (beginHoming s) := by
  unfold beginHoming
  dsimp only
  split
  · exact (steady_modTrc _ s).trans (steady_elevatorToIdle _)
  · exact (steady_modTrc _ s).trans (steady_commandPhase _ _)

/-! #### The change of the line state -/

theorem steady_tryIntake (s : State) : Steady s (tryIntake s) := {}

theorem steady_stationsHearLine (s : State) : Steady s (stationsHearLine s) := by
  unfold stationsHearLine
  split
  · have exposure := (steady_tryIntake s).trans (steady_askExposure _)
    have washout := (steady_startReplenish (askExposure (tryIntake s))).trans (steady_evalAdmission _)
    have finisher := (steady_askFinisher (evalAdmission (startReplenish (askExposure (tryIntake s))))).trans
      (steady_tryRelease _)
    exact ((exposure.trans washout).trans finisher).trans (steady_arbiter _)
  · exact ((steady_tryReplenish s).trans (steady_tryRelease _)).trans (steady_arbiter _)
  · exact .refl s
  · exact .refl s

theorem steady_changeLine (new : LineState) (cause : Cause) (s : State) : Steady s (changeLine new cause s) := by
  have entered : Steady s (lineEntered new cause s) := by
    unfold lineEntered
    exact {}
  rw [changeLine_eq]
  exact (entered.trans (steady_raiseAttn _ _)).trans (steady_stationsHearLine _)

/-! ### The elevator's channel alone (R141, R142, R144) -/

section ElevatorChannel
variable {c : DriveChannel} (other : c ≠ .elevator) (s : State)
include other

theorem driveState_commandPhase (p : Phase) : driveState c (commandPhase p s) = driveState c s := by
  unfold commandPhase
  rw [driveState_driveOn, if_neg fun h => other h.1]
  rfl

theorem driveState_travelThen (target : Fin 8) (p : Phase) : driveState c (travelThen target p s) = driveState c s := by
  unfold travelThen
  split
  · exact driveState_commandPhase other s _
  · exact driveState_commandPhase other s _

theorem driveState_arbiter : driveState c (arbiter s) = driveState c s := by
  have put : ∀ k, driveState c (beginPut k s) = driveState c s := fun k => by
    unfold beginPut
    split
    · rfl
    · exact driveState_travelThen other _ _ _
  have take : ∀ d k, driveState c (beginTake d k s) = driveState c s := fun d k => driveState_travelThen other _ _ _
  unfold arbiter
  split
  · split
    · exact put _
    · split
      · split
        · exact take _ _
        · rfl
      · rfl
  · rfl

theorem driveState_elevatorToIdle : driveState c (elevatorToIdle s) = driveState c s := by
  unfold elevatorToIdle
  rw [driveState_arbiter other, driveState_driveOff, if_neg fun h => other h.1]
  rfl

theorem driveState_beginHoming : driveState c (beginHoming s) = driveState c s := by
  unfold beginHoming
  dsimp only
  split
  · exact driveState_elevatorToIdle other _
  · exact driveState_commandPhase other _ _

end ElevatorChannel

/-! ### The end of INIT (R66, R68, R122, R128, R140, R142, R149, R172) -/

theorem endInitLine_inactive (idle : inhibitActive s = false) : endInitLine s = changeLine .run .startUp s := by
  simp [endInitLine, idle]

theorem endInitLine_active (active : inhibitActive s = true) :
    endInitLine s = changeLine .stopped .startUp (setFlag .inhibit s) := by simp [endInitLine, active]

/-- The line state that INIT ends in (R172). -/
theorem endInitLine_line (s : State) :
    (endInitLine s).flt.lineState = (if inhibitActive s then .stopped else .run)
    ∧ (endInitLine s).flt.cause = .startUp ∧ attnHas (endInitLine s).lnk.attnPending .lineState = true
    ∧ (inhibitActive s = true → isSet .inhibit (endInitLine s) = true) := by
  cases active : inhibitActive s
  · rw [endInitLine_inactive active]
    simp [changeLine_reports]
  · rw [endInitLine_active active]
    have set := (steady_changeLine .stopped .startUp (setFlag .inhibit s)).flags .inhibit (by simp)
    simp [changeLine_reports, set, isSet_setFlag]

theorem endInitLine_steady (s : State) :
    (∀ c, driveFaulted c (endInitLine s) = driveFaulted c s)
    ∧ (∀ f, f ≠ .solventLimit → f ≠ .inhibit → isSet f (endInitLine s) = isSet f s)
    ∧ (endInitLine s).lnk.handed = s.lnk.handed ∧ (endInitLine s).lnk.heard = s.lnk.heard := by
  unfold endInitLine
  split
  · have steady := steady_changeLine .stopped .startUp (setFlag .inhibit s)
    refine ⟨fun c => (steady.faults c).trans (driveFaulted_congr (by simp) c), fun f limit inhibit => ?_,
      steady.handed.trans (by simp), steady.heard.trans (by simp)⟩
    rw [steady.flags f limit, isSet_setFlag]
    simp [inhibit]
  · have steady := steady_changeLine .run .startUp s
    exact ⟨steady.faults, fun f limit _ => steady.flags f limit, steady.handed, steady.heard⟩

theorem travelThen_put (target : Fin 8) (p : Phase) (s : State) :
    (travelThen target p s).trc.pendingPut = s.trc.pendingPut ∧ (travelThen target p s).trc.table = s.trc.table
    ∧ (travelThen target p s).trc.halted = s.trc.halted := by
  have commanded : ∀ q, (commandPhase q s).trc.pendingPut = s.trc.pendingPut
      ∧ (commandPhase q s).trc.table = s.trc.table ∧ (commandPhase q s).trc.halted = s.trc.halted := fun q => by
    simp [commandPhase]
  unfold travelThen
  split
  · exact commanded _
  · exact commanded _

/-- Without a put raised the arbiter leaves the washout exit table alone (R144, R145). -/
theorem arbiter_no_put (no_put : s.trc.pendingPut = none) :
    (arbiter s).trc.pendingPut = none ∧ (arbiter s).trc.table = s.trc.table ∧ (arbiter s).trc.halted = s.trc.halted := by
  have take : ∀ d k, (beginTake d k s).trc.pendingPut = none ∧ (beginTake d k s).trc.table = s.trc.table
      ∧ (beginTake d k s).trc.halted = s.trc.halted := fun d k => by
    unfold beginTake
    simp [travelThen_put, no_put]
  unfold arbiter
  simp only [no_put]
  split
  · split
    · split
      · exact take _ _
      · exact ⟨no_put, rfl, rfl⟩
    · exact ⟨no_put, rfl, rfl⟩
  · exact ⟨no_put, rfl, rfl⟩

theorem tryRelease_pendingPut (s : State) : (tryRelease s).trc.pendingPut = s.trc.pendingPut := by
  unfold tryRelease
  (repeat' split) <;> simp

theorem askFinisher_pendingPut (s : State) : (askFinisher s).trc.pendingPut = s.trc.pendingPut := by
  unfold askFinisher testFinished lfnFinished
  split
  · split
    · simp [tryRelease_pendingPut]
    · simp
  · simp

theorem changeLine_no_put (new : LineState) (cause : Cause) (no_put : s.trc.pendingPut = none) :
    (changeLine new cause s).trc.pendingPut = none := by
  rw [changeLine_eq, stationsHearLine]
  have entered : (raiseAttn .lineState (lineEntered new cause s)).trc.pendingPut = none := by
    simpa [lineEntered] using no_put
  split
  · refine (arbiter_no_put ?_).1
    simpa [tryRelease_pendingPut, askFinisher_pendingPut] using entered
  · refine (arbiter_no_put ?_).1
    simpa [tryRelease_pendingPut] using entered
  · exact entered
  · exact entered

theorem endInitLine_no_put (no_put : s.trc.pendingPut = none) : (endInitLine s).trc.pendingPut = none := by
  unfold endInitLine
  split
  · exact changeLine_no_put _ _ (by simpa using no_put)
  · exact changeLine_no_put _ _ no_put

theorem beginHoming_trc (no_put : s.trc.pendingPut = none) :
    (beginHoming s).trc.table = s.trc.table ∧ (beginHoming s).trc.handoff = s.trc.handoff
    ∧ (beginHoming s).trc.halted = s.trc.halted ∧ (beginHoming s).trc.level = s.trc.level
    ∧ (s.trc.level ≠ 0 →
        (beginHoming s).trc.request = some .homing ∧ (beginHoming s).trc.elevator = .inPhase (.travel 0)) := by
  unfold beginHoming
  dsimp only
  split
  · next home =>
    have idle := arbiter_no_put (s := driveOff .elevator (modTrc (fun t => { t with elevator := .idle, request := none })
      (modTrc (fun t => { t with request := some .homing }) s))) (by simpa using no_put)
    obtain ⟨-, table, halted⟩ := idle
    refine ⟨table.trans (by simp), by simp, halted.trans (by simp), by simp, fun away => absurd home away⟩
  · simp [commandPhase]

theorem endInitExu_state (s : State) :
    (endInitExu s).exu.state = if inputActive .exuPresent s then .clearWait else .empty := by
  unfold endInitExu
  dsimp only
  split
  · rfl
  · simp [exuEnterEmpty]

theorem takeNext_hands (s : State) : (takeNext s).lnk.handed = s.lnk.handed ∧ (takeNext s).lnk.heard = s.lnk.heard := by
  unfold takeNext
  (repeat' split) <;> exact ⟨rfl, rfl⟩

theorem takeNext_items (s : State) : (takeNext s).lnk.attnPending = s.lnk.attnPending := by
  unfold takeNext
  (repeat' split) <;> rfl

theorem testHeater_on (running : s.flt.lineState ≠ .init) (idle : inhibitActive s = false)
    (sound : driveFaulted .heater s = false) (cool : isSet .dryerOvertemp s = false) :
    driveState .heater (testHeater s) = .on (.value (dryerSetpoint s)) := by
  simp [testHeater, running, idle, cool, driveState_driveOn, sound]

/-- The stations' readings, after the line state has been decided. -/
def stationsRead (level : Fin 8) (s : State) : State := endInitTrc level (endInitLfn (testHeater (endInitExu s)))

theorem finishStartUp_init (level : Fin 8) (init : s.flt.lineState = .init) :
    finishStartUp level s = takeNext (beginHoming (stationsRead level (endInitLine (discardArming s)))) := if_pos init

theorem steady_testHeater (s : State) : Steady s (testHeater s) := by
  unfold testHeater
  split
  · exact steady_driveOn _ _ s
  · exact steady_driveOff _ s

theorem stationsRead_trc (level : Fin 8) (s : State) :
    (stationsRead level s).trc.table = (if inputActive .washExitPresent s then .clearWait else .empty)
    ∧ (stationsRead level s).trc.handoff = (if inputActive .exitPresent s then .doneWaitClear else .empty)
    ∧ (stationsRead level s).trc.halted = (inhibitActive s || driveFaulted .elevator s)
    ∧ (stationsRead level s).trc.level = level ∧ (stationsRead level s).trc.pendingPut = s.trc.pendingPut := by
  have senses : ∀ fn, inputActive fn (endInitLfn (testHeater (endInitExu s))) = inputActive fn s :=
    inputActive_congr (by simp) (by simp)
  have faults : driveFaulted .elevator (endInitLfn (testHeater (endInitExu s))) = driveFaulted .elevator s := by
    rw [driveFaulted_congr (s := testHeater (endInitExu s)) (by simp), (steady_testHeater _).faults]
    exact driveFaulted_congr (by simp) _
  unfold stationsRead endInitTrc haltCause
  simp only [modTrc_trc, senses, inhibitActive, faults]
  simp

theorem stationsRead_stations (level : Fin 8) (s : State) :
    (stationsRead level s).exu.state = (if inputActive .exuPresent s then .clearWait else .empty)
    ∧ (stationsRead level s).lfn.state = (if inputActive .lfnPresent s then .clearWait else .empty)
    ∧ (stationsRead level s).flt = s.flt ∧ (stationsRead level s).lnk = s.lnk
    ∧ (stationsRead level s).ptb = s.ptb ∧ (stationsRead level s).rss = s.rss ∧ (stationsRead level s).dry = s.dry
    ∧ (stationsRead level s).lio.inputs = s.lio.inputs := by
  have senses : ∀ fn, inputActive fn (testHeater (endInitExu s)) = inputActive fn s :=
    inputActive_congr (by simp) (by simp)
  refine ⟨by simp [stationsRead, endInitExu_state], ?_, by simp [stationsRead], by simp [stationsRead],
    by simp [stationsRead], by simp [stationsRead], by simp [stationsRead], by simp [stationsRead]⟩
  unfold stationsRead
  simp [endInitLfn, senses]

theorem stationsRead_heater (level : Fin 8) (running : s.flt.lineState ≠ .init) (idle : inhibitActive s = false)
    (sound : driveFaulted .heater s = false) (cool : isSet .dryerOvertemp s = false) :
    driveState .heater (stationsRead level s) = .on (.value (dryerSetpoint s)) := by
  have exu : (endInitExu s).flt = s.flt := by simp
  have on := testHeater_on (s := endInitExu s) (by rw [exu]; exact running)
    ((inhibitActive_congr (by simp) (by simp)).trans idle) ((driveFaulted_congr (by simp) _).trans sound)
    ((isSet_congr (by simp) _).trans cool)
  have setpoint : dryerSetpoint (endInitExu s) = dryerSetpoint s := by simp [dryerSetpoint]
  rw [← setpoint, ← on]
  exact driveState_congr (by simp [stationsRead]) _

/-- Settles O13. -/
theorem startUpEndsInit : Obligations.StartUpEndsInit := by
  unfold Obligations.StartUpEndsInit
  have run : ∀ level s, exec (.startUpLoadFinished level) s = event (finishStartUp level) s := fun _ _ => rfl
  refine ⟨fun level s power init no_put => ⟨finishStartUp level s, event_on power, ?_⟩, fun level s ended => ?_⟩
  · have same : ∀ fn, inputActive fn (endInitLine (discardArming s)) = inputActive fn s :=
      inputActive_congr (by simp) (by simp)
    have inhibit : inhibitActive (discardArming s) = inhibitActive s := rfl
    obtain ⟨line, cause, reported, flagged⟩ := endInitLine_line (discardArming s)
    obtain ⟨faults, flags, handed, heard⟩ := endInitLine_steady (discardArming s)
    have put := endInitLine_no_put (s := discardArming s) (by simpa using no_put)
    have kept : (endInitLine (discardArming s)).ptb.queue = s.ptb.queue ∧ (endInitLine (discardArming s)).rss = s.rss
        ∧ (endInitLine (discardArming s)).dry.clock = s.dry.clock
        ∧ (endInitLine (discardArming s)).lio.inputs = s.lio.inputs
        ∧ (endInitLine (discardArming s)).lnk.watchdog = s.lnk.watchdog := by simp
    have masks : (endInitLine (discardArming s)).flt.masks = s.flt.masks := by
      unfold endInitLine
      split <;> simp
    rw [finishStartUp_init level init]
    generalize endInitLine (discardArming s) = u at *
    obtain ⟨table, handoff, halted, at_level, no_put⟩ := stationsRead_trc level u
    obtain ⟨exu, lfn, flt, lnk, ptb, rss, dry, inputs⟩ := stationsRead_stations level u
    obtain ⟨homing_table, homing_handoff, homing_halted, homing_level, homes⟩ := beginHoming_trc (no_put.trans put)
    have hands := takeNext_hands (beginHoming (stationsRead level u))
    have exu_kept : (takeNext (beginHoming (stationsRead level u))).exu.state = (stationsRead level u).exu.state := by simp
    have lfn_kept : (takeNext (beginHoming (stationsRead level u))).lfn.state = (stationsRead level u).lfn.state := by simp
    have trc_kept : (takeNext (beginHoming (stationsRead level u))).trc = (beginHoming (stationsRead level u)).trc := by simp
    have flt_kept : (takeNext (beginHoming (stationsRead level u))).flt = u.flt := by simp [flt]
    have line_run : inhibitActive s = false → u.flt.lineState = .run := fun idle => by simp [line, inhibit, idle]
    refine ⟨fun idle => ?_, fun active => ⟨?_, ?_⟩, ?_, ?_, ?_, ?_, ?_, ?_, ?_, ?_, fun away => ?_, fun idle sound cool => ?_, ?_⟩
    · rw [flt_kept, line_run idle]
    · rw [flt_kept, line, inhibit, active]
      rfl
    · rw [isSet_congr (congrArg FaultMonitor.flags flt_kept)]
      exact flagged active
    · rw [flt_kept, cause]
    · rw [takeNext_items]
      simpa [lnk] using reported
    · rw [exu_kept, exu, same]
    · rw [lfn_kept, lfn, same]
    · rw [trc_kept, homing_table, table, same]
    · rw [trc_kept, homing_handoff, handoff, same]
    · rw [trc_kept, homing_halted, halted, faults]
      exact congrArg (· || driveFaulted .elevator s) (same .inhibit)
    · rw [trc_kept, homing_level, at_level]
    · rw [trc_kept]
      exact homes (by rw [at_level]; exact away)
    · have on := stationsRead_heater level (s := u) (by simp [line_run idle]) ((same .inhibit).trans idle)
        ((faults _).trans sound) ((flags _ (by simp) (by simp)).trans cool)
      have setpoint : dryerSetpoint u = s.rss.working.cal.dryerSetpoint := by simp [dryerSetpoint, kept]
      rw [driveState_congr (s := beginHoming (stationsRead level u)) (by simp), driveState_beginHoming (by simp), on, setpoint]
    · simp [hands, lnk, ptb, rss, dry, inputs, flt, kept, masks, handed, heard]
  · simp [run, event, finishStartUp, ended]

end Sys2Proof.Machine
end

section
/-! SUPPORT. Requests on flags' masks, recipes and plates, and the start of a run: the settlements of O25, O28, O30, O31,
O35 and O43 (R12, R15, R18, R19, R23, R27 to R30, R46, R47, R184). -/

namespace Sys2Proof.Machine
variable {s : State}

/-! ### Sets of fault flags (R184, R195) -/

theorem flagSetOfBytes_bFlagSet (m : FlagSet) :
    flagSetOfBytes (BitVec.ofNat 8 m.toNat) (BitVec.ofNat 8 (m.toNat / 256)) (BitVec.ofNat 8 (m.toNat / 65536))
      (BitVec.ofNat 8 (m.toNat / 16777216)) (BitVec.ofNat 8 (m.toNat / 4294967296)) = some m := by
  have small : m.toNat < 34359738368 := m.isLt
  have top : (BitVec.ofNat 8 (m.toNat / 4294967296)).toNat < 8 := by
    rw [BitVec.toNat_ofNat]
    omega
  rw [flagSetOfBytes, if_pos top]
  refine congrArg some (BitVec.eq_of_toNat_eq ?_)
  simp only [BitVec.toNat_ofNat]
  omega

theorem allFlags_place : ∀ i : Fin 35, ∃ f ∈ allFlags, f.place = i.val := by decide

/-- Two sets are apart exactly when no flag is in both. -/
theorem flagSet_and_eq_zero_iff (a b : FlagSet) :
    a &&& b = 0#35 ↔ ∀ f, flagHas a f = true → flagHas b f = false := by
  refine ⟨fun apart f has => ?_, fun apart => BitVec.eq_of_getLsbD_eq fun i hi => ?_⟩
  · have none : flagHas (a &&& b) f = false := by rw [apart]; simp [flagHas]
    rw [flagHas_and, has, Bool.true_and] at none
    exact none
  · obtain ⟨f, -, place⟩ := allFlags_place ⟨i, hi⟩
    have none : (a.getLsbD f.place && b.getLsbD f.place) = false := by
      cases has : a.getLsbD f.place with
      | false => rfl
      | true => exact apart f has
    rw [place] at none
    simpa using none

/-! ### FAULT_MASK (R184) -/

section Mask
variable {mask unmask : FlagSet}

theorem maskRefused_iff : maskRefused mask unmask = true ↔
    flagHas mask .inhibit = true ∨ flagHas mask .storeCheck = true ∨ ∃ f, flagHas mask f = true ∧ flagHas unmask f = true := by
  have overlap : mask &&& unmask ≠ 0#35 ↔ ∃ f, flagHas mask f = true ∧ flagHas unmask f = true := by
    simp only [ne_eq, flagSet_and_eq_zero_iff, not_forall, Bool.not_eq_false, exists_prop]
  simp only [maskRefused, Bool.or_eq_true, bne_iff_ne, overlap, or_assoc]

theorem actFaultMask_bytes (mask unmask : FlagSet) (s : State) : actFaultMask (bFlagSet mask ++ bFlagSet unmask) s =
    if maskRefused mask unmask then (s, refusal .badField)
    else (faultMask mask unmask s, okReply (bFlagSet (faultMask mask unmask s).flt.masks)) := by
  simp only [bFlagSet, List.cons_append, List.nil_append, actFaultMask, flagSetOfBytes_bFlagSet]

/-- An unmasked set flag is gained exactly when a set and masked flag is unmasked. -/
theorem unmasked_gained : s.flt.flags &&& s.flt.masks &&& unmask ≠ 0#35 ↔
    ∃ f, isSet f s = true ∧ flagHas s.flt.masks f = true ∧ flagHas unmask f = true := by
  simp only [ne_eq, flagSet_and_eq_zero_iff, flagHas_and, Bool.and_eq_true, not_forall, Bool.not_eq_false, exists_prop,
    and_assoc]
  rfl

theorem faultMask_masks (f : Flag) : flagHas (faultMask mask unmask s).flt.masks f =
    ((flagHas s.flt.masks f || flagHas mask f) && !flagHas unmask f) := by
  have masks : (faultMask mask unmask s).flt.masks = (s.flt.masks ||| mask) &&& ~~~unmask := by
    unfold faultMask
    dsimp only
    split <;> simp
  rw [masks, flagHas_and, flagHas_or, flagHas_not]

theorem faultMask_reports : attnHas (faultMask mask unmask s).lnk.attnPending .fault = true ↔
    attnHas s.lnk.attnPending .fault = true
      ∨ ∃ f, isSet f s = true ∧ flagHas s.flt.masks f = true ∧ flagHas unmask f = true := by
  rw [← unmasked_gained]
  unfold faultMask
  dsimp only
  split
  · next none => simp [none]
  · next some => simp [some, raiseAttn_pending, attnHas_or, attnHas_attnBit]

end Mask

/-- Settles O25, by the two cases of R184. -/
theorem Requests.faultMask : Obligations.FaultMask := by
  unfold Obligations.FaultMask
  intro tag mask unmask s ready
  have part := actFaultMask_bytes mask unmask (serving (.frame ⟨82#8, tag, bFlagSet mask ++ bFlagSet unmask⟩) s)
  refine ⟨fun refused => ?_, fun inhibit store apart => ?_⟩
  · exact request_answered (part.trans (if_pos (maskRefused_iff.2 refused))) (by simp [bFlagSet]) rfl ready
  · have allowed : ¬ maskRefused mask unmask = true := by
      rw [maskRefused_iff]
      rintro (h | h | ⟨f, h, g⟩)
      · exact absurd h (by simp [inhibit])
      · exact absurd h (by simp [store])
      · exact absurd g (by simp [apart f h])
    have frame := actFaultMask_frame (bFlagSet mask ++ bFlagSet unmask)
      (serving (.frame ⟨82#8, tag, bFlagSet mask ++ bFlagSet unmask⟩) s)
    rw [part, if_neg allowed] at frame
    obtain ⟨-, -, hptb, hrss, hdin, hexu, hwou, hdry, hlfn, htrc, hin, hdr, hla, hls, hca, hfl, -, -, -, htx, -⟩ := frame
    have runs := part.trans (if_neg allowed)
    refine ⟨_, request_served runs (hls.symm ▸ ready.2.1) (by simp [bFlagSet]) rfl ready, ?_⟩
    refine ⟨fun f => faultMask_masks f, hfl, hls, hca, faultMask_reports, ?_, hptb, hrss, hdin, hexu, hwou, hdry, hlfn, htrc,
      hdr, hla, hin⟩
    exact congrArg (· ++ _) htx

/-! ### RECIPE_READ (R29) -/

theorem recipeIndex_of {n : Nat} (i : Fin 24) (h : n = i.val + 1) : recipeIndex n = some i := by
  subst h
  rw [recipeIndex, dif_pos ⟨by omega, i.isLt⟩]
  rfl

theorem recipeIndex_out {n : Nat} (h : n < 1 ∨ 24 < n) : recipeIndex n = none := dif_neg (by omega)

/-- A recipe number's byte, written back from its slot. -/
theorem slotByte {n : Byte} {i : Nat} (h : n.toNat = i + 1) : BitVec.ofNat 8 (i + 1) = n := by
  rw [← h, BitVec.ofNat_toNat, BitVec.setWidth_eq]

/-- Settles O28, by the values of the number sent. -/
theorem recipeRead : Obligations.RecipeRead := by
  unfold Obligations.RecipeRead
  intro tag n s ready
  have answers {r : Reply} (part : ∀ t : State, t.rss = s.rss → actRecipeRead [n] t = (t, r)) :
      Answers (.recipeRead tag [n]) ⟨49#8, tag, [n]⟩ r s :=
    request_answered (part _ rfl) (by simp) rfl ready
  refine ⟨fun zero => answers fun t same => ?_, fun i number => ⟨fun empty => answers fun t same => ?_,
    fun r found => answers fun t same => ?_⟩, fun high => answers fun t same => ?_⟩
  · have recipes : recipeAt t = recipeAt s := by funext i; simp only [recipeAt, same]
    have entries : recipeListEntry t = recipeListEntry s := by funext i; simp only [recipeListEntry, recipes]
    have list : (t, okReply (recipeListFields t)) = (t, okReply (recipeListFields s)) := by
      simp only [recipeListFields, entries, recipes]
    exact (if_pos zero).trans list
  all_goals
    unfold actRecipeRead
    rw [if_neg (show ¬ at1 [n] 0 = 0 by simp only [at1, List.getD_cons_zero]; omega)]
  · have at_ : recipeAt t i = none := by simpa only [recipeAt, same] using empty
    simp only [show recipeIndex (at1 [n] 0) = some i from recipeIndex_of i number, at_]
    rfl
  · have at_ : recipeAt t i = some r := by simpa only [recipeAt, same] using found
    simp only [show recipeIndex (at1 [n] 0) = some i from recipeIndex_of i number, at_, encodeRecipe, b1, slotByte number]
    rfl
  · simp only [show recipeIndex (at1 [n] 0) = none from recipeIndex_out (.inr high)]
    rfl

/-! ### RECIPE_WRITE and RECIPE_DELETE (R27, R28, R30) -/

theorem encodeName_length (name : List Byte) : (encodeName name).length = 16 := by simp [encodeName]

/-- A printable name of at most 16 characters is read back from its 16 bytes. -/
theorem nameOf_encodeName {name : List Byte} (short : name.length ≤ 16)
    (printable : ∀ b ∈ name, 32 ≤ b.toNat ∧ b.toNat ≤ 126) : nameOf (encodeName name) = some name := by
  have padded : encodeName name = name ++ List.replicate (16 - name.length) 0#8 := by
    rw [encodeName, List.take_append, List.take_of_length_le short, List.take_replicate]
    congr 2
    omega
  have front : ∀ b ∈ name, (b.toNat != 0) = true := fun b mem => by
    have := (printable b mem).1
    simp only [bne_iff_ne]
    omega
  have taken : (encodeName name).takeWhile (fun b => b.toNat != 0) = name := by
    rw [padded, List.takeWhile_append_of_pos front]
    cases 16 - name.length <;> simp [List.replicate_succ]
  simp only [nameOf, taken]
  rw [if_pos]
  simpa using printable

/-- A byte of a recipe past its number and its 16 name bytes. -/
theorem getD_afterName (a z : Byte) (name fields : List Byte) (j : Nat) :
    (a :: (encodeName name ++ fields)).getD (17 + j) z = fields.getD j z := by
  have split : 17 + j = (encodeName name).length + j + 1 := by rw [encodeName_length]; omega
  rw [split, List.getD_cons_succ, List.getD_append_right _ _ _ _ (Nat.le_add_right _ _), Nat.add_sub_cancel_left]

/-- The numbers of a process fit the bytes RECIPE_WRITE's body has for them (R195). -/
structure Process.Codable (p : Process) : Prop where
  lamps : ∀ lp ∈ [p.back, p.main, p.uva, p.uvc], lp.target < 65536 ∧ lp.level < 256 ∧ lp.eSet < 65536
  exposureStretch : p.exposureStretch < 65536
  vNom : p.vNom < 65536
  dryTime : p.dryTime < 65536
  finisherStretch : p.finisherStretch < 65536

theorem lampProcess_back {t l e : Nat} (h : t < 65536 ∧ l < 256 ∧ e < 65536) :
    (⟨num2 (BitVec.ofNat 8 (t / 256)) (BitVec.ofNat 8 t), (BitVec.ofNat 8 l).toNat,
      num2 (BitVec.ofNat 8 (e / 256)) (BitVec.ofNat 8 e)⟩ : LampProcess) = ⟨t, l, e⟩ := by
  obtain ⟨ht, hl, he⟩ := h
  rw [num2_ofNat ht, num2_ofNat he, BitVec.toNat_ofNat, Nat.mod_eq_of_lt hl]

theorem processAt_encode (a : Byte) (name : List Byte) {p : Process} (h : p.Codable) :
    processAt (a :: (encodeName name ++ encodeProcess p)) p.holdOnUnderdose = p := by
  have back := lampProcess_back (h.lamps p.back (by simp))
  have main := lampProcess_back (h.lamps p.main (by simp))
  have uva := lampProcess_back (h.lamps p.uva (by simp))
  have uvc := lampProcess_back (h.lamps p.uvc (by simp))
  have at_ (j : Nat) := getD_afterName a 0#8 name (encodeProcess p) j
  simp only [processAt, lampProcessAt, at2, at1, at_ 0, at_ 1, at_ 2, at_ 3, at_ 4, at_ 5, at_ 6, at_ 7, at_ 8, at_ 9,
    at_ 10, at_ 11, at_ 13, at_ 14, at_ 15, at_ 16, at_ 17, at_ 18, at_ 19, at_ 20, at_ 21, at_ 22, at_ 23, at_ 24, at_ 25,
    at_ 26, at_ 27, at_ 28]
  simp only [encodeProcess, encodeLampProcess, b1, b2, bBool, List.cons_append, List.nil_append, List.getD_cons_succ,
    List.getD_cons_zero, back, main, uva, uvc, num2_ofNat h.exposureStretch, num2_ofNat h.vNom, num2_ofNat h.dryTime,
    num2_ofNat h.finisherStretch]

theorem boolOf_encode (a : Byte) (name : List Byte) (p : Process) :
    boolOf ((a :: (encodeName name ++ encodeProcess p)).getD 29 0#8) = some p.holdOnUnderdose := by
  rw [show (29 : Nat) = 17 + 12 from rfl, getD_afterName]
  simp only [encodeProcess, encodeLampProcess, b1, b2, bBool, List.cons_append, List.nil_append, List.getD_cons_succ,
    List.getD_cons_zero]
  cases p.holdOnUnderdose <;> rfl

theorem actRecipeWrite_encode {i : Fin 24} {r : Recipe} (short : r.name.length ≤ 16)
    (printable : ∀ b ∈ r.name, 32 ≤ b.toNat ∧ b.toNat ≤ 126) (h : r.process.Codable) (s : State) :
    actRecipeWrite (encodeRecipe i r) s =
      if targetsInRange r.process then
        (setRecipe i (some { r with process := clampProcess r.process }) s,
          okOrClamped (clampProcess r.process != r.process) (encodeRecipe i { r with process := clampProcess r.process }))
      else (s, refusal .badField) := by
  have number : at1 (encodeRecipe i r) 0 = i.val + 1 := by
    simp only [at1, encodeRecipe, b1, List.cons_append, List.getD_cons_zero, BitVec.toNat_ofNat]
    have := i.isLt
    omega
  have name : ((encodeRecipe i r).drop 1).take 16 = encodeName r.name := by
    simp only [encodeRecipe, b1, List.cons_append, List.nil_append, List.drop_succ_cons, List.drop_zero]
    exact List.take_left' (encodeName_length _)
  simp only [actRecipeWrite, recipeIndex_of i number, name, nameOf_encodeName short printable]
  simp only [encodeRecipe, b1, List.cons_append, List.nil_append, boolOf_encode, processAt_encode _ _ h]

theorem targetsInRange_iff (p : Process) : targetsInRange p = true ↔
    p.back.target ≤ 60000 ∧ 1 ≤ p.main.target ∧ p.main.target ≤ 60000 ∧ p.uva.target ≤ 60000 ∧ p.uvc.target ≤ 60000 := by
  simp only [targetsInRange, Bool.and_eq_true, decide_eq_true_eq, and_assoc]

theorem clampNat_eq (lo hi n : Nat) : clampNat lo hi n = max lo (min n hi) := rfl

theorem encodeRecipe_length (i : Fin 24) (r : Recipe) : (encodeRecipe i r).length = 46 := by
  simp [encodeRecipe, encodeName_length, encodeProcess, encodeLampProcess, b1, b2, bBool]

theorem serviceBlind_actRecipeWrite (body : List Byte) : ServiceBlind (actRecipeWrite body) := by
  intro e s
  unfold actRecipeWrite
  split
  · dsimp only
    split <;> rfl
  · rfl

theorem serviceBlind_actRecipeDelete (body : List Byte) : ServiceBlind (actRecipeDelete body) := by
  intro e s
  unfold actRecipeDelete
  split
  · rfl
  · next i _ =>
    have same : recipeAt (serving e s) i = recipeAt s i := rfl
    rw [same]
    split <;> rfl

theorem bodyFits_recipeWrite {tag : Byte} {body : List Byte} (long : body.length = 46) :
    bodyFits ⟨48#8, tag, body⟩ = true := beq_iff_eq.2 long

/-- Settles O35: the body read back, then R27's and R28's cases; the values of the number for R30. -/
theorem recipeWriteAndDelete : Obligations.RecipeWriteAndDelete := by
  unfold Obligations.RecipeWriteAndDelete
  refine ⟨fun tag i r s short printable lamps es vn dt fs ready => ?_, fun tag n s ready => ?_⟩
  · have part := actRecipeWrite_encode (i := i) short printable ⟨lamps, es, vn, dt, fs⟩ s
    have run : exec (.recipeWrite tag (encodeRecipe i r)) s = .next (replied 48#8 tag
        (actRecipeWrite (encodeRecipe i r) s).2 (actRecipeWrite (encodeRecipe i r) s).1) :=
      request_next (serviceBlind_actRecipeWrite _) (by simp) (by rw [encodeRecipe_length]; omega)
        (bodyFits_recipeWrite (encodeRecipe_length i r)) ready
    rw [part] at run
    intro inRange level stored
    have range := targetsInRange_iff r.process
    refine ⟨fun out => ?_, fun ok => ?_⟩
    · rw [if_neg (range.not.2 out)] at run
      exact run
    · have same : ({ r with process := clampProcess r.process } : Recipe) = stored := rfl
      have kept : (clampProcess r.process != r.process) = !decide (stored = r) := by
        have : stored = r ↔ clampProcess r.process = r.process := by
          rw [← same]
          constructor
          · exact fun eq => congrArg Recipe.process eq
          · intro eq
            rw [eq]
        by_cases eq : stored = r
        · simp [eq, this.1 eq]
        · simp [eq, this.not.1 eq]
      rw [if_pos (range.2 ok), same, kept] at run
      rw [run]
      by_cases eq : stored = r
      · simp only [eq, decide_true, Bool.not_true, okOrClamped, if_true, Bool.false_eq_true, if_false]
        rfl
      · simp only [eq, decide_false, Bool.not_false, okOrClamped, if_true, if_false]
        rfl
  · have run : exec (.recipeDelete tag [n]) s = .next (replied 50#8 tag
        (actRecipeDelete [n] s).2 (actRecipeDelete [n] s).1) :=
      request_next (serviceBlind_actRecipeDelete _) (by simp) (by simp) rfl ready
    refine ⟨fun out => ?_, fun i number => ⟨fun empty => ?_, fun full => ?_⟩⟩
    · have part : actRecipeDelete [n] s = (s, refusal .badField) := by
        simp only [actRecipeDelete, show recipeIndex (at1 [n] 0) = none from recipeIndex_out out]
      rw [part] at run
      exact run
    · have part : actRecipeDelete [n] s = (s, refusal .notFound) := by
        simp [actRecipeDelete, show recipeIndex (at1 [n] 0) = some i from recipeIndex_of i number, empty]
      rw [part] at run
      exact run
    · have part : actRecipeDelete [n] s = (setRecipe i none s, okReply []) := by
        simp [actRecipeDelete, show recipeIndex (at1 [n] 0) = some i from recipeIndex_of i number, full]
      rw [part] at run
      exact run

/-! ### Plate selectors (R12, R195) -/

theorem byte_eq_iff (a : Byte) (n : Nat) (small : n < 256) : a = BitVec.ofNat 8 n ↔ a.toNat = n := by
  constructor
  · rintro rfl
    rw [BitVec.toNat_ofNat]
    omega
  · rintro rfl
    rw [BitVec.ofNat_toNat, BitVec.setWidth_eq]

section Selector
variable {how hi lo : Byte}

theorem selectorOf_slot (h : how = 1#8) : selectorOf how hi lo =
    if 1 ≤ num2 hi lo ∧ num2 hi lo ≤ 40 then some (.slot (num2 hi lo)) else none := by
  subst h
  rfl

theorem selectorOf_plateId (h : how = 2#8) : selectorOf how hi lo =
    if 1 ≤ num2 hi lo ∧ num2 hi lo ≤ 65534 then some (.plateId (num2 hi lo)) else none := by
  subst h
  rfl

theorem selectorOf_other (h1 : how ≠ 1#8) (h2 : how ≠ 2#8) : selectorOf how hi lo = none := by
  have n1 : ¬ how.toNat = 1 := (byte_eq_iff how 1 (by omega)).not.1 h1
  have n2 : ¬ how.toNat = 2 := (byte_eq_iff how 2 (by omega)).not.1 h2
  unfold selectorOf
  dsimp only
  rw [if_neg n1, if_neg n2]

theorem selectorOf_eq_none_iff : selectorOf how hi lo = none ↔
    ¬ (how = 1#8 ∧ 1 ≤ num2 hi lo ∧ num2 hi lo ≤ 40) ∧ ¬ (how = 2#8 ∧ 1 ≤ num2 hi lo ∧ num2 hi lo ≤ 65534) := by
  by_cases slot : how = 1#8
  · have other : ¬ how = 2#8 := by rw [slot]; decide
    rw [selectorOf_slot slot]
    simp [slot]
  · by_cases id : how = 2#8
    · rw [selectorOf_plateId id]
      simp [id]
    · simp [selectorOf_other slot id, slot, id]

theorem lookup_slot_iff {n : Nat} (low : 1 ≤ n) (k : Slot) :
    lookup (.slot n) s = some k ↔ n = k.val + 1 ∧ plateAt s k ≠ none := by
  have bound := k.isLt
  simp only [lookup]
  split
  · next inside =>
    split
    · next full =>
      simp only [Option.some.injEq, Fin.ext_iff]
      constructor
      · intro eq
        have same : (⟨n - 1, inside⟩ : Slot) = k := Fin.ext eq
        refine ⟨by omega, ?_⟩
        rw [← same]
        exact Option.isSome_iff_ne_none.1 full
      · rintro ⟨eq, -⟩
        omega
    · next free =>
      simp only [reduceCtorEq, false_iff, not_and, not_not]
      intro eq
      have same : (⟨n - 1, inside⟩ : Slot) = k := Fin.ext (by simp [eq])
      rw [← same]
      simpa using free
  · next outside =>
    simp only [reduceCtorEq, false_iff, not_and]
    omega

theorem lookup_congr {t : State} (table : t.ptb = s.ptb) (x : Selector) : lookup x t = lookup x s := by
  have records : plateAt t = plateAt s := by funext k; simp only [plateAt, table]
  have carries : ∀ id, carriesId t id = carriesId s id := fun id => by funext k; simp only [carriesId, records]
  cases x with
  | slot n => simp only [lookup, records]
  | plateId id => simp only [lookup, slotOfId, carries]

theorem slotOfId_eq_some_iff (h : TableLawful s) (id : Nat) (k : Slot) :
    slotOfId s id = some k ↔ ∃ r, plateAt s k = some r ∧ r.plateId = id := by
  rw [← carriesId_iff]
  refine ⟨fun found => List.find?_some found, fun carries => ?_⟩
  obtain ⟨r, held, same⟩ := carriesId_iff.1 carries
  obtain ⟨j, first⟩ := Option.isSome_iff_exists.1 (slotOfId_isSome_iff.2 ⟨k, r, held, same⟩)
  obtain ⟨p, heldJ, sameJ⟩ := carriesId_iff.1 (List.find?_some first)
  rw [first, h.1 j k p r heldJ held (sameJ.trans same.symm)]

end Selector

/-- Settles O30: R12's selectors, read as a slot or as a plate id, and the refusals they lead to. -/
theorem plateSelectors : Obligations.PlateSelectors := by
  unfold Obligations.PlateSelectors
  refine ⟨fun how hi lo s lawful => ⟨selectorOf_eq_none_iff.symm, fun slot k => ?_, fun id low high k => ?_⟩, ?_⟩
  · have bound := k.isLt
    simp only [selected, selectorOf_slot slot]
    split
    · next inside => exact lookup_slot_iff inside.1 k
    · next outside =>
      simp only [Option.bind_none, reduceCtorEq, false_iff, not_and]
      intro eq
      refine absurd ?_ outside
      simp only [num2]
      omega
  · simp only [selected, selectorOf_plateId id]
    rw [if_pos ⟨low, high⟩]
    exact slotOfId_eq_some_iff lawful _ k
  · intro tag how hi lo s c mem f frame ready
    have answers {st : Status} (act : Slot → PlateRecord → State → State × Reply) (kind : Byte)
        (same : exec c s = request kind tag [how, hi, lo] (onPlate [how, hi, lo] act) s) (fe : f = ⟨kind, tag, [how, hi, lo]⟩)
        (fits : bodyFits ⟨kind, tag, [how, hi, lo]⟩ = true)
        (part : ∀ t, t.ptb = s.ptb → withPlate (selectorOf how hi lo) act t = (t, refusal st)) :
        Answers c f ⟨st, []⟩ s := by
      subst fe
      exact same.trans (request_answered (part _ rfl) (by simp) fits ready)
    have refused (act : Slot → PlateRecord → State → State × Reply) (kind : Byte)
        (same : exec c s = request kind tag [how, hi, lo] (onPlate [how, hi, lo] act) s) (fe : f = ⟨kind, tag, [how, hi, lo]⟩)
        (fits : bodyFits ⟨kind, tag, [how, hi, lo]⟩ = true) :
        (selectorOf how hi lo = none → Answers c f ⟨.badField, []⟩ s)
        ∧ (selectorOf how hi lo ≠ none → selected how hi lo s = none → Answers c f ⟨.notFound, []⟩ s) := by
      refine ⟨fun out => answers act kind same fe fits fun t _ => withPlate_badField _ out,
        fun sel missing => answers act kind same fe fits fun t table => withPlate_notFound _ sel ?_⟩
      simpa only [selected, lookup_congr table] using missing
    simp only [List.mem_cons, List.not_mem_nil, or_false] at mem
    rcases mem with rfl | rfl | rfl | rfl | rfl <;> cases frame
    · exact refused readPlate 33#8 rfl rfl rfl
    · exact refused cancelPlate 35#8 rfl rfl rfl
    · exact refused movePlateToHead 37#8 rfl rfl rfl
    · exact refused ejectPlate 39#8 rfl rfl rfl
    · exact refused retirePlate 40#8 rfl rfl rfl

/-! ### PLATE_READ, PLATE_CANCEL, QUEUE_MOVE and PLATE_RETIRE (R15, R18, R19, R23) -/

theorem serviceBlind_onPlate (body : List Byte) {act : Slot → PlateRecord → State → State × Reply}
    (blind : ∀ k r, ServiceBlind (act k r)) : ServiceBlind (onPlate body act) := by
  intro e s
  unfold onPlate
  split
  · exact serviceBlind_withPlate _ blind e s
  · rfl

theorem raiseAttn_serving (a : AttnItem) (e : RxEntry) (s : State) :
    raiseAttn a (serving e s) = serving e (raiseAttn a s) := by
  have pending : (serving e s).lnk.attnPending = s.lnk.attnPending := rfl
  have enabled : (serving e s).rss = s.rss := rfl
  unfold raiseAttn
  rw [pending]
  split <;> rfl

theorem reportQueueEmpty_serving (e : RxEntry) (s : State) :
    reportQueueEmpty (serving e s) = serving e (reportQueueEmpty s) := by
  unfold reportQueueEmpty
  rw [serving_ptb]
  split
  · exact raiseAttn_serving _ e s
  · rfl

theorem serviceBlind_cancelPlate (k : Slot) (r : PlateRecord) : ServiceBlind (cancelPlate k r) := by
  intro e s
  unfold cancelPlate
  split
  · exact Prod.ext (reportQueueEmpty_serving e (setPlate k none (leaveQueue k s))) rfl
  · rfl

theorem serviceBlind_movePlateToHead (k : Slot) (r : PlateRecord) : ServiceBlind (movePlateToHead k r) := by
  intro e s
  unfold movePlateToHead
  split <;> rfl

theorem serviceBlind_retirePlate (k : Slot) (r : PlateRecord) : ServiceBlind (retirePlate k r) := by
  intro e s
  unfold retirePlate
  split <;> rfl

section Plate
variable {tag how hi lo : Byte} {k : Slot} {r : PlateRecord}
  (named : selected how hi lo s = some k) (held : plateAt s k = some r)
include named held

/-- A request that names plate `k` has the effect and the reply of its part on that plate. -/
theorem request_onPlate {kind : Byte} {act : Slot → PlateRecord → State → State × Reply}
    (blind : ∀ j p, ServiceBlind (act j p)) (line : (act k r s).1.flt.lineState = s.flt.lineState)
    (fits : bodyFits ⟨kind, tag, [how, hi, lo]⟩ = true) (ready : Servable (.frame ⟨kind, tag, [how, hi, lo]⟩) s) :
    request kind tag [how, hi, lo] (onPlate [how, hi, lo] act) s =
      .next (replied kind tag (act k r s).2 (act k r s).1) := by
  have part : onPlate [how, hi, lo] act s = act k r s := withPlate_found act named held
  have run := request_next (serviceBlind_onPlate [how, hi, lo] blind) (by rw [part]; exact line) (by simp) fits ready
  rwa [part] at run

theorem exec_plateCancel (ready : Servable (.frame ⟨35#8, tag, [how, hi, lo]⟩) s) :
    exec (.plateCancel tag [how, hi, lo]) s = .next (replied 35#8 tag (cancelPlate k r s).2 (cancelPlate k r s).1) :=
  request_onPlate named held serviceBlind_cancelPlate (by simp) rfl ready

theorem exec_queueMove (ready : Servable (.frame ⟨37#8, tag, [how, hi, lo]⟩) s) :
    exec (.queueMove tag [how, hi, lo]) s =
      .next (replied 37#8 tag (movePlateToHead k r s).2 (movePlateToHead k r s).1) :=
  request_onPlate named held serviceBlind_movePlateToHead (by simp) rfl ready

theorem exec_plateRetire (ready : Servable (.frame ⟨40#8, tag, [how, hi, lo]⟩) s) :
    exec (.plateRetire tag [how, hi, lo]) s = .next (replied 40#8 tag (retirePlate k r s).2 (retirePlate k r s).1) :=
  request_onPlate named held serviceBlind_retirePlate (by simp) rfl ready

theorem exec_plateRead (ready : Servable (.frame ⟨33#8, tag, [how, hi, lo]⟩) s) :
    exec (.plateRead tag [how, hi, lo]) s = .next (replied 33#8 tag (readPlate k r s).2 (readPlate k r s).1) :=
  request_onPlate named held (fun _ _ _ _ => rfl) rfl rfl ready

end Plate

section Lengths

@[simp] theorem b1_length (n : Nat) : (b1 n).length = 1 := rfl
@[simp] theorem b2_length (n : Nat) : (b2 n).length = 2 := rfl
@[simp] theorem b4_length (n : Nat) : (b4 n).length = 4 := rfl

theorem bEnumOpt_length {α : Type} [BEq α] (l : List α) (o : Option α) : (bEnumOpt l o).length = 1 := rfl

theorem bOrZero_length (o : Option Nat) : (bOrZero b1 o).length = 1 := rfl

theorem bBool_length (b : Bool) : (bBool b).length = 1 := rfl

theorem encodeDrawerNo_length (d : Option DrawerNo) : (encodeDrawerNo d).length = 1 := rfl

theorem encodeWashout_length (w : Option WashoutPart) : (encodeWashout w).length = 10 := by cases w <;> rfl

theorem encodeDry_length (d : Option DryPart) : (encodeDry d).length = 8 := by cases d <;> rfl

theorem encodeNotices_length (l : List Notice) : (encodeNotices l).length = 8 := by
  rw [encodeNotices, List.length_take, List.length_append, List.length_replicate]
  omega

theorem encodeResult_length (r : RunResult) : (encodeResult r).length = 9 := rfl

theorem encodeProcess_length (p : Process) : (encodeProcess p).length = 29 := rfl

end Lengths

theorem encodePlate_length (k : Slot) (r : PlateRecord) : (encodePlate k r).length = 114 := by
  unfold encodePlate
  simp only [List.length_append, encodeWashout_length, encodeDry_length, encodeNotices_length, encodeResult_length,
    encodeProcess_length, bEnumOpt_length, bBool_length, bOrZero_length, encodeDrawerNo_length, b1_length, b2_length]

/-- Settles O31, by the state of the record the selector names. -/
theorem plateReadCancelMoveRetire : Obligations.PlateReadCancelMoveRetire := by
  unfold Obligations.PlateReadCancelMoveRetire
  refine ⟨fun tag how hi lo k r s ready named held => ⟨exec_plateRead named held ready, encodePlate_length k r⟩,
    fun tag how hi lo k r s named held => ⟨fun ready => ?_, fun ready => ?_, fun ready => ?_⟩⟩
  · have run := exec_plateCancel named held ready
    refine ⟨fun other => ?_, fun queued => ?_⟩
    · have part : cancelPlate k r s = (s, refusal .wrongState) := if_neg other
      rwa [part] at run
    · have part : cancelPlate k r s = (reportQueueEmpty (setPlate k none (leaveQueue k s)), okReply []) := if_pos queued
      rwa [part] at run
  · have run := exec_queueMove named held ready
    refine ⟨fun other => ?_, fun queued mem => ?_⟩
    · have part : movePlateToHead k r s = (s, refusal .wrongState) := if_neg other
      rwa [part] at run
    · have part : movePlateToHead k r s = (modPtb (fun t => { t with queue := toHead k t.queue }) s, okReply []) :=
        if_pos queued
      have front : toHead k s.ptb.queue = k :: s.ptb.queue.filter (· ≠ k) := by
        simp [toHead, mem]
      rw [run, part, ← front]
      rfl
  · have run := exec_plateRetire named held ready
    refine ⟨fun notDone notScrapped => ?_, fun closed => ?_⟩
    · have part : retirePlate k r s = (s, refusal .wrongState) := if_neg (by simp [notDone, notScrapped])
      rwa [part] at run
    · have part : retirePlate k r s = (setPlate k none s, okReply (encodePlate k r)) := if_pos closed
      rwa [part] at run

/-! ### The start of a run (R46, R47) -/

/-- A segment that may start turns its lamp ON at the run's level and integrates. -/
theorem startSegment_allowed {ch : LampChannel} {r : RunRecord} (allowed : lampRefused ch s = false) :
    (startSegment ch r s).2 = true
    ∧ channelAt (startSegment ch r s).1 ch = .integrating (freshSegment (recordingResumes s) r)
    ∧ lampLevel ch (startSegment ch r s).1 = some r.level := by
  have may : segmentAllowed ch s = true := by simp [segmentAllowed, allowed]
  have lit {t : State} (lines : t.lio.inputs = s.lio.inputs) (store : t.rss = s.rss) :
      lampLevel ch (lampOn ch r.level t) = some r.level := by
    have same : lampRefused ch t = lampRefused ch s :=
      lampRefused_congr (inputActive_congr lines (congrArg (·.working.cfg) store)) ch
    rw [lampLevel_lampOn, if_pos ⟨rfl, .inr (same.trans allowed)⟩]
  have burns {t : State} (lines : t.lio.inputs = s.lio.inputs) (store : t.rss = s.rss) :
      lampIsOn ch (lampOn ch r.level t) = true := by simp [lampIsOn, lit lines store]
  have started : ∃ t : State, t.lio.inputs = s.lio.inputs ∧ t.rss = s.rss ∧ startSegment ch r s =
      (setChannel ch (.integrating (freshSegment (recordingResumes s) r)) (lampOn ch r.level t), true) := by
    unfold startSegment
    rw [if_pos may]
    dsimp only
    refine ⟨_, ?_, ?_, if_pos (burns ?_ ?_)⟩
    all_goals (repeat' split) <;> simp
  obtain ⟨t, lines, store, eq⟩ := started
  rw [eq]
  exact ⟨rfl, by rw [channelAt_setChannel, if_pos rfl], (lampLevel_congr rfl ch).trans (lit lines store)⟩

theorem startSegment_refused {ch : LampChannel} {r : RunRecord} (refused : lampRefused ch s = true) :
    startSegment ch r s = (setChannel ch (.paused r) s, false) := by
  simp [startSegment, segmentAllowed, refused]

section Run
variable {c : LampChannel} {k : Slot} {p : PlateRecord} (held : plateAt s k = some p)
  (free : channelAt s c = .idle ∨ ∃ r how, channelAt s c = .ended r how)
include held free

theorem startRun_skipped (none : (p.working.lamp c).target = 0) :
    startRun c k s = (setChannel c .idle (modResult k c skippedResult s), .skipped) := by
  have may : channelFree (channelAt s c) = true := by rcases free with h | ⟨r, how, h⟩ <;> rw [h] <;> rfl
  simp [startRun, held, may, none]

theorem startRun_target (some_ : 0 < (p.working.lamp c).target) :
    startRun c k s = (if (startSegment c (openRun k p c (lampCal s c).eNom) s).2
      then ((startSegment c (openRun k p c (lampCal s c).eNom) s).1, .started)
      else ((startSegment c (openRun k p c (lampCal s c).eNom) s).1, .refused)) := by
  have may : channelFree (channelAt s c) = true := by rcases free with h | ⟨r, how, h⟩ <;> rw [h] <;> rfl
  have target : ¬ (p.working.lamp c).target = 0 := by omega
  simp only [startRun, held, may, if_true, target, if_false]
  rcases startSegment c (openRun k p c (lampCal s c).eNom) s with ⟨t, _ | _⟩ <;> rfl

end Run

/-- Settles O43: the target 0 is skipped; any other opens its run and asks for the first segment. -/
theorem runsStart : Obligations.RunsStart := by
  unfold Obligations.RunsStart
  intro c k p s held free lp eRef nNom
  refine ⟨fun zero => ?_, fun some_ allowed => ?_, fun some_ refused => ?_⟩
  · rw [startRun_skipped held free zero]
    refine ⟨rfl, by rw [channelAt_setChannel, if_pos rfl], by simp, ?_⟩
    have plates : plateAt (setChannel c .idle (modResult k c skippedResult s)) k = plateAt (modResult k c skippedResult s) k :=
      plateAt_congr rfl k
    rw [plates, modResult, plateAt_modPlate, if_pos rfl, held]
    simp [skippedResult]
  · obtain ⟨yes, channel, lit⟩ := startSegment_allowed (r := openRun k p c (lampCal s c).eNom) allowed
    rw [startRun_target held free some_, if_pos yes]
    exact ⟨_, rfl, channel, lit, rfl, rfl, rfl, rfl, rfl, rfl, rfl, rfl, rfl, rfl, rfl, rfl⟩
  · rw [startRun_target held free some_, startSegment_refused refused]
    exact ⟨openRun k p c (lampCal s c).eNom, rfl, by rw [if_neg (by simp), channelAt_setChannel, if_pos rfl], rfl, rfl, rfl,
      rfl⟩

end Sys2Proof.Machine
end

section
/-! SUPPORT. What a sample does to a run that goes on, and the window it may close: the settlements of O40 and O41 (R48 to
R52, R56 to R58, R61, R62). -/

namespace Sys2Proof.Machine
variable {s : State} {ch : LampChannel} {r : RunRecord}

/-! ### The run of a channel, rewritten -/

theorem channelAt_setChannel_self (ch : LampChannel) (c : Channel) (s : State) : channelAt (setChannel ch c s) ch = c := by
  rw [channelAt_setChannel, if_pos rfl]

theorem modRun_integrating (run : channelAt s ch = .integrating r) (f : RunRecord → RunRecord) :
    modRun ch f s = setChannel ch (.integrating (f r)) s := by
  simp only [modRun, run]

theorem channelAt_modRun (run : channelAt s ch = .integrating r) (f : RunRecord → RunRecord) :
    channelAt (modRun ch f s) ch = .integrating (f r) := by
  rw [modRun_integrating run, channelAt_setChannel_self]

/-- What modifying a run leaves of the trace: everything. -/
theorem modRun_trace (ch : LampChannel) (f : RunRecord → RunRecord) (s : State) :
    (modRun ch f s).din.trace = s.din.trace ∧ (modRun ch f s).din.nextNumber = s.din.nextNumber
    ∧ (modRun ch f s).din.traceActive = s.din.traceActive := by
  unfold modRun
  split <;> exact ⟨rfl, rfl, rfl⟩

/-! ### A sample, converted and integrated (R48, R49, R52) -/

/-- A run after a sample of irradiance `e`: integrated, counted and tested for a dark lamp. -/
def sampled (e : Nat) (r : RunRecord) : RunRecord := darkCheck e (addSample e r)

theorem sampled_eq (e : Nat) (r : RunRecord) : sampled e r =
    { r with
      accumulator := min 4294967295 (r.accumulator + 2 * e)
      lampSamples := r.lampSamples + 1
      segSamples := r.segSamples + 1
      windowCount := r.windowCount + 1
      windowSum := r.windowSum + e
      dark := if r.segSamples + 1 ≤ 25 then r.dark else if e < 50 then r.dark + 1 else 0 } := by
  have added : addSample e r =
      { r with
        accumulator := min 4294967295 (r.accumulator + 2 * e)
        lampSamples := r.lampSamples + 1
        segSamples := r.segSamples + 1
        windowCount := r.windowCount + 1
        windowSum := r.windowSum + e } := rfl
  rw [sampled, darkCheck, added]
  by_cases early : r.segSamples + 1 ≤ 25
  · rw [if_neg (show ¬ Config.windowLength < r.segSamples + 1 from Nat.not_lt.2 early)]
    simp only [early, if_true]
  · rw [if_pos (show Config.windowLength < r.segSamples + 1 from Nat.not_le.1 early)]
    simp only [early, if_false]
    rfl

theorem sampleEnding_eq (e : Nat) (r : RunRecord) : sampleEnding e (addSample e r) =
    if r.target ≤ (sampled e r).accumulator then some .complete
    else if 10 ≤ (sampled e r).dark then some .lampFail
    else if r.nCap ≤ r.lampSamples + 1 then some .underdose
    else none := by
  have accumulator : (addSample e r).accumulator = (sampled e r).accumulator := by rw [sampled_eq]; rfl
  simp only [sampleEnding, accumulator]
  rfl

/-- A sample that ends nothing is stored, and closes the window when it is the 25th. -/
theorem takeSample_goesOn (run : channelAt s ch = .integrating r) (raw : Nat)
    (on : sampleEnding (irradiance (lampCal s ch) raw) (addSample (irradiance (lampCal s ch) raw) r) = none) :
    takeSample ch raw s = (if r.windowCount + 1 = 25
      then closeFullWindow ch (storeSample ch (sampled (irradiance (lampCal s ch) raw) r) s)
      else storeSample ch (sampled (irradiance (lampCal s ch) raw) r) s, none) := by
  simp only [takeSample, run, on]
  rfl

theorem takeSample_discarded (idle : ∀ r, channelAt s ch ≠ .integrating r) (raw : Nat) : takeSample ch raw s = (s, none) := by
  unfold takeSample
  split
  · next r run => exact absurd run (idle r)
  · rfl

/-- A sample that ends nothing leaves what it has done to the channel. -/
theorem sample_of_none {t : State} {raw : Nat} (taken : takeSample ch raw s = (t, none)) : sample ch raw s = t := by
  simp only [sample, taken]

theorem channelAt_storeSample (ch : LampChannel) (r : RunRecord) (s : State) :
    channelAt (storeSample ch r s) ch = .integrating r := by
  rw [storeSample, channelAt_congr (s := setChannel ch (.integrating r) s) (by simp), channelAt_setChannel_self]

theorem storeSample_din (ch : LampChannel) (r : RunRecord) (s : State) :
    (storeSample ch r s).din = { s.din with channels := s.din.channels.set ch (.integrating r) } := by
  rw [storeSample, (modResult_frame _ _ _ _).2.2.2.2.2.1]
  rfl

theorem modResult_held {k : Slot} {p : PlateRecord} (held : plateAt s k = some p) (f : RunResult → RunResult) :
    modResult k ch f s = setPlate k (some { p with results := p.results.set ch (f (p.results.get ch)) }) s := by
  simp only [modResult, modPlate, held]

/-- A result written touches the table alone. -/
theorem modResult_only (k : Slot) (f : RunResult → RunResult) :
    modResult k ch f s = { s with ptb := { s.ptb with plates := (modResult k ch f s).ptb.plates } } := by
  unfold modResult modPlate
  split <;> rfl

/-- Settles O40: the sample stored where nothing ends and no window is full; discarded where nothing integrates. -/
theorem samplesAccumulate : Obligations.SamplesAccumulate := by
  unfold Obligations.SamplesAccumulate
  intro c raw s power
  have step : exec (.sampleArrival c raw) s = .next (sample c raw.toNat s) := event_on power
  refine ⟨fun idle => ?_, fun r run => ?_⟩
  · rw [step, sample_of_none (takeSample_discarded idle _)]
  · intro e dark r2 low bright under short
    have same : sampled e r = r2 := sampled_eq e r
    have on : sampleEnding e (addSample e r) = none := by
      rw [sampleEnding_eq, same, if_neg (Nat.not_le.2 low), if_neg (Nat.not_le.2 bright), if_neg (Nat.not_le.2 under)]
    have taken := (takeSample_goesOn run raw.toNat on).trans (congrArg (·, none) (if_neg short))
    refine ⟨_, step.trans (congrArg _ (sample_of_none taken)), ?_⟩
    rw [show sampled (irradiance (lampCal s c) raw.toNat) r = r2 from same]
    refine ⟨storeSample_din c r2 s, fun p held => ?_, ?_⟩
    · have stored : plateAt (setChannel c (.integrating r2) s) r2.slot = some p := held
      rw [storeSample, modResult_held stored]
      rfl
    · rw [storeSample, modResult_only]
      rfl

/-! ### The trace record of a window (R61, R62) -/

section Trace
variable {r' : RunRecord}

theorem writeTrace_room (recording : r.recording = true) (room : s.din.trace.length < 512) :
    (writeTrace ch r s).din = { s.din with
      trace := s.din.trace ++ [traceRecord ch r s.din.nextNumber]
      nextNumber := (s.din.nextNumber + 1) % 65536 } := by
  unfold writeTrace
  rw [if_pos recording, if_pos (show s.din.trace.length < Config.traceLimit from room)]
  dsimp only
  split
  · simp [nextRecordNumber]
  · rfl

theorem writeTrace_full (recording : r.recording = true) (full : 512 ≤ s.din.trace.length) :
    (writeTrace ch r s).din.trace = s.din.trace ∧ isSet .traceOverflow (writeTrace ch r s) = true
    ∧ (writeTrace ch r s).din.traceActive = false
    ∧ (writeTrace ch r s).din.channels = ⟨suspendChannel s.din.channels.back, suspendChannel s.din.channels.main,
        suspendChannel s.din.channels.uva, suspendChannel s.din.channels.uvc⟩ := by
  have written : writeTrace ch r s = suspendRecording (modResult r.slot ch (fun x => { x with traceComplete := false })
      (setFlag .traceOverflow (modDin (fun d => { d with nextNumber := nextRecordNumber d.nextNumber }) s))) := by
    unfold writeTrace
    rw [if_pos recording]
    exact if_neg (Nat.not_lt.2 full)
  rw [written]
  refine ⟨by simp, ?_, rfl, ?_⟩
  · have flags : ∀ u : State, isSet .traceOverflow (suspendRecording (modResult r.slot ch
        (fun x => { x with traceComplete := false }) u)) = isSet .traceOverflow u := fun u => isSet_congr (by simp) _
    rw [flags, isSet_setFlag]
    simp
  · simp [suspendRecording]

theorem writeTrace_unrecorded (none : r.recording = false) : (writeTrace ch r s).din = s.din := by
  simp [writeTrace, none]

/-- A channel's run after a trace record: as it was, but that its recording may be suspended. -/
theorem channelAt_writeTrace (run : channelAt s ch = .integrating r') :
    ∃ recording, channelAt (writeTrace ch r s) ch = .integrating { r' with recording := recording } := by
  cases recorded : r.recording with
  | false => exact ⟨_, (channelAt_congr (congrArg (·.channels) (writeTrace_unrecorded recorded)) ch).trans run⟩
  | true =>
    by_cases full : 512 ≤ s.din.trace.length
    · refine ⟨false, ?_⟩
      have suspended : channelAt (writeTrace ch r s) ch = suspendChannel (channelAt s ch) := by
        simp only [channelAt, (writeTrace_full recorded full).2.2.2]
        cases ch <;> rfl
      rw [suspended, run]
      rfl
    · refine ⟨r'.recording, ?_⟩
      rw [channelAt_congr (s := s) (by rw [writeTrace_room recorded (Nat.not_le.1 full)]) ch, run]

end Trace

/-! ### Regulation (R57, R58) -/

section Regulation
variable {mean : Nat} {r' : RunRecord}

theorem channelAt_lampSet (c d : LampChannel) (level : Nat) (s : State) :
    channelAt (lampSet c level s) d = channelAt s d := channelAt_congr (by simp) d

theorem regulate_unregulated (h : ¬ (2 ≤ r.windowIndex ∧ 0 < r.eSet)) : regulate ch r mean s = s := if_neg h

theorem testWeak_trace : (testWeak ch r mean s).din.trace = s.din.trace
    ∧ (testWeak ch r mean s).din.nextNumber = s.din.nextNumber
    ∧ (testWeak ch r mean s).din.traceActive = s.din.traceActive := by
  have kept := modRun_trace ch (fun x => { x with weakNoted := true }) s
  unfold testWeak
  split
  · simp [kept]
  · simp

theorem regulate_trace : (regulate ch r mean s).din.trace = s.din.trace
    ∧ (regulate ch r mean s).din.nextNumber = s.din.nextNumber
    ∧ (regulate ch r mean s).din.traceActive = s.din.traceActive := by
  have level : ∀ n, _ := fun n => modRun_trace ch (fun x => { x with level := n }) (testWeak ch r mean s)
  have weak := testWeak_trace (ch := ch) (r := r) (mean := mean) (s := s)
  unfold regulate
  dsimp only
  (repeat' split) <;> simp [level, weak]

/-- A weak window is noted once. -/
theorem channelAt_testWeak (run : channelAt s ch = .integrating r') : channelAt (testWeak ch r mean s) ch =
    .integrating { r' with weakNoted := r'.weakNoted || (weakWindow r mean && !r.weakNoted) } := by
  unfold testWeak
  split
  · next noted =>
    rw [channelAt_congr (s := modRun ch (fun x => { x with weakNoted := true }) s) (by simp), channelAt_modRun run]
    simp [noted]
  · next not => simp [run, Bool.eq_false_iff.2 not]

theorem testWeak_reports (weak : weakWindow r mean = true) (first : r.weakNoted = false) :
    isSet .lampWeak (testWeak ch r mean s) = true := by
  rw [testWeak, if_pos (by simp [weak, first]), isSet_setFlag]
  simp

variable (regulated : 2 ≤ r.windowIndex ∧ 0 < r.eSet)
include regulated

theorem regulate_eq : regulate ch r mean s = (if regulatedLevel r.level r.eSet mean = r.level
    then modRun ch (fun x => { x with level := regulatedLevel r.level r.eSet mean }) (testWeak ch r mean s)
    else lampSet ch (regulatedLevel r.level r.eSet mean)
      (modRun ch (fun x => { x with level := regulatedLevel r.level r.eSet mean }) (testWeak ch r mean s))) :=
  if_pos regulated

theorem channelAt_regulate (run : channelAt s ch = .integrating r') : channelAt (regulate ch r mean s) ch =
    .integrating { r' with level := regulatedLevel r.level r.eSet mean
                           weakNoted := r'.weakNoted || (weakWindow r mean && !r.weakNoted) } := by
  rw [regulate_eq regulated]
  split
  · exact channelAt_modRun (channelAt_testWeak run) _
  · rw [channelAt_lampSet]
    exact channelAt_modRun (channelAt_testWeak run) _

theorem regulate_flags : (regulate ch r mean s).flt = (testWeak ch r mean s).flt := by
  rw [regulate_eq regulated]
  split
  · simp
  · simp

theorem lampLevel_regulate (changed : regulatedLevel r.level r.eSet mean ≠ r.level) (lit : lampIsOn ch s = true) :
    lampLevel ch (regulate ch r mean s) = some (regulatedLevel r.level r.eSet mean) := by
  have still : ∀ f, lampIsOn ch (modRun ch f (testWeak ch r mean s)) = true := fun f => (lampIsOn_congr (by simp) ch).trans lit
  rw [regulate_eq regulated, if_neg changed, lampLevel_lampSet, if_pos ⟨rfl, still _⟩]

end Regulation

/-! ### The window closed (R56) -/

theorem closeFullWindow_eq (run : channelAt s ch = .integrating r) : closeFullWindow ch s =
    modRun ch (fun x => { x with windowIndex := min 65535 (x.windowIndex + 1), windowCount := 0, windowSum := 0 })
      (regulate ch r (r.windowSum / r.windowCount) (writeTrace ch r s)) := by
  simp only [closeFullWindow, run]
  rfl

/-- The flags and the lamps after a window are those its regulation leaves. -/
theorem closeFullWindow_regulate (run : channelAt s ch = .integrating r) :
    (closeFullWindow ch s).flt = (regulate ch r (r.windowSum / r.windowCount) (writeTrace ch r s)).flt
    ∧ (closeFullWindow ch s).lio = (regulate ch r (r.windowSum / r.windowCount) (writeTrace ch r s)).lio := by
  rw [closeFullWindow_eq run]
  simp

section Window
variable (run : channelAt s ch = .integrating r)
include run

theorem closeFullWindow_trace : (closeFullWindow ch s).din.trace = (writeTrace ch r s).din.trace
    ∧ (closeFullWindow ch s).din.nextNumber = (writeTrace ch r s).din.nextNumber
    ∧ (closeFullWindow ch s).din.traceActive = (writeTrace ch r s).din.traceActive := by
  rw [closeFullWindow_eq run]
  exact ⟨(modRun_trace _ _ _).1.trans regulate_trace.1, (modRun_trace _ _ _).2.1.trans regulate_trace.2.1,
    (modRun_trace _ _ _).2.2.trans regulate_trace.2.2⟩

/-- The run after its window closed: the window anew, the level and the weak mark as the regulation leaves them. -/
theorem channelAt_closeFullWindow : ∃ recording, channelAt (closeFullWindow ch s) ch = .integrating
    { r with
      recording := recording
      level := if 2 ≤ r.windowIndex ∧ 0 < r.eSet
        then regulatedLevel r.level r.eSet (r.windowSum / r.windowCount) else r.level
      weakNoted := if 2 ≤ r.windowIndex ∧ 0 < r.eSet
        then r.weakNoted || (weakWindow r (r.windowSum / r.windowCount) && !r.weakNoted) else r.weakNoted
      windowIndex := min 65535 (r.windowIndex + 1)
      windowCount := 0
      windowSum := 0 } := by
  obtain ⟨recording, written⟩ := channelAt_writeTrace (r := r) run
  rw [closeFullWindow_eq run]
  refine ⟨recording, ?_⟩
  by_cases regulated : 2 ≤ r.windowIndex ∧ 0 < r.eSet
  · rw [channelAt_modRun (channelAt_regulate regulated written)]
    simp only [regulated, and_self, if_true]
  · rw [regulate_unregulated regulated, channelAt_modRun written]
    simp only [if_neg regulated]

theorem closeFullWindow_flags_of_writeTrace {f : Flag} (set : isSet f (writeTrace ch r s) = true) :
    isSet f (closeFullWindow ch s) = true := by
  rw [isSet_congr (congrArg (·.flags) (closeFullWindow_regulate run).1)]
  by_cases regulated : 2 ≤ r.windowIndex ∧ 0 < r.eSet
  · rw [isSet_congr (congrArg (·.flags) (regulate_flags regulated)), testWeak]
    split
    · rw [isSet_setFlag, isSet_congr (s := writeTrace ch r s) (by simp), set, Bool.or_true]
    · exact set
  · rw [regulate_unregulated regulated]
    exact set

theorem closeFullWindow_weak (regulated : 2 ≤ r.windowIndex ∧ 0 < r.eSet)
    (weak : weakWindow r (r.windowSum / r.windowCount) = true) (first : r.weakNoted = false) :
    isSet .lampWeak (closeFullWindow ch s) = true := by
  rw [isSet_congr (congrArg (·.flags) (closeFullWindow_regulate run).1),
    isSet_congr (congrArg (·.flags) (regulate_flags regulated))]
  exact testWeak_reports weak first

theorem closeFullWindow_unregulated (h : ¬ (2 ≤ r.windowIndex ∧ 0 < r.eSet)) :
    (closeFullWindow ch s).lio.lamps = s.lio.lamps := by
  rw [closeFullWindow_eq run, regulate_unregulated h]
  simp

theorem lampLevel_closeFullWindow (regulated : 2 ≤ r.windowIndex ∧ 0 < r.eSet)
    (changed : regulatedLevel r.level r.eSet (r.windowSum / r.windowCount) ≠ r.level) (lit : lampIsOn ch s = true) :
    lampLevel ch (closeFullWindow ch s) = some (regulatedLevel r.level r.eSet (r.windowSum / r.windowCount)) := by
  rw [lampLevel_congr (congrArg (·.lamps) (closeFullWindow_regulate run).2)]
  exact lampLevel_regulate regulated changed ((lampIsOn_congr (by simp) ch).trans lit)

end Window

/-- Settles O41: the 25th sample stored, then the window closed, each part by its lemma. -/
theorem windowsRegulate : Obligations.WindowsRegulate := by
  unfold Obligations.WindowsRegulate
  intro c raw r s power run e dark accumulator mean regulated level weak low bright under full
  have step : exec (.sampleArrival c raw) s = .next (sample c raw.toNat s) := event_on power
  have on : sampleEnding e (addSample e r) = none := by
    rw [sampleEnding_eq, sampled_eq, if_neg (Nat.not_le.2 low), if_neg (Nat.not_le.2 bright), if_neg (Nat.not_le.2 under)]
  have taken := (takeSample_goesOn run raw.toNat on).trans (congrArg (·, none) (if_pos full))
  obtain ⟨r1, same⟩ : ∃ r1, r1 = sampled e r := ⟨_, rfl⟩
  have stored : channelAt (storeSample c r1 s) c = .integrating r1 := channelAt_storeSample c r1 s
  have fields : r1.windowIndex = r.windowIndex ∧ r1.eSet = r.eSet ∧ r1.level = r.level ∧ r1.weakNoted = r.weakNoted
      ∧ r1.recording = r.recording ∧ r1.accumulator = accumulator ∧ r1.lampSamples = r.lampSamples + 1
      ∧ r1.segSamples = r.segSamples + 1 ∧ r1.segment = r.segment ∧ r1.plateId = r.plateId ∧ r1.windowCount = 25
      ∧ r1.windowSum / r1.windowCount = mean := by
    rw [same, sampled_eq]
    refine ⟨rfl, rfl, rfl, rfl, rfl, rfl, rfl, rfl, rfl, rfl, full, ?_⟩
    dsimp only
    rw [full]
  obtain ⟨index, eSet, lvl, noted, rec, acc, lamp, seg, segment, plate, count, avg⟩ := fields
  obtain ⟨recording, channel⟩ := channelAt_closeFullWindow stored
  have iff : (2 ≤ r1.windowIndex ∧ 0 < r1.eSet) ↔ regulated := by rw [index, eSet]
  have lvlEq : regulatedLevel r1.level r1.eSet (r1.windowSum / r1.windowCount) = level := by rw [lvl, eSet, avg]; rfl
  have weakEq : weakWindow r1 (r1.windowSum / r1.windowCount) = true ↔ weak := by
    rw [weakWindow, lvl, eSet, avg]
    simp [weak]
  have din := storeSample_din c r1 s
  obtain ⟨tr, nn, ta⟩ := closeFullWindow_trace stored
  have trace : (storeSample c r1 s).din.trace = s.din.trace := by rw [din]
  have next : (storeSample c r1 s).din.nextNumber = s.din.nextNumber := by rw [din]
  rw [show sampled (irradiance (lampCal s c) raw.toNat) r = r1 from same.symm] at taken
  refine ⟨_, _, step.trans (congrArg _ (sample_of_none taken)), channel, acc, lamp, seg, rfl, rfl, by rw [index], segment, fun reg => ?_, fun not => ?_, fun reg changed lit => ?_,
    fun not => ?_, fun reg isWeak => ⟨?_, fun first => ?_⟩, fun recd room => ?_, fun recd out => ?_, fun unrec => ?_, ?_⟩
  · exact (if_pos (iff.2 reg)).trans lvlEq
  · exact (if_neg (iff.not.2 not)).trans lvl
  · rw [← lvlEq]
    refine lampLevel_closeFullWindow stored (iff.2 reg) (by rw [lvlEq, lvl]; exact changed) ?_
    exact (lampIsOn_congr (by simp) c).trans lit
  · rw [closeFullWindow_unregulated stored (iff.not.2 not)]
    simp
  · dsimp only
    rw [if_pos (iff.2 reg), weakEq.2 isWeak]
    cases r1.weakNoted <;> rfl
  · exact closeFullWindow_weak stored (iff.2 reg) (weakEq.2 isWeak) (noted.trans first)
  · have written := writeTrace_room (ch := c) (rec.trans recd) (trace ▸ room)
    rw [tr, nn, written]
    refine ⟨?_, by rw [next]⟩
    dsimp only
    rw [trace, next, traceRecord, plate, segment, index, count, lvl, reportedDose, acc, ← avg, count]
  · obtain ⟨kept, overflow, inactive, -⟩ := writeTrace_full (ch := c) (rec.trans recd) (trace.symm ▸ out)
    exact ⟨tr.trans (kept.trans trace), closeFullWindow_flags_of_writeTrace stored overflow, ta.trans inactive⟩
  · have written := writeTrace_unrecorded (ch := c) (s := storeSample c r1 s) (rec.trans unrec)
    rw [tr, ta, written, din]
    exact ⟨rfl, rfl⟩
  · simp

end Sys2Proof.Machine
end

section
/-! SUPPORT. The end of a run by its sample, and what the station's answer to it lets stand: the settlement of O42 (R49 to
R53, R59). -/

namespace Sys2Proof.Machine
variable {s t u : State} {c : LampChannel}

/-! ### What stands of a channel while the stations work on -/

/-- From `s` to `t` channel `c`, its lamp, the lamp times and every plate's result of `c` stand. -/
structure Rests (c : LampChannel) (s t : State) : Prop where
  channel : channelAt t c = channelAt s c
  lamp : lampLevel c t = lampLevel c s
  lampOn : t.din.lampOn = s.din.lampOn
  carry : t.din.carry = s.din.carry
  results : ∀ k p, plateAt s k = some p → ∃ q, plateAt t k = some q ∧ q.results.get c = p.results.get c

namespace Rests

theorem refl (c : LampChannel) (s : State) : Rests c s s := ⟨rfl, rfl, rfl, rfl, fun _ p held => ⟨p, held, rfl⟩⟩

theorem trans (h : Rests c s t) (g : Rests c t u) : Rests c s u where
  channel := g.channel.trans h.channel
  lamp := g.lamp.trans h.lamp
  lampOn := g.lampOn.trans h.lampOn
  carry := g.carry.trans h.carry
  results k p held := by
    obtain ⟨q, heldQ, same⟩ := h.results k p held
    obtain ⟨q', heldQ', same'⟩ := g.results k q heldQ
    exact ⟨q', heldQ', same'.trans same⟩

/-- An operation that leaves the dose integrator, the lamps and the records. -/
theorem of_eq (din : t.din = s.din) (lamps : t.lio.lamps = s.lio.lamps) (plates : t.ptb.plates = s.ptb.plates) :
    Rests c s t where
  channel := channelAt_congr (by rw [din]) c
  lamp := lampLevel_congr lamps c
  lampOn := by rw [din]
  carry := by rw [din]
  results k p held := ⟨p, (plateAt_congr plates k).trans held, rfl⟩

theorem of_answer {α : Type} {x : State × α} {a : α} (eq : x = (t, a)) (h : Rests c s x.1) : Rests c s t := by
  rw [eq] at h
  exact h

end Rests

theorem rests_setPlate {k : Slot} {p q : PlateRecord} (held : plateAt s k = some p)
    (same : q.results.get c = p.results.get c) : Rests c s (setPlate k (some q) s) where
  channel := rfl
  lamp := rfl
  lampOn := rfl
  carry := rfl
  results j p' heldJ := by
    rw [plateAt_setPlate]
    by_cases at_ : j = k
    · subst at_
      rw [held] at heldJ
      cases heldJ
      exact ⟨q, if_pos rfl, same⟩
    · exact ⟨p', (if_neg at_).trans heldJ, rfl⟩

theorem rests_modPlate (k : Slot) {f : PlateRecord → PlateRecord}
    (same : ∀ p, (f p).results.get c = p.results.get c) : Rests c s (modPlate k f s) := by
  unfold modPlate
  split
  · exact .refl c s
  · next held => exact rests_setPlate held (same _)

theorem rests_movePlate (k : Slot) (src dst : PlateState) {f : PlateRecord → PlateRecord}
    (same : ∀ p, (f p).results.get c = p.results.get c) : Rests c s (movePlate k src dst f s) := by
  unfold movePlate
  split
  · exact .refl c s
  · next held =>
    split
    · exact rests_setPlate held (same _)
    · exact .refl c s

theorem rests_raiseAttn (a : AttnItem) : Rests c s (raiseAttn a s) := .of_eq (by simp) (by simp) (by simp)

theorem rests_setFlag (f : Flag) : Rests c s (setFlag f s) := .of_eq (by simp) (by simp) (by simp)

theorem rests_modExu (f : Exposure → Exposure) : Rests c s (modExu f s) := .of_eq rfl rfl rfl

theorem rests_modLfn (f : Finisher → Finisher) : Rests c s (modLfn f s) := .of_eq rfl rfl rfl

theorem rests_modWou (f : Washout → Washout) : Rests c s (modWou f s) := .of_eq rfl rfl rfl

theorem appendNotice_results (n : Notice) (r : PlateRecord) : (appendNotice n r).results = r.results := by
  unfold appendNotice
  (repeat' split) <;> rfl

theorem rests_addNotice (k : Slot) (n : Notice) : Rests c s (addNotice k n s) :=
  rests_modPlate k fun _ => by rw [appendNotice_results]

theorem rests_holdPlate (k : Slot) (at_ : Station) (reason : HoldReason) : Rests c s (holdPlate k at_ reason s) := by
  unfold holdPlate
  split
  · exact .refl c s
  · next held =>
    split
    · exact (rests_setPlate held (by rw [appendNotice_results])).trans (rests_raiseAttn _)
    · exact .refl c s

theorem rests_exuEnterHeld (k : Slot) (reason : HoldReason) : Rests c s (exuEnterHeld k reason s) :=
  (rests_holdPlate k .exu reason).trans (rests_modExu _)

theorem rests_lfnEnterHeld (k : Slot) (reason : HoldReason) : Rests c s (lfnEnterHeld k reason s) :=
  (rests_holdPlate k .lfn reason).trans (rests_modLfn _)

/-! ### A run of another channel -/

section Other
variable {ch : LampChannel} (other : c ≠ ch)
include other

theorem rests_modResult (k : Slot) (f : RunResult → RunResult) : Rests c s (modResult k ch f s) :=
  rests_modPlate k fun _ => (PerLamp.get_set _ ch c _).trans (if_neg other)

theorem rests_setChannel (v : Channel) : Rests c s (setChannel ch v s) where
  channel := (channelAt_setChannel ch c v s).trans (if_neg other)
  lamp := rfl
  lampOn := rfl
  carry := rfl
  results _ p held := ⟨p, held, rfl⟩

theorem rests_lampOn (level : Nat) : Rests c s (lampOn ch level s) where
  channel := channelAt_congr (by simp) c
  lamp := (lampLevel_lampOn ch c level s).trans (if_neg fun both => other both.1)
  lampOn := by simp
  carry := by simp
  results k p held := ⟨p, (plateAt_congr (by simp) k).trans held, rfl⟩

theorem rests_startSegment (r : RunRecord) : Rests c s (startSegment ch r s).1 := by
  have traced (b : Bool) (v : State) : Rests c v (if b then modDin (fun d => { d with traceActive := true }) v else v) := by
    split
    · exact ⟨rfl, rfl, rfl, rfl, fun _ p held => ⟨p, held, rfl⟩⟩
    · exact .refl c v
  have noted (b : Bool) (v : State) : Rests c v (if b then addNotice r.slot .lampLife v else v) := by
    split
    · exact rests_addNotice _ _
    · exact .refl c v
  cases allowed : segmentAllowed ch s with
  | false =>
    have refused : startSegment ch r s = (setChannel ch (.paused r) s, false) := by simp [startSegment, allowed]
    rw [refused]
    exact rests_setChannel other _
  | true =>
    obtain ⟨v, before, started⟩ : ∃ v, Rests c s v ∧ startSegment ch r s =
        (if lampIsOn ch (lampOn ch r.level v) then
          (setChannel ch (.integrating (freshSegment (recordingResumes s) r)) (lampOn ch r.level v), true)
        else (setChannel ch (.paused { freshSegment (recordingResumes s) r with segment := r.segment })
          (modResult r.slot ch (fun x => { x with segments := r.segment }) (lampOn ch r.level v)), false)) := by
      unfold startSegment
      rw [if_pos allowed]
      exact ⟨_, ((rests_modResult other _ _).trans (traced _ _)).trans (noted _ _), rfl⟩
    have lit := before.trans (rests_lampOn other r.level)
    rw [started]
    split
    · exact lit.trans (rests_setChannel other _)
    · exact (lit.trans (rests_modResult other _ _)).trans (rests_setChannel other _)

theorem rests_startRun (k : Slot) : Rests c s (startRun ch k s).1 := by
  unfold startRun
  split
  · exact .refl c s
  · split
    · split
      · exact (rests_modResult other k _).trans (rests_setChannel other _)
      · split
        all_goals
          next started => exact .of_answer started (rests_startSegment other _)
    · exact .refl c s

theorem rests_continueRun (k : Slot) (extension : Nat) : Rests c s (continueRun ch k extension s).1 := by
  unfold continueRun
  split
  · next r ending _ =>
    have resumed := (rests_modResult (s := s) other k (fun x => { x with outcome := .notRun })).trans
      (rests_startSegment other { r with nCap := r.nCap + capRaise r.nNom extension })
    split
    · split
      all_goals
        next started => exact .of_answer started resumed
    · exact .refl c s
  · exact .refl c s

theorem rests_askSegment (r : RunRecord) : Rests c s (askSegment ch r s).1 := by
  unfold askSegment
  split
  all_goals
    next started => exact .of_answer started (rests_startSegment other r)

theorem rests_askStart (k : Slot) : Rests c s (askStart ch k s).1 := by
  unfold askStart
  split
  all_goals
    next started => exact .of_answer started (rests_startRun other k)

theorem rests_askFresh (k : Slot) : Rests c s (askFresh ch k s).1 := by
  unfold askFresh
  split
  · split
    · exact rests_askSegment other _
    · exact rests_askStart other k
  · exact rests_askStart other k

theorem rests_exuRequest (k : Slot) : Rests c s (exuRequest ch k s).1 := by
  unfold exuRequest
  split
  · have asked := rests_continueRun (s := s) other k s.exu.extension
    split
    · next answer => exact (Rests.of_answer answer asked).trans (rests_modExu (fun e => { e with contPending := false }))
    · next answer => exact (Rests.of_answer answer asked).trans (rests_modExu (fun e => { e with contPending := false }))
    · next answer => exact .of_answer answer asked
  · exact rests_askFresh other k

end Other

theorem rests_exuAnswer (k : Slot) (x : State × WorkAnswer) : Rests c x.1 (exuAnswer k x) := by
  unfold exuAnswer
  split
  · exact rests_modExu _
  · exact .refl c _
  · exact .refl c _
  · exact rests_exuEnterHeld k _

theorem rests_askMain (other : c ≠ .main) : Rests c s (askMain s) := by
  unfold askMain
  split
  · split
    · exact (rests_exuRequest other _).trans (rests_exuAnswer _ _)
    · exact .refl c s
  · exact .refl c s

/-! ### The washout's evaluation and the finisher's release -/

theorem reserveDrawer_rests {k : Slot} {d : DrawerNo} (granted : reserveDrawer k s = some (d, t)) : Rests c s t := by
  have frame := reserveDrawer_frame granted
  exact .of_eq (by simp [frame]) (by simp [frame]) (by simp [frame])

theorem rests_admitPlate (k : Slot) (p : PlateRecord) (d : DrawerNo) : Rests c s (admitPlate k p d s) := by
  have noted (b : Bool) (v : State) : Rests c v (if b then addNotice k .washSpeedClamped v else v) := by
    split
    · exact rests_addNotice _ _
    · exact .refl c v
  have handed (v : State) : Rests c v (takeTransport (exuHandOver k v)) := .of_eq (by simp) (by simp) (by simp)
  have listed (f : Washout → Washout) (v : State) : Rests c v (refreshOutputs (modWou f v)) :=
    .of_eq (by simp) (by simp) (by simp)
  unfold admitPlate
  dsimp only
  refine .trans ?_ (handed _)
  refine .trans ?_ (rests_modWou _)
  refine .trans ?_ (noted _ _)
  refine .trans ?_ (rests_movePlate k .exposed .washing fun _ => rfl)
  exact listed _ s

theorem rests_evalAdmission : Rests c s (evalAdmission s) := by
  unfold evalAdmission
  split
  · exact rests_modWou _
  · split
    · exact .refl c s
    · split
      · unfold testAdmission
        split
        · split
          · exact rests_modWou _
          · next granted => exact (reserveDrawer_rests granted).trans (rests_admitPlate _ _ _)
        · dsimp only
          split
          · exact rests_modWou _
          · exact (rests_modWou _).trans (rests_setFlag _)
      · exact .refl c s

theorem rests_exuExposed (k : Slot) : Rests c s (exuExposed k s) := by
  unfold exuExposed offerPlate
  refine .trans ?_ rests_evalAdmission
  refine .trans ?_ (rests_modWou _)
  refine .trans ?_ (rests_modExu _)
  exact rests_movePlate k .exposing .exposed fun _ => rfl

theorem rests_tryRelease : Rests c s (tryRelease s) := .of_eq (by simp) (by simp) (by simp)

theorem rests_testFinished : Rests c s (testFinished s) := by
  unfold testFinished
  split
  · split
    · exact ((rests_movePlate _ _ _ fun _ => rfl).trans (rests_modLfn _)).trans rests_tryRelease
    · exact .refl c s
  · exact .refl c s

/-! ### The station hears of the ending (R75, R133) -/

theorem goesOn_exuEnterHeld (k : Slot) (reason : HoldReason) (s : State) : GoesOn s (exuEnterHeld k reason s) :=
  (goesOn_holdPlate k .exu reason s).trans (goesOn_modExu _ _)

theorem goesOn_exuGoesOn (k : Slot) (st : Substage) (s : State) : GoesOn s (exuGoesOn k st s) := by
  cases st with
  | back => exact (goesOn_modExu _ s).trans (goesOn_askMain _)
  | main =>
    have moved : GoesOn s (movePlate k .exposing .exposed id s) :=
      .of_eq (by simp) (by simp) (by simp) (by simp) (by simp)
    have offered (v : State) : GoesOn v (modWou (fun w => { w with offered := some k }) v) := .of_eq rfl rfl rfl rfl rfl
    unfold exuGoesOn exuExposed offerPlate
    refine .trans ?_ (goesOn_evalAdmission _)
    refine .trans ?_ (offered _)
    exact moved.trans (goesOn_modExu _ _)

theorem goesOn_addNotice (k : Slot) (n : Notice) (s : State) : GoesOn s (addNotice k n s) :=
  .of_eq (by simp) (by simp) (by simp) (by simp) (by simp)

theorem goesOn_exuRunEnding (ch : LampChannel) (ending : RunEnding) (s : State) : GoesOn s (exuRunEnding ch ending s) := by
  unfold exuRunEnding
  split
  · split
    · split
      · exact goesOn_exuGoesOn _ _ s
      · dsimp only
        split
        · exact (goesOn_addNotice _ _ s).trans (goesOn_exuEnterHeld _ _ _)
        · exact (goesOn_addNotice _ _ s).trans (goesOn_exuGoesOn _ _ _)
      · exact goesOn_exuEnterHeld _ _ s
    · exact .refl s
  · exact .refl s

theorem rests_exuGoesOn (k : Slot) (st : Substage) (s : State) : Rests st.channel s (exuGoesOn k st s) := by
  cases st with
  | back => exact (rests_modExu _).trans (rests_askMain (by decide))
  | main => exact rests_exuExposed k

theorem rests_exuRunEnding (ch : LampChannel) (ending : RunEnding) (s : State) : Rests ch s (exuRunEnding ch ending s) := by
  unfold exuRunEnding
  split
  · next st k _ _ _ =>
    split
    · next own =>
      subst own
      split
      · exact rests_exuGoesOn k st s
      · dsimp only
        split
        · exact (rests_addNotice _ _).trans (rests_exuEnterHeld _ _)
        · exact (rests_addNotice _ _).trans (rests_exuGoesOn k st _)
      · exact rests_exuEnterHeld _ _
    · exact .refl ch s
  · exact .refl ch s

theorem rests_setFinisherRun (l : FinisherLamp) (r : FinisherRun) : Rests c s (setFinisherRun l r s) := rests_modLfn _

theorem rests_lfnRunEnding (ch : LampChannel) (ending : RunEnding) (s : State) : Rests c s (lfnRunEnding ch ending s) := by
  unfold lfnRunEnding
  split
  · split
    · split
      · exact (rests_setFinisherRun _ _).trans rests_testFinished
      · exact ((rests_setFinisherRun _ _).trans (rests_addNotice _ _)).trans rests_testFinished
      · exact (rests_setFinisherRun _ _).trans (rests_lfnEnterHeld _ _)
    · exact .refl c s
  · exact .refl c s

/-! ### The run ended (R49 to R53, R59) -/

theorem lampOff_din (ch : LampChannel) (s : State) : (lampOff ch s).din = s.din := by simp

theorem writeTrace_times (ch : LampChannel) (r : RunRecord) (s : State) :
    (writeTrace ch r s).din.lampOn = s.din.lampOn ∧ (writeTrace ch r s).din.carry = s.din.carry := by
  cases recorded : r.recording with
  | false =>
    rw [writeTrace_unrecorded recorded]
    exact ⟨rfl, rfl⟩
  | true =>
    by_cases full : 512 ≤ s.din.trace.length
    · unfold writeTrace
      rw [if_pos recorded, if_neg (show ¬ s.din.trace.length < Config.traceLimit from Nat.not_lt.2 full)]
      simp [suspendRecording]
    · rw [writeTrace_room recorded (Nat.not_le.1 full)]
      exact ⟨rfl, rfl⟩

theorem writeTrace_plateAt {k : Slot} {p : PlateRecord} (held : plateAt s k = some p) (ch : LampChannel) (r : RunRecord) :
    ∃ q, plateAt (writeTrace ch r s) k = some q := by
  have written {v : State} (heldV : plateAt v k = some p) : ∃ q, plateAt (modResult r.slot ch
      (fun x => { x with traceComplete := false }) v) k = some q := by
    rw [modResult, plateAt_modPlate]
    split
    · next own =>
      rw [← own, heldV]
      exact ⟨_, rfl⟩
    · exact ⟨p, heldV⟩
  unfold writeTrace
  split
  · split
    · dsimp only
      split
      · exact ⟨p, (plateAt_raiseAttn _ _ _).trans held⟩
      · exact ⟨p, held⟩
    · exact written ((plateAt_setFlag _ _ _).trans held)
  · exact written held

theorem writeTrace_flags (ch : LampChannel) (r : RunRecord) {f : Flag} (set : isSet f s = true) :
    isSet f (writeTrace ch r s) = true := by
  unfold writeTrace
  split
  · split
    · dsimp only
      split
      · exact (isSet_congr (by simp) f).trans set
      · exact set
    · have kept : ∀ u : State, isSet f (suspendRecording (modResult r.slot ch (fun x => { x with traceComplete := false })
          u)) = isSet f u := fun u => isSet_congr (by simp) f
      rw [kept, isSet_setFlag]
      exact Bool.or_eq_true_iff.2 (.inr set)
  · exact (isSet_congr (by simp) f).trans set

/-- The last, unfilled window of a segment: its record may suspend the recording; times and table stand. -/
theorem closeFinalWindow_run {ch : LampChannel} {r : RunRecord} (run : channelAt s ch = .integrating r) :
    (∃ recording, channelAt (closeFinalWindow ch s) ch = .integrating { r with recording := recording })
    ∧ (closeFinalWindow ch s).din.lampOn = s.din.lampOn ∧ (closeFinalWindow ch s).din.carry = s.din.carry
    ∧ (∀ k p, plateAt s k = some p → ∃ q, plateAt (closeFinalWindow ch s) k = some q)
    ∧ ∀ f, isSet f s = true → isSet f (closeFinalWindow ch s) = true := by
  simp only [closeFinalWindow, run]
  split
  · exact ⟨channelAt_writeTrace run, (writeTrace_times ch r s).1, (writeTrace_times ch r s).2,
      fun k p held => writeTrace_plateAt held ch r, fun f set => writeTrace_flags ch r set⟩
  · exact ⟨⟨r.recording, run⟩, rfl, rfl, fun k p held => ⟨p, held⟩, fun f set => set⟩

theorem addLampTime_flags (ch : LampChannel) (n : Nat) (s : State) (f : Flag) (set : isSet f s = true) :
    isSet f (addLampTime ch n s) = true := by
  have kept : isSet f (addLampTime ch n s) = isSet f (testLampLife (modDin (fun d => { d with
      lampOn := d.lampOn.set ch (satAdd Config.countMax (d.lampOn.get ch) ((d.carry.get ch + n) / 5))
      carry := d.carry.set ch ((d.carry.get ch + n) % 5) }) s)) := isSet_congr (by simp [addLampTime]) f
  rw [kept, testLampLife]
  split
  · rw [isSet_setFlag]
    exact Bool.or_eq_true_iff.2 (.inr set)
  · exact set

theorem addLampTime_times (ch : LampChannel) (n : Nat) (s : State) :
    (addLampTime ch n s).din.lampOn.get ch = min 4294967295 (s.din.lampOn.get ch + (s.din.carry.get ch + n) / 5)
    ∧ (addLampTime ch n s).din.carry.get ch = (s.din.carry.get ch + n) % 5 := by
  have din : (addLampTime ch n s).din = { s.din with
      lampOn := s.din.lampOn.set ch (satAdd Config.countMax (s.din.lampOn.get ch) ((s.din.carry.get ch + n) / 5))
      carry := s.din.carry.set ch ((s.din.carry.get ch + n) % 5) } := by simp [addLampTime]
  rw [din]
  exact ⟨PerLamp.get_set_self _ _ _, PerLamp.get_set_self _ _ _⟩

/-- What the end of a segment of `n` samples leaves: the run in its channel, the lamp OFF, the times added. -/
structure SegmentEnded (ch : LampChannel) (r : RunRecord) (n : Nat) (s t : State) : Prop where
  channel : ∃ recording, channelAt t ch = .integrating { r with recording := recording }
  dark : lampLevel ch t = none
  lampOn : t.din.lampOn.get ch = min 4294967295 (s.din.lampOn.get ch + (s.din.carry.get ch + n) / 5)
  carry : t.din.carry.get ch = (s.din.carry.get ch + n) % 5
  plates : ∀ k p, plateAt s k = some p → ∃ q, plateAt t k = some q
  flags : ∀ f, isSet f s = true → isSet f t = true

theorem endSegment_ended {ch : LampChannel} {r : RunRecord} (run : channelAt s ch = .integrating r) (n : Nat) :
    SegmentEnded ch r n s (endSegment ch n s) := by
  have off : channelAt (lampOff ch s) ch = .integrating r := (channelAt_congr (by simp) ch).trans run
  obtain ⟨⟨recording, channel⟩, lampOn, carry, plates, flags⟩ := closeFinalWindow_run off
  have times := addLampTime_times ch n (closeFinalWindow ch (lampOff ch s))
  rw [lampOn, carry, lampOff_din] at times
  refine ⟨⟨recording, (channelAt_congr (by simp [endSegment]) ch).trans channel⟩, ?_, times.1, times.2, fun k p held => ?_,
    fun f set => addLampTime_flags ch n _ f (flags f ((isSet_congr (by simp) f).trans set))⟩
  · have dark : lampLevel ch (endSegment ch n s) = lampLevel ch (lampOff ch s) := lampLevel_congr (by simp [endSegment]) ch
    rw [dark, lampLevel_lampOff, if_pos rfl]
  · obtain ⟨q, heldQ⟩ := plates k p ((plateAt_congr (by simp) k).trans held)
    exact ⟨q, (plateAt_congr (by simp [endSegment]) k).trans heldQ⟩

/-- What the end of a run leaves (R53). -/
structure RunEnded (ch : LampChannel) (r : RunRecord) (how : RunEnding) (s t : State) : Prop where
  channel : ∃ recording, channelAt t ch = .ended { r with recording := recording } how
  dark : lampLevel ch t = none
  lampOn : t.din.lampOn.get ch = min 4294967295 (s.din.lampOn.get ch + (s.din.carry.get ch + r.segSamples) / 5)
  carry : t.din.carry.get ch = (s.din.carry.get ch + r.segSamples) % 5
  result : ∀ p, plateAt s r.slot = some p → ∃ q, plateAt t r.slot = some q ∧ (q.results.get ch).dose = reportedDose r
    ∧ (q.results.get ch).samples = r.lampSamples ∧ (q.results.get ch).segments = r.segment
    ∧ (q.results.get ch).outcome = how.outcome
  flags : ∀ f, isSet f s = true → isSet f t = true

theorem endRun_ended {ch : LampChannel} {r : RunRecord} (run : channelAt s ch = .integrating r) (how : RunEnding) :
    RunEnded ch r how s (endRun ch how s) := by
  obtain ⟨⟨recording, channel⟩, dark, lampOn, carry, plates, flags⟩ := endSegment_ended run r.segSamples
  have ended : endRun ch how s = setChannel ch (.ended { r with recording := recording } how)
      (modResult r.slot ch (fun x => { x with dose := reportedDose r, samples := r.lampSamples, segments := r.segment,
                                              outcome := how.outcome }) (endSegment ch r.segSamples s)) := by
    simp only [endRun, run, channel]
    rfl
  rw [ended]
  refine ⟨⟨recording, channelAt_setChannel_self _ _ _⟩, ?_, ?_, ?_, fun p held => ?_,
    fun f set => (isSet_congr (by simp) f).trans (flags f set)⟩
  · exact (lampLevel_congr (by simp) ch).trans dark
  · have times : ∀ (v : Channel) (f : RunResult → RunResult) (w : State),
        (setChannel ch v (modResult r.slot ch f w)).din.lampOn = w.din.lampOn := fun _ _ _ => by simp
    rw [times, lampOn]
  · have times : ∀ (v : Channel) (f : RunResult → RunResult) (w : State),
        (setChannel ch v (modResult r.slot ch f w)).din.carry = w.din.carry := fun _ _ _ => by simp [setChannel]
    rw [times, carry]
  · obtain ⟨q, heldQ⟩ := plates _ p held
    have written (v : Channel) (f : RunResult → RunResult) : plateAt (setChannel ch v (modResult r.slot ch f
        (endSegment ch r.segSamples s))) r.slot = some { q with results := q.results.set ch (f (q.results.get ch)) } := by
      rw [modResult_held heldQ]
      exact (plateAt_setPlate _ _ _ _).trans (if_pos rfl)
    refine ⟨_, written _ _, ?_⟩
    dsimp only
    rw [PerLamp.get_set_self]
    exact ⟨rfl, rfl, rfl, rfl⟩

/-- A sample that ends its run stores itself, sets the lamp-failure flag of a dark lamp, and ends the run. -/
theorem takeSample_ends {ch : LampChannel} {r : RunRecord} (run : channelAt s ch = .integrating r) {raw : Nat}
    {how : RunEnding}
    (ends : sampleEnding (irradiance (lampCal s ch) raw) (addSample (irradiance (lampCal s ch) raw) r) = some how) :
    ∃ r1, (r1 = sampled (irradiance (lampCal s ch) raw) r ∨ r1 = addSample (irradiance (lampCal s ch) raw) r)
      ∧ takeSample ch raw s = (endRun ch how (if how = .lampFail then setFlag (.lampFail ch) (storeSample ch r1 s)
          else storeSample ch r1 s), some how) := by
  cases how with
  | complete => exact ⟨_, .inr rfl, by simp [takeSample, run, ends]⟩
  | lampFail => exact ⟨_, .inl rfl, by simp [takeSample, run, ends, sampled]⟩
  | underdose => exact ⟨_, .inl rfl, by simp [takeSample, run, ends, sampled]⟩

/-- What a sample that ends its run leaves of the channel, the lamp, its times and its result, before the station acts. -/
theorem takeSample_ended {ch : LampChannel} {r : RunRecord} {raw : Nat} {how : RunEnding} {e : Nat}
    (run : channelAt s ch = .integrating r) (same : irradiance (lampCal s ch) raw = e)
    (ends : sampleEnding e (addSample e r) = some how) :
    ∃ r1 w, (takeSample ch raw s) = (w, some how) ∧ r1.accumulator = min 4294967295 (r.accumulator + 2 * e)
      ∧ r1.lampSamples = r.lampSamples + 1 ∧ r1.slot = r.slot ∧ r1.target = r.target ∧ r1.nCap = r.nCap
      ∧ r1.segSamples = r.segSamples + 1 ∧ r1.segment = r.segment
      ∧ ∃ v, RunEnded ch r1 how v w ∧ v.din.lampOn = s.din.lampOn ∧ v.din.carry = s.din.carry
        ∧ (∀ k p, plateAt s k = some p → ∃ q, plateAt v k = some q)
        ∧ (how = .lampFail → isSet (.lampFail ch) v = true) := by
  obtain ⟨r1, which, taken⟩ := takeSample_ends run (same.symm ▸ ends)
  rw [same] at which
  have fields : r1.accumulator = min 4294967295 (r.accumulator + 2 * e) ∧ r1.lampSamples = r.lampSamples + 1
      ∧ r1.slot = r.slot ∧ r1.target = r.target ∧ r1.nCap = r.nCap ∧ r1.segSamples = r.segSamples + 1
      ∧ r1.segment = r.segment := by
    rcases which with rfl | rfl
    · rw [sampled_eq]
      exact ⟨rfl, rfl, rfl, rfl, rfl, rfl, rfl⟩
    · exact ⟨rfl, rfl, rfl, rfl, rfl, rfl, rfl⟩
  obtain ⟨acc, lamp, slot, target, cap, seg, segment⟩ := fields
  have stored : ∀ k p, plateAt s k = some p → ∃ q, plateAt (storeSample ch r1 s) k = some q := fun k p held => by
    rw [storeSample, modResult, plateAt_modPlate]
    split
    · next own =>
      rw [← own, show plateAt (setChannel ch (.integrating r1) s) k = some p from held]
      exact ⟨_, rfl⟩
    · exact ⟨p, held⟩
  have din := storeSample_din ch r1 s
  refine ⟨r1, _, taken, acc, lamp, slot, target, cap, seg, segment, ?_⟩
  by_cases dark : how = .lampFail
  · refine ⟨setFlag (.lampFail ch) (storeSample ch r1 s), ?_, by rw [(setFlag_frame _ _).2.2.2.2.1, din],
      by rw [(setFlag_frame _ _).2.2.2.2.1, din], fun k p held => ?_, fun _ => by simp [isSet_setFlag]⟩
    · rw [if_pos dark]
      exact endRun_ended ((channelAt_congr (by simp) ch).trans (channelAt_storeSample ch r1 s)) how
    · obtain ⟨q, heldQ⟩ := stored k p held
      exact ⟨q, (plateAt_setFlag _ _ _).trans heldQ⟩
  · refine ⟨storeSample ch r1 s, ?_, by rw [din], by rw [din], stored, fun eq => absurd eq dark⟩
    rw [if_neg dark]
    exact endRun_ended (channelAt_storeSample ch r1 s) how

/-- What the station's answer to an ending keeps of the channel that ended (R75, R133). -/
structure EndingHeard (ch : LampChannel) (s t : State) : Prop where
  rests : Rests ch s t
  flags : ∀ f, isSet f s = true → isSet f t = true
  working : t.rss.working = s.rss.working
  line : t.flt.lineState = s.flt.lineState
  queue : t.ptb.queue = s.ptb.queue
  lambda : t.wou.lambda = s.wou.lambda
  clock : t.dry.clock = s.dry.clock

theorem sample_ended {ch : LampChannel} {raw : Nat} {how : RunEnding} (taken : takeSample ch raw s = (t, some how)) :
    EndingHeard ch t (sample ch raw s) := by
  have exposure : EndingHeard ch t (exuRunEnding ch how t) :=
    ⟨rests_exuRunEnding ch how t, (goesOn_exuRunEnding ch how t).flags, by simp, by simp, by simp,
     (goesOn_exuRunEnding ch how t).lambda, by simp⟩
  have finisher : EndingHeard ch t (lfnRunEnding ch how t) :=
    ⟨rests_lfnRunEnding ch how t, fun f set => (isSet_congr (by simp) f).trans set, by simp, by simp, by simp, by simp,
     by simp⟩
  unfold sample
  rw [taken]
  cases ch with
  | back | main => exact exposure
  | uva | uvc => exact finisher

/-- Settles O42: the sample's ending by R49's order, the run ended, and the station's answer, which lets the channel's
part stand. -/
theorem samplesEndRuns : Obligations.SamplesEndRuns := by
  unfold Obligations.SamplesEndRuns
  intro c raw r p s power run held e dark accumulator ending how ends
  have step : exec (.sampleArrival c raw) s = .next (sample c raw.toNat s) := event_on power
  have ending_eq : sampleEnding e (addSample e r) = some how := by
    rw [sampleEnding_eq, sampled_eq]
    exact ends
  obtain ⟨r1, w, taken, acc, lamp, slot, target, cap, seg, segment, v, ended, lampOn, carry, plates, flag⟩ :=
    takeSample_ended (raw := raw.toNat) run rfl ending_eq
  have frame := takeSample_frame c raw.toNat s
  rw [taken] at frame
  obtain ⟨-, -, queue, -, working, -, -, -, -, -, wou, dry, -, -, -, -, line, -⟩ := frame
  have heard := sample_ended taken
  obtain ⟨recording, channel⟩ := ended.channel
  obtain ⟨pv, heldV⟩ := plates r.slot p held
  obtain ⟨q, heldQ, dose, samples, segments, outcome⟩ := ended.result pv (slot.symm ▸ heldV)
  obtain ⟨q2, heldQ2, same⟩ := heard.rests.results _ q heldQ
  rw [slot] at heldQ2
  refine ⟨_, _, q2, step, heard.rests.channel.trans channel, acc, lamp, slot, target, cap, heard.rests.lamp.trans ended.dark,
    heldQ2, ?_, ?_, ?_, ?_, fun failed => heard.flags _ (ended.flags _ (flag failed)), ?_, ?_, heard.working.trans working,
    heard.line.trans line, heard.queue.trans queue, heard.lambda.trans (congrArg (·.lambda) wou),
    heard.clock.trans (congrArg (·.clock) dry)⟩
  · rw [same, dose]
    exact congrArg (· / 1000) acc
  · rw [same, samples, lamp]
  · rw [same, segments, segment]
  · rw [same, outcome]
    cases how <;> rfl
  · rw [heard.rests.lampOn, ended.lampOn, lampOn, carry, seg]
  · rw [heard.rests.carry, ended.carry, carry, seg]

end Sys2Proof.Machine
end

section
/-! SUPPORT. The replies of the reading requests, field by field: the settlement of O27 (R22, R34, R37, R112, R126, R179,
R182, R195). -/

namespace Sys2Proof.Machine
variable {s : State}

/-- A request that only reads answers OK with its fields and changes nothing. -/
theorem request_read {kind tag : Byte} {fields : State → List Byte} (fits : bodyFits ⟨kind, tag, []⟩ = true)
    (blind : ∀ e, fields (serving e s) = fields s) (ready : Servable (.frame ⟨kind, tag, []⟩) s) :
    request kind tag [] (readReply fields) s = .next (replied kind tag ⟨.ok, fields s⟩ s) :=
  request_answered (congrArg (fun l => (serving _ s, okReply l)) (blind _)) (by simp) fits ready

/-! ### Lists of fields of one length -/

/-- The `j`-th byte of the `i`-th group of three. -/
theorem getElem?_flatMap_three {α : Type} {f : α → List Byte} (three : ∀ a, (f a).length = 3) (l : List α) (i j : Nat)
    (low : j < 3) : (l.flatMap f)[3 * i + j]? = l[i]?.bind fun a => (f a)[j]? := by
  induction l generalizing i with
  | nil => rfl
  | cons a l ih =>
    rw [List.flatMap_cons]
    cases i with
    | zero => rw [List.getElem?_append_left (by rw [three]; omega)]; simp
    | succ i =>
      rw [List.getElem?_append_right (by rw [three]; omega), three, show 3 * (i + 1) + j - 3 = 3 * i + j by omega, ih]
      rfl

theorem length_flatMap_three {α : Type} {f : α → List Byte} (three : ∀ a, (f a).length = 3) (l : List α) :
    (l.flatMap f).length = 3 * l.length := by
  rw [List.length_flatMap, List.map_congr_left (fun a _ => three a), List.map_const', List.sum_replicate, smul_eq_mul,
    Nat.mul_comm]

/-! ### FAULT_READ (R182) -/

theorem allFlags_at (f : Flag) : allFlags[f.place]? = some f := by
  have key : ∀ g ∈ allFlags, allFlags[g.place]? = some g := by decide
  exact key f (allFlags_complete f)

theorem faultFields_at (s : State) (f : Flag) {j : Nat} (low : j < 3) :
    (faultFields s)[2 + (3 * f.place + j)]? = (flagFields s f)[j]? := by
  have head : faultFields s = (bEnum lineStates s.flt.lineState ++ bBool (faultSummary s)) ++ allFlags.flatMap (flagFields s) :=
    rfl
  have two : (bEnum lineStates s.flt.lineState ++ bBool (faultSummary s)).length = 2 := rfl
  rw [head, List.getElem?_append_right (by rw [two]; omega), two, Nat.add_sub_cancel_left,
    getElem?_flatMap_three (fun _ => rfl) _ _ _ low, allFlags_at]
  rfl

theorem faultFields_length (s : State) : (faultFields s).length = 107 := by
  rw [faultFields, List.length_append, length_flatMap_three (fun _ => rfl)]
  rfl

/-- The three bytes of a flag: its set mark, its mask mark and its class. -/
theorem faultFields_flag (s : State) (f : Flag) :
    (faultFields s)[2 + 3 * f.place]? = some (if isSet f s then 1#8 else 0#8)
    ∧ (faultFields s)[3 + 3 * f.place]? = some (if flagHas s.flt.masks f then 1#8 else 0#8)
    ∧ (faultFields s)[4 + 3 * f.place]? = some (match flagClass f with
        | .line => 1#8
        | .station => 2#8
        | .warning => 3#8) := by
  have at_ {j : Nat} (low : j < 3) := faultFields_at s f low
  refine ⟨(at_ (j := 0) (by omega)).trans ?_, ?_, ?_⟩
  · cases h : isSet f s <;> simp [flagFields, bBool, b1, h]
  · rw [show 3 + 3 * f.place = 2 + (3 * f.place + 1) by omega, at_ (by omega)]
    cases h : flagHas s.flt.masks f <;> simp [flagFields, bBool, b1, h]
  · rw [show 4 + 3 * f.place = 2 + (3 * f.place + 2) by omega, at_ (by omega)]
    cases h : flagClass f <;> simp [flagFields, bBool, bEnum, b1, h] <;> rfl

/-! ### The fields of the other replies -/

theorem bBlocker_eq (b : Blocker) : bBlocker b = b1 (if b = .none then 0 else [Blocker.lineNotRun, .transportStopped,
    .transportFull, .gap, .replenishment, .flag, .loading, .speedBand, .noDrawer].idxOf b + 1) := by
  cases b <;> rfl

theorem replenishFields_eq (r : Replenishment) : replenishFields r = (match r with
    | .none => [1#8] ++ b2 0 ++ bOpt b2 none
    | .pending => [2#8] ++ b2 0 ++ bOpt b2 none
    | .blocked => [3#8] ++ b2 0 ++ bOpt b2 none
    | .running run => [4#8] ++ b2 run.runTime ++ bOpt b2 (some (run.pumped / 1000))) := by
  cases r <;> rfl

theorem replenishmentCode_eq (r : Replenishment) : b1 (replenishmentCode r) = (match r with
    | .none => [1#8]
    | .pending => [2#8]
    | .blocked => [3#8]
    | .running _ => [4#8]) := by
  cases r <;> rfl

theorem driveStateCode_eq (d : DriveState) : b1 (driveStateCode d) = (match d with
    | .off => [1#8]
    | .on _ => [2#8]
    | .fault => [3#8]) := by
  cases d <;> rfl

theorem drawerFields_eq (s : State) (d : Drawer) : drawerBinding d ++ drawerTimes s d = (match d with
    | .free => [1#8, 0#8, 255#8, 255#8] ++ bOpt b4 none ++ b2 0 ++ bOpt b4 none ++ bOpt b4 none ++ [0#8]
    | .reserved k id => [2#8] ++ b1 (k.val + 1) ++ b2 id ++ bOpt b4 none ++ b2 0 ++ bOpt b4 none ++ bOpt b4 none ++ [0#8]
    | .drying k id => [3#8] ++ b1 (k.val + 1) ++ b2 id ++ bOpt b4 ((dryPartOf s k).map (·.accrued))
      ++ b2 (((dryPartOf s k).map (·.required)).getD 0) ++ bOpt b4 none ++ bOpt b4 none ++ [0#8]
    | .dryDone k id done => [4#8] ++ b1 (k.val + 1) ++ b2 id ++ bOpt b4 none ++ b2 0 ++ bOpt b4 (some done)
      ++ bOpt b4 (some (s.dry.clock - done)) ++ bBool (((dryPartOf s k).map (·.overdry)).getD false)
    | .unloading k id => [5#8] ++ b1 (k.val + 1) ++ b2 id ++ bOpt b4 none ++ b2 0 ++ bOpt b4 none ++ bOpt b4 none
      ++ [0#8]) := by
  cases d with
  | drying k id =>
    simp only [drawerTimes]
    cases dryPartOf s k <;> rfl
  | free => rfl
  | reserved k id => rfl
  | dryDone k id done => rfl
  | unloading k id => rfl

theorem elevatorCode_eq (e : ElevatorState) : b1 (elevatorCode e) = (match e with
    | .idle => [1#8]
    | .inPhase (.travel _) => [2#8]
    | .inPhase .pick => [3#8]
    | .inPhase .place => [4#8]
    | .fault _ => [5#8]) := by
  cases e with
  | inPhase p => cases p <;> rfl
  | idle => rfl
  | fault p => rfl

theorem elevatorTarget_eq (e : ElevatorState) : elevatorTarget e = (match e with
    | .inPhase (.travel target) => some target.val
    | _ => none) := by
  cases e with
  | inPhase p => cases p <;> rfl
  | idle => rfl
  | fault p => rfl

theorem keptFields_eq (e : ElevatorState) : keptFields e = (match e with
    | .fault (.travel target) => [1#8] ++ bOpt b1 (some target.val)
    | .fault .pick => [2#8] ++ bOpt b1 none
    | .fault .place => [3#8] ++ bOpt b1 none
    | _ => [0#8] ++ bOpt b1 none) := by
  cases e with
  | fault p => cases p <;> rfl
  | idle => rfl
  | inPhase p => rfl

theorem requestFields_eq (q : Option ElevatorRequest) : requestFields q = (match q with
    | none => [0#8, 0#8, 0#8]
    | some .homing => [1#8, 0#8, 0#8]
    | some (.put k d) => [2#8] ++ bSlot (some k) ++ b1 (((some d).map (fun x => x.val + 1)).getD 0)
    | some (.take d k) => [3#8] ++ bSlot (some k) ++ b1 (((some d).map (fun x => x.val + 1)).getD 0)) := by
  cases q with
  | none => rfl
  | some r => cases r <;> rfl

theorem tableFields_eq (x : WashExitTable) : tableFields x = (match x with
    | .empty => [1#8] ++ bSlot none
    | .waitingPut k => [2#8] ++ bSlot (some k)
    | .putBegun k => [3#8] ++ bSlot (some k)
    | .clearWait => [4#8] ++ bSlot none) := by
  cases x <;> rfl

theorem exitPlate_eq (t : Transfer) : exitPlate t = t.plate.or t.incoming := by
  unfold exitPlate
  cases t.plate <;> rfl

theorem driveFields_eq (c : DriveChannel) (s : State) : driveFields (s.lio.drives.get c) = (match driveState c s with
    | .off => [1#8, 0#8, 0#8]
    | .fault => [3#8, 0#8, 0#8]
    | .on .none => [2#8, 0#8, 0#8]
    | .on (.value n) => [2#8] ++ b2 n
    | .on (.phase (.travel _) level) => [2#8, 1#8] ++ b1 level.val
    | .on (.phase .pick level) => [2#8, 2#8] ++ b1 level.val
    | .on (.phase .place level) => [2#8, 3#8] ++ b1 level.val) := by
  unfold driveFields
  rw [← show driveState c s = (s.lio.drives.get c).state from rfl]
  cases driveState c s with
  | off => rfl
  | fault => rfl
  | on sp =>
    cases sp with
    | none => rfl
    | value n => rfl
    | phase p l => cases p <;> rfl

theorem lampFields_eq (c : LampChannel) (s : State) : lampFields (s.lio.lamps.get c) = (match lampLevel c s with
    | none => [1#8, 0#8]
    | some n => [2#8] ++ b1 n) := by
  unfold lampFields
  rw [← show lampLevel c s = (s.lio.lamps.get c).level from rfl]
  cases lampLevel c s <;> rfl

/-- Below λ_ref the raw speed is the quotient, and above it the truncated difference makes the quotient 0 too. -/
theorem rawSpeed_eq (v lambdaRef eff : Nat) : rawSpeed v lambdaRef eff = v * (lambdaRef - eff) / lambdaRef := by
  unfold rawSpeed
  split
  · rfl
  · next above => simp [Nat.sub_eq_zero_of_le (Nat.not_lt.1 above)]

theorem offerFields_none (h : s.wou.offered = none) : offerFields s = [0#8] ++ bOpt b2 none ++ b2 0 ++ [0#8] ++ [0#8] := by
  simp only [offerFields, h]
  rfl

theorem offerFields_gone {k : Slot} (h : s.wou.offered = some k) (gone : plateAt s k = none) :
    offerFields s = [0#8] ++ bOpt b2 none ++ b2 0 ++ [0#8] ++ [0#8] := by
  simp only [offerFields, h, Option.bind_some, gone]
  rfl

theorem offerFields_some {k : Slot} {p : PlateRecord} (h : s.wou.offered = some k) (held : plateAt s k = some p) :
    offerFields s = bSlot (some k) ++ bOpt b2 (some (loadingIncrement (washCal s).bathVolume p)) ++ b2 (speedNow s p)
      ++ bBool (speedClamped p.working.vNom (washCal s).lambdaRef (lambdaEff s)) ++ bBlocker s.wou.blocker := by
  simp only [offerFields, h, Option.bind_some, held]

theorem flatMap_congr_fun {α β : Type} {f g : α → List β} (same : ∀ a, f a = g a) (l : List α) :
    l.flatMap f = l.flatMap g := by
  rw [funext same]

/-- Settles O27: each reply's fields unfolded, a field of several forms by its lemma. -/
theorem readsAnswer : Obligations.ReadsAnswer := by
  unfold Obligations.ReadsAnswer
  refine ⟨fun tag s => ⟨fun ready => ?_, fun ready => ?_, fun ready => ?_, fun ready => ?_, fun ready => ?_,
    fun ready => ?_⟩, fun s => ?_, fun s => ?_, ?_, ?_, ?_, fun s f => ⟨faultFields_length s, faultFields_flag s f⟩,
    fun tag s ready => ?_⟩
  · exact request_read rfl (fun _ => rfl) ready
  · exact request_read rfl (fun _ => rfl) ready
  · exact request_read rfl (fun _ => rfl) ready
  · exact request_read rfl (fun _ => rfl) ready
  · exact request_read rfl (fun _ => rfl) ready
  · exact request_read rfl (fun _ => rfl) ready
  · unfold calFields encodeLampCal encodeWashCal fixedValues lampHours lampChannels lampCal washCal dryerSetpoint
    rfl
  · unfold configFields encodeInput encodeOutput encodeExit bAttnSet allInputFunctions outputSources handoffModes allInputs
      allOutputs inputCfg outputCfg
    rfl
  · intro s eff w
    unfold solventFields
    rw [replenishFields_eq]
    have speedMark (v : Nat) : speedClamped v (washCal s).lambdaRef (lambdaEff s)
        = decide (v * (w.lambdaRef - eff) / w.lambdaRef < 100) := by
      simp only [speedClamped, rawSpeed_eq]
      rfl
    cases offered : s.wou.offered with
    | none =>
      rw [offerFields_none offered]
      rfl
    | some k =>
      cases held : plateAt s k with
      | none =>
        rw [offerFields_gone offered held, Option.bind_some, held]
        rfl
      | some p =>
        rw [offerFields_some offered held, Option.bind_some, held, bBlocker_eq, speedMark]
        rfl
  · intro s sp dryPart
    unfold dryerFields
    rw [driveStateCode_eq, flatMap_congr_fun (fun d => drawerFields_eq s (drawerAt s d))]
    rfl
  · intro s drawer status
    unfold lineFields exuFields lfnFields trcFields lioFields
    rw [elevatorCode_eq, elevatorTarget_eq, keptFields_eq, requestFields_eq, tableFields_eq, exitPlate_eq,
      replenishmentCode_eq, bBlocker_eq, flatMap_congr_fun (fun c => driveFields_eq c s),
      flatMap_congr_fun (fun c => lampFields_eq c s)]
    rfl
  · have unmatched : bId s.ptb.lastUnmatched = (match s.ptb.lastUnmatched with
        | none => [255#8, 255#8]
        | some tagRead => b2 tagRead) := by
      cases s.ptb.lastUnmatched <;> rfl
    have run : exec (.queueRead tag []) s = .next (replied 36#8 tag ⟨.ok, queueFields s⟩ s) :=
      request_read rfl (fun _ => rfl) ready
    rw [queueFields, unmatched] at run
    exact run

end Sys2Proof.Machine
end

section
/-! SUPPORT. PLATE_EJECT: what a station that gives up its plate leaves, and the settlement of O33 (R25, R82, R136, R138). -/

namespace Sys2Proof.Machine
variable {s t u : State} {ch d : LampChannel}

/-! ### Records whose results alone change -/

/-- Every record stands from `s` to `t` but for its results. -/
def Retouched (s t : State) : Prop :=
  ∀ k r, plateAt s k = some r → ∃ res, plateAt t k = some { r with results := res }

namespace Retouched

theorem refl (s : State) : Retouched s s := fun _ r held => ⟨r.results, held⟩

theorem trans (h : Retouched s t) (g : Retouched t u) : Retouched s u := fun k r held => by
  obtain ⟨res, heldT⟩ := h k r held
  obtain ⟨res', heldU⟩ := g k _ heldT
  exact ⟨res', heldU⟩

theorem of_eq (same : t.ptb.plates = s.ptb.plates) : Retouched s t := fun k r held =>
  ⟨r.results, (plateAt_congr same k).trans held⟩

end Retouched

theorem retouched_modResult (k : Slot) (ch : LampChannel) (f : RunResult → RunResult) (s : State) :
    Retouched s (modResult k ch f s) := fun j r held => by
  rw [modResult, plateAt_modPlate]
  split
  · next own =>
    rw [← own, held]
    exact ⟨_, rfl⟩
  · exact ⟨r.results, held⟩

theorem retouched_writeTrace (ch : LampChannel) (r : RunRecord) (s : State) : Retouched s (writeTrace ch r s) := by
  have flagged : Retouched s (setFlag .traceOverflow
      (modDin (fun d => { d with nextNumber := nextRecordNumber d.nextNumber }) s)) := .of_eq (by simp)
  have suspended (v : State) : Retouched v (suspendRecording v) := .of_eq (by simp)
  unfold writeTrace
  split
  · split
    · dsimp only
      split
      · exact .of_eq (by simp)
      · exact .of_eq (by simp)
    · exact (flagged.trans (retouched_modResult _ _ _ _)).trans (suspended _)
  · exact retouched_modResult _ _ _ _

theorem retouched_endSegment (ch : LampChannel) (n : Nat) (s : State) : Retouched s (endSegment ch n s) := by
  have off : Retouched s (lampOff ch s) := .of_eq (by simp)
  have closed (v : State) : Retouched v (closeFinalWindow ch v) := by
    unfold closeFinalWindow
    split
    · split
      · exact retouched_writeTrace _ _ _
      · exact .refl v
    · exact .refl v
  exact (off.trans (closed _)).trans (.of_eq (by simp [endSegment]))

theorem retouched_releaseChannel (ch : LampChannel) (s : State) : Retouched s (releaseChannel ch s) := by
  unfold releaseChannel
  split
  · exact (retouched_endSegment _ _ _).trans (.of_eq rfl)
  · exact .refl s
  · exact .of_eq rfl
  · exact .of_eq rfl

/-! ### Channels released (R82, R136) -/

theorem channelAt_releaseEnded_other (other : d ≠ ch) : channelAt (releaseEnded ch s) d = channelAt s d := by
  unfold releaseEnded
  split
  · rw [channelAt_setChannel, if_neg other]
  · rfl

theorem channelAt_releaseEnded_ended {r : RunRecord} {how : RunEnding} (ended : channelAt s ch = .ended r how) :
    channelAt (releaseEnded ch s) ch = .idle := by
  simp only [releaseEnded, ended]
  exact channelAt_setChannel_self _ _ _

theorem writeTrace_idle (r : RunRecord) (idle : channelAt s d = .idle) : channelAt (writeTrace ch r s) d = .idle := by
  cases recorded : r.recording with
  | false => exact (channelAt_congr (congrArg (·.channels) (writeTrace_unrecorded recorded)) d).trans idle
  | true =>
    by_cases full : 512 ≤ s.din.trace.length
    · have suspended : channelAt (writeTrace ch r s) d = suspendChannel (channelAt s d) := by
        simp only [channelAt, (writeTrace_full recorded full).2.2.2]
        cases d <;> rfl
      rw [suspended, idle]
      rfl
    · rw [channelAt_congr (s := s) (by rw [writeTrace_room recorded (Nat.not_le.1 full)]) d, idle]

theorem endSegment_idle (n : Nat) (idle : channelAt s d = .idle) : channelAt (endSegment ch n s) d = .idle := by
  have off : channelAt (lampOff ch s) d = .idle := (channelAt_congr (by simp) d).trans idle
  have timed : channelAt (endSegment ch n s) d = channelAt (closeFinalWindow ch (lampOff ch s)) d :=
    channelAt_congr (by simp [endSegment]) d
  rw [timed, closeFinalWindow]
  split
  · split
    · exact writeTrace_idle _ off
    · exact off
  · exact off

theorem channelAt_releaseChannel_self : channelAt (releaseChannel ch s) ch = .idle := by
  unfold releaseChannel
  split
  · exact channelAt_setChannel_self _ _ _
  · next idle => exact idle
  · exact channelAt_setChannel_self _ _ _
  · exact channelAt_setChannel_self _ _ _

theorem channelAt_releaseChannel_idle (idle : channelAt s d = .idle) : channelAt (releaseChannel ch s) d = .idle := by
  unfold releaseChannel
  split
  · rw [channelAt_setChannel]
    split
    · rfl
    · exact endSegment_idle _ idle
  · exact idle
  all_goals
    rw [channelAt_setChannel]
    split
    · rfl
    · exact idle

/-! ### The stations without their plates (R82, R84, R136, R138) -/

theorem exuEnterClearWait_exu (s : State) : (exuEnterClearWait s).exu.plate = none
    ∧ (exuEnterClearWait s).exu.state = (if inputActive .exuPresent s then .clearWait else .empty) := by
  have same : ∀ f, inputActive .exuPresent (modExu f s) = inputActive .exuPresent s := fun _ => inputActive_congr rfl rfl _
  unfold exuEnterClearWait
  dsimp only
  rw [same]
  split
  · exact ⟨rfl, rfl⟩
  · exact ⟨by simp [exuEnterEmpty, modExu], by simp [exuEnterEmpty, modExu]⟩

/-- What the arbiter leaves of the finisher: its runs and its tag. -/
theorem arbiter_runs (s : State) : (arbiter s).lfn.uva = s.lfn.uva ∧ (arbiter s).lfn.uvc = s.lfn.uvc
    ∧ (arbiter s).lfn.tagRead = s.lfn.tagRead := by
  unfold arbiter
  split
  · split
    · simp
    · split
      · split
        · simp [beginTake, modLfn]
        · exact ⟨rfl, rfl, rfl⟩
      · exact ⟨rfl, rfl, rfl⟩
  · exact ⟨rfl, rfl, rfl⟩

theorem lfnEnterClearWait_lfn (s : State) : (lfnEnterClearWait s).lfn.plate = s.lfn.plate
    ∧ (lfnEnterClearWait s).lfn.state = (if inputActive .lfnPresent s then .clearWait else .empty)
    ∧ (lfnEnterClearWait s).lfn.uva = s.lfn.uva ∧ (lfnEnterClearWait s).lfn.uvc = s.lfn.uvc
    ∧ (lfnEnterClearWait s).lfn.tagRead = s.lfn.tagRead := by
  have same : ∀ f, inputActive .lfnPresent (modLfn f s) = inputActive .lfnPresent s := fun _ => inputActive_congr rfl rfl _
  unfold lfnEnterClearWait
  dsimp only
  rw [same]
  split
  · exact ⟨rfl, rfl, rfl, rfl, rfl⟩
  · exact ⟨by simp [lfnEnterEmpty, modLfn], by simp [lfnEnterEmpty, modLfn], (arbiter_runs _).1, (arbiter_runs _).2.1,
      (arbiter_runs _).2.2⟩

theorem closeScrapped_held {k : Slot} {r : PlateRecord} (at_ : plateAt s k = some r) (held : r.state = .held) :
    closeScrapped k s = raiseAttn .plateClosed
      (setPlate k (some { r with state := .scrapped, held := none, outcome := some .scrapped }) s) := by
  simp only [closeScrapped, at_, held, if_true]

theorem closeScrapped_reports {k : Slot} {r : PlateRecord} (at_ : plateAt s k = some r) (held : r.state = .held) :
    attnHas (closeScrapped k s).lnk.attnPending .plateClosed = true := by
  rw [closeScrapped_held at_ held, raiseAttn_pending, attnHas_or, attnHas_attnBit]
  simp

/-- The exposure unit after an eject. -/
structure ExposureEjected (s t : State) : Prop where
  plate : t.exu.plate = none
  state : t.exu.state = (if inputActive .exuPresent s then .clearWait else .empty)
  ended : ∀ c run ending, c = .back ∨ c = .main → channelAt s c = .ended run ending → channelAt t c = .idle
  uva : channelAt t .uva = channelAt s .uva
  uvc : channelAt t .uvc = channelAt s .uvc
  rollers : driveIsOn .intakeRollers t = false

theorem exuEject_ejected (reason : HoldReason) (s : State) : ExposureEjected s (exuEject reason s) := by
  obtain ⟨v, eq, same, lio, rss⟩ : ∃ v : State, exuEject reason s = exuEnterClearWait v
      ∧ v.din = (releaseEnded .main (releaseEnded .back (driveOff .intakeRollers s))).din
      ∧ v.lio = (driveOff .intakeRollers s).lio ∧ v.rss = s.rss := by
    unfold exuEject
    dsimp only
    split
    · exact ⟨_, rfl, rfl, by simp, by simp⟩
    · exact ⟨_, rfl, rfl, by simp, by simp⟩
  have channels (c : LampChannel) : channelAt (exuEject reason s) c =
      channelAt (releaseEnded .main (releaseEnded .back (driveOff .intakeRollers s))) c := by
    rw [eq]
    exact channelAt_congr (by simp [same]) c
  have first (c : LampChannel) : channelAt (driveOff .intakeRollers s) c = channelAt s c := channelAt_congr (by simp) c
  obtain ⟨plate, state⟩ := exuEnterClearWait_exu v
  have senses : inputActive .exuPresent v = inputActive .exuPresent s :=
    inputActive_congr (by simp [lio]) (by rw [rss]) _
  refine ⟨eq ▸ plate, ?_, fun c run ending which ended => ?_, ?_, ?_, ?_⟩
  · rw [eq, state, senses]
  · rw [channels]
    rcases which with rfl | rfl
    · rw [channelAt_releaseEnded_other (by decide)]
      exact channelAt_releaseEnded_ended ((first _).trans ended)
    · exact channelAt_releaseEnded_ended ((channelAt_releaseEnded_other (by decide)).trans ((first _).trans ended))
  · rw [channels, channelAt_releaseEnded_other (by decide), channelAt_releaseEnded_other (by decide), first]
  · rw [channels, channelAt_releaseEnded_other (by decide), channelAt_releaseEnded_other (by decide), first]
  · rw [eq, driveIsOn_congr (s := driveOff .intakeRollers s) (by simp [lio]), driveIsOn_driveOff]
    simp

/-- The finisher after an eject. -/
structure FinisherEjected (s t : State) : Prop where
  plate : t.lfn.plate = none
  state : t.lfn.state = (if inputActive .lfnPresent s then .clearWait else .empty)
  uvaRun : t.lfn.uva = ⟨.waiting, false⟩
  uvcRun : t.lfn.uvc = ⟨.waiting, false⟩
  tag : t.lfn.tagRead = none
  uva : channelAt t .uva = .idle
  uvc : channelAt t .uvc = .idle
  records : Retouched s t

theorem lfnEject_ejected (s : State) : FinisherEjected s (lfnEject s) := by
  have released := (retouched_releaseChannel .uva s).trans (retouched_releaseChannel .uvc (releaseChannel .uva s))
  obtain ⟨v, eq⟩ : ∃ v, v = modLfn lfnClear (releaseChannel .uvc (releaseChannel .uva s)) := ⟨_, rfl⟩
  have ejected : lfnEject s = lfnEnterClearWait v := by rw [eq]; rfl
  obtain ⟨plate, state, uva, uvc, tag⟩ := lfnEnterClearWait_lfn v
  have channels (c : LampChannel) : channelAt (lfnEject s) c = channelAt (releaseChannel .uvc (releaseChannel .uva s)) c := by
    rw [ejected, eq]
    exact channelAt_congr (by simp) c
  have senses : inputActive .lfnPresent v = inputActive .lfnPresent s := by
    rw [eq]
    exact inputActive_congr (by simp) (by simp) _
  refine ⟨?_, ?_, ?_, ?_, ?_, ?_, ?_, ?_⟩
  · rw [ejected, plate, eq]
    rfl
  · rw [ejected, state, senses]
  · rw [ejected, uva, eq]
    rfl
  · rw [ejected, uvc, eq]
    rfl
  · rw [ejected, tag, eq]
    rfl
  · rw [channels]
    exact channelAt_releaseChannel_idle channelAt_releaseChannel_self
  · rw [channels]
    exact channelAt_releaseChannel_self
  · rw [ejected, eq]
    exact released.trans (.of_eq (by simp))

theorem actPlateEject_named {how hi lo : Byte} {k : Slot} {r : PlateRecord} (e : RxEntry)
    (named : selected how hi lo s = some k) (at_ : plateAt s k = some r) :
    onPlate [how, hi, lo] ejectPlate (serving e s) = ejectPlate k r (serving e s) :=
  withPlate_found (s := serving e s) ejectPlate named at_

/-- Settles O33: the station of the held plate gives it up, then its record is closed. -/
theorem plateEject : Obligations.PlateEject := by
  unfold Obligations.PlateEject
  intro tag how hi lo k r s ready named at_
  obtain ⟨w, serves⟩ : ∃ w, w = serving (.frame ⟨39#8, tag, [how, hi, lo]⟩) s := ⟨_, rfl⟩
  have part := actPlateEject_named (.frame ⟨39#8, tag, [how, hi, lo]⟩) named at_
  rw [← serves] at part
  have atW : plateAt w k = some r := by rw [serves]; exact at_
  have run {v : State} {a : Reply} (acted : ejectPlate k r w = (v, a)) (line : v.flt.lineState = s.flt.lineState) :
      exec (.plateEject tag [how, hi, lo]) s = .next (replied 39#8 tag a v) :=
    request_served (by rw [← serves]; exact part.trans acted) (line ▸ ready.2.1) (by simp) rfl ready
  refine ⟨fun other => ?_, fun reason held station => ?_, fun reason held station => ?_⟩
  · have refused : ejectPlate k r w = (w, refusal .wrongState) := by
      unfold ejectPlate
      split
      · next state _ => exact absurd state other
      · next state _ => exact absurd state other
      · rfl
    rw [Answers, run refused (by rw [serves]; rfl), serves]
    rfl
  · have acted : ejectPlate k r w = (closeScrapped k (exuEject reason w), okReply []) := by simp [ejectPlate, held, station]
    have ejected := exuEject_ejected reason w
    have still : plateAt (exuEject reason w) k = some r := (plateAt_congr (by simp) k).trans atW
    have closed := closeScrapped_held still held
    refine ⟨_, run acted (by simp [serves]), ?_, ?_, ?_, closeScrapped_reports still held,
      accepted_tx (by simp [serves, serving]), ?_, ?_, fun c rr ending which ended => ?_, ?_, ?_, ?_, ?_⟩
    · rw [show (replied 39#8 tag (okReply []) (closeScrapped k (exuEject reason w))).ptb.plates
        = (closeScrapped k (exuEject reason w)).ptb.plates from rfl, closed]
      simp [setPlate, serves]
    · simp [replied, serves]
    · simp [replied, serves]
    · refine Eq.trans ?_ ejected.plate
      simp [replied]
    · refine Eq.trans ?_ (ejected.state.trans ?_)
      · simp [replied]
      · rw [serves]
        rfl
    · exact (channelAt_congr (by simp [replied]) c).trans (ejected.ended c rr ending which (by rw [serves]; exact ended))
    · exact (channelAt_congr (by simp [replied]) _).trans (ejected.uva.trans (by rw [serves]; rfl))
    · exact (channelAt_congr (by simp [replied]) _).trans (ejected.uvc.trans (by rw [serves]; rfl))
    · exact (driveIsOn_congr (by simp [replied]) _).trans ejected.rollers
    · simp [replied, serves, serving]
  · have acted : ejectPlate k r w = (closeScrapped k (lfnEject w), okReply []) := by simp [ejectPlate, held, station]
    have ejected := lfnEject_ejected w
    obtain ⟨res, still⟩ := ejected.records k r atW
    have closed := closeScrapped_held still held
    have record : plateAt (closeScrapped k (lfnEject w)) k = some { r with
        results := res
        state := .scrapped
        held := none
        outcome := some .scrapped } := by
      rw [closed, plateAt_raiseAttn, plateAt_setPlate, if_pos rfl]
    refine ⟨_, run acted (by simp [serves]), ⟨_, record, rfl, rfl, rfl, rfl, rfl⟩, closeScrapped_reports still held,
      accepted_tx (by simp [serves, serving]), ?_, ?_, ?_, ?_, ?_, ?_, ?_, ?_⟩
    · refine Eq.trans ?_ ejected.plate
      simp [replied]
    · refine Eq.trans ?_ (ejected.state.trans ?_)
      · simp [replied]
      · rw [serves]
        rfl
    · refine Eq.trans ?_ ejected.uvaRun
      simp [replied]
    · refine Eq.trans ?_ ejected.uvcRun
      simp [replied]
    · refine Eq.trans ?_ ejected.tag
      simp [replied]
    · exact (channelAt_congr (by simp [replied]) _).trans ejected.uva
    · exact (channelAt_congr (by simp [replied]) _).trans ejected.uvc
    · simp [replied, serves, serving]

end Sys2Proof.Machine
end

section
/-! SUPPORT. The transport taken anew and the admission of a plate: the settlement of O44 (R89, R90, R93, R95, R97, R98,
R116). -/

namespace Sys2Proof.Machine
variable {s t u : State}

/-! ### The transport taken anew (R93) -/

theorem takeTransport_wou (s : State) : (takeTransport s).wou = { s.wou with
    transport := transportStateOf s
    speed := if s.wou.list.isEmpty then 0 else s.wou.speed } := by
  unfold takeTransport
  dsimp only
  (repeat' split) <;> simp_all [modWou]

theorem transportStateOf_running : transportStateOf s = .running ↔ s.wou.list ≠ [] ∧ inhibitActive s = false
    ∧ driveFaulted .transport s = false ∧ driveFaulted .brushes s = false ∧ s.wou.stallHold = false := by
  unfold transportStateOf
  cases s.wou.list <;> cases inhibitActive s <;> cases driveFaulted .transport s <;> cases driveFaulted .brushes s
    <;> cases s.wou.stallHold <;> simp

/-- A transport that runs on keeps its drives as they are. -/
theorem takeTransport_on (before : s.wou.transport = .running) (after : transportStateOf s = .running) :
    (takeTransport s).lio = s.lio := by
  simp [takeTransport, before, after, modWou]

/-- A transport that does not run and does not start keeps its drives as they are. -/
theorem takeTransport_still (before : s.wou.transport ≠ .running) (after : transportStateOf s ≠ .running) :
    (takeTransport s).lio = s.lio := by
  simp [takeTransport, before, after, modWou]

theorem takeTransport_stops (before : s.wou.transport = .running) (after : transportStateOf s ≠ .running) :
    driveIsOn .transport (takeTransport s) = false ∧ driveIsOn .brushes (takeTransport s) = false := by
  have stopped : takeTransport s = driveOff .brushes (driveOff .transport (modWou (fun w => { w with
      transport := transportStateOf s, speed := if w.list.isEmpty then 0 else w.speed }) s)) := by
    simp [takeTransport, before, after]
  simp [stopped, driveIsOn_driveOff]

theorem takeTransport_starts (before : s.wou.transport ≠ .running) (after : transportStateOf s = .running) :
    driveIsOn .transport (takeTransport s) = true ∧ driveIsOn .brushes (takeTransport s) = true := by
  obtain ⟨list, inhibit, transport, brushes, stall⟩ := transportStateOf_running.1 after
  obtain ⟨v, speed, same, lines, store⟩ : ∃ (v : State) (n : Nat), takeTransport s = driveOn .brushes .none
      (driveOn .transport (.value n) v) ∧ v.lio = s.lio ∧ v.rss = s.rss :=
    ⟨_, _, if_pos ⟨after, before⟩, rfl, rfl⟩
  have quiet : inhibitActive v = false := (inhibitActive_congr (by rw [lines]) (by rw [store])).trans inhibit
  have faulted (c : DriveChannel) : driveFaulted c v = driveFaulted c s := by
    simp only [driveFaulted, driveState, lines]
  have first : driveState .transport (driveOn .transport (.value speed) v) = .on (.value speed) := by
    rw [driveState_driveOn, if_pos ⟨rfl, (faulted _).trans transport, .inr quiet⟩]
  have brushesKept : driveState .brushes (driveOn .transport (.value speed) v) = driveState .brushes v := by
    rw [driveState_driveOn, if_neg (by simp)]
  have quiet' : inhibitActive (driveOn .transport (.value speed) v) = false :=
    (inhibitActive_congr (by simp) (by simp)).trans quiet
  have free : driveFaulted .brushes (driveOn .transport (.value speed) v) = false := by
    rw [driveFaulted, brushesKept]
    exact (faulted .brushes).trans brushes
  rw [same, driveIsOn_iff, driveIsOn_iff]
  refine ⟨⟨.value speed, ?_⟩, ⟨.none, ?_⟩⟩
  · rw [driveState_driveOn, if_neg (by simp), first]
  · rw [driveState_driveOn, if_pos ⟨rfl, free, .inr quiet'⟩]

/-! ### What an admission evaluation can do (R95, R97) -/

/-- The evaluation admits nothing: the blocker is set, and SOLVENT_LIMIT may be. -/
structure Unadmitted (s t : State) : Prop where
  wou : ∃ b, t.wou = { s.wou with blocker := b }
  ptb : t.ptb = s.ptb
  dry : t.dry = s.dry
  exu : t.exu = s.exu
  drives : t.lio.drives = s.lio.drives

theorem unadmitted_setBlocker (b : Blocker) (s : State) : Unadmitted s (setBlocker b s) := ⟨⟨b, rfl⟩, rfl, rfl, rfl, rfl⟩

theorem unadmitted_blocked (b : Blocker) (s : State) : Unadmitted s (setFlag .solventLimit (setBlocker b s)) :=
  ⟨⟨b, by simp [setBlocker, modWou]⟩, by simp, by simp, by simp, by simp⟩

theorem unadmitted_testAdmission {p : PlateRecord} (k : Slot) (blocked : firstBlocker s p ≠ .none) :
    Unadmitted s (testAdmission k p s) := by
  unfold testAdmission
  rw [if_neg blocked]
  dsimp only
  split
  · exact unadmitted_setBlocker _ s
  · exact unadmitted_blocked _ s

/-- R95: an evaluation admits nothing, or it admits the offered plate, EXPOSED and with no blocker, to a drawer. -/
theorem evalAdmission_cases (s : State) : Unadmitted s (evalAdmission s)
    ∨ ∃ k p d v, s.wou.offered = some k ∧ plateAt s k = some p ∧ p.state = .exposed ∧ firstBlocker s p = .none
        ∧ reserveDrawer k s = some (d, v) ∧ evalAdmission s = admitPlate k p d v := by
  unfold evalAdmission
  split
  · exact .inl (unadmitted_setBlocker _ s)
  · next k offered =>
    split
    · exact .inl ⟨⟨s.wou.blocker, rfl⟩, rfl, rfl, rfl, rfl⟩
    · next p held =>
      split
      · next exposed =>
        by_cases none : firstBlocker s p = .none
        · cases granted : reserveDrawer k s with
          | none =>
            refine .inl ?_
            simp only [testAdmission, none, if_true, granted]
            exact unadmitted_setBlocker _ s
          | some x =>
            refine .inr ⟨k, p, x.1, x.2, offered, held, exposed, none, granted, ?_⟩
            simp only [testAdmission, none, if_true, granted]
        · exact .inl (unadmitted_testAdmission k none)
      · exact .inl ⟨⟨s.wou.blocker, rfl⟩, rfl, rfl, rfl, rfl⟩

/-- Where every plate has a blocker nothing is admitted. -/
theorem unadmitted_of_blocked (blocked : ∀ p, firstBlocker s p ≠ .none) : Unadmitted s (evalAdmission s) := by
  rcases evalAdmission_cases s with none | ⟨k, p, d, v, -, -, -, admitted, -⟩
  · exact none
  · exact absurd admitted (blocked p)

theorem firstBlocker_none_iff {p : PlateRecord} : firstBlocker s p = .none ↔
    s.flt.lineState = .run ∧ (s.wou.transport = .idle ∨ s.wou.transport = .running) ∧ s.wou.list.length < 3
    ∧ tailPastGap s.wou.list = true ∧ replenishmentOpen s.wou.replenish = true ∧ admissionFlagged s = false
    ∧ loadingFits s p = true ∧ inSpeedBand s p = true := by
  have limit : Config.transportLimit = 3 := rfl
  unfold firstBlocker
  constructor
  · intro none
    (repeat' split at none) <;> simp_all
    tauto
  · rintro ⟨line, transport, room, gap, replenish, flags, fits, band⟩
    have c2 : ¬ (s.wou.transport ≠ .idle ∧ s.wou.transport ≠ .running) := by tauto
    simp [line, c2, limit, Nat.not_le.2 room, gap, replenish, flags, fits, band]

theorem unadmitted_not_run (h : s.flt.lineState ≠ .run) : Unadmitted s (evalAdmission s) :=
  unadmitted_of_blocked fun _ none => h (firstBlocker_none_iff.1 none).1

theorem unadmitted_stopped (idle : s.wou.transport ≠ .idle) (running : s.wou.transport ≠ .running) :
    Unadmitted s (evalAdmission s) :=
  unadmitted_of_blocked fun _ none => by
    rcases (firstBlocker_none_iff.1 none).2.1 with h | h
    · exact idle h
    · exact running h

theorem unadmitted_replenishing (h : replenishmentOpen s.wou.replenish = false) : Unadmitted s (evalAdmission s) :=
  unadmitted_of_blocked fun _ none => by
    have := (firstBlocker_none_iff.1 none).2.2.2.2.1
    simp [h] at this

/-! ### The admission itself (R97, R116, R79) -/

/-- The increment of a plate, the speed it runs at and its entry, in the state it is admitted in. -/
def admitIncrement (s : State) (p : PlateRecord) : Nat := loadingIncrement (washCal s).bathVolume p
def admitSpeed (s : State) (p : PlateRecord) : Nat := if s.wou.list.isEmpty then speedNow s p else s.wou.speed
def admitEntry (s : State) (k : Slot) (p : PlateRecord) : TransportEntry :=
  { slot := k, plateId := p.plateId, length := p.length, increment := admitIncrement s p, position := 0,
    committed := false, stall := 0 }

/-- The record of a plate admitted to drawer `d`, before the speed notice. -/
def admitRecord (s : State) (p : PlateRecord) (d : DrawerNo) : PlateRecord :=
  { p with
    state := .washing
    washout := some { entrySpeed := admitSpeed s p, joined := !s.wou.list.isEmpty, increment := admitIncrement s p,
                      stallTime := 0 }
    drawer := some d }

theorem admitPlate_eq (k : Slot) (p : PlateRecord) (d : DrawerNo) (s : State) :
    ∃ v, admitPlate k p d s = takeTransport (exuHandOver k (modWou (fun w => { w with offered := none, blocker := .none }) v))
      ∧ v.wou = { s.wou with
          list := s.wou.list ++ [admitEntry s k p]
          speed := admitSpeed s p
          committed := s.wou.committed + admitIncrement s p }
      ∧ v.exu = s.exu ∧ v.dry = s.dry ∧ v.lio.inputs = s.lio.inputs ∧ v.lio.drives = s.lio.drives ∧ v.rss = s.rss
      ∧ v.ptb.queue = s.ptb.queue
      ∧ (∀ j, j ≠ k → plateAt v j = plateAt s j)
      ∧ (plateAt s k = some p → p.state = .exposed → plateAt v k = some (if speedClamped p.working.vNom
          (washCal s).lambdaRef (lambdaEff s) then appendNotice .washSpeedClamped (admitRecord s p d)
          else admitRecord s p d)) := by
  have speed : (if (!s.wou.list.isEmpty) = true then s.wou.speed else speedNow s p) = admitSpeed s p := by
    cases h : s.wou.list.isEmpty <;> simp [admitSpeed, h]
  unfold admitPlate
  dsimp only
  rw [speed]
  refine ⟨_, rfl, ?_, ?_, ?_, ?_, ?_, ?_, ?_, fun j other => ?_, fun held exposed => ?_⟩
  · split <;> simp [modWou, admitEntry, admitIncrement]
  · split <;> simp
  · split <;> simp
  · split <;> simp
  · split <;> simp
  · split <;> simp
  · split <;> simp
  · have listed (f : Washout → Washout) : plateAt (refreshOutputs (modWou f s)) j = plateAt s j :=
      plateAt_congr (by simp) j
    split
    · rw [addNotice, plateAt_modPlate, if_neg other, plateAt_movePlate, if_neg other, listed]
    · rw [plateAt_movePlate, if_neg other, listed]
  · have moved (v : State) (at_ : plateAt v k = some p) : plateAt (movePlate k .exposed .washing (fun r => { r with
        washout := some { entrySpeed := admitSpeed s p, joined := !s.wou.list.isEmpty,
                          increment := loadingIncrement (washCal s).bathVolume p, stallTime := 0 }
        drawer := some d }) v) k = some (admitRecord s p d) := by
      rw [plateAt_movePlate, if_pos rfl, at_]
      simp only [Option.map_some, exposed, if_true]
      rfl
    have listed (f : Washout → Washout) : plateAt (refreshOutputs (modWou f s)) k = some p :=
      (plateAt_congr (by simp) k).trans held
    split
    · rw [addNotice, plateAt_modPlate, if_pos rfl, moved _ (listed _)]
      rfl
    · exact moved _ (listed _)

theorem reserveDrawer_eq {k : Slot} {d : DrawerNo} {v : State} (granted : reserveDrawer k s = some (d, v)) :
    v = refreshOutputs (setDrawer d (.reserved k (plateIdAt s k)) s) := by
  unfold reserveDrawer at granted
  split at granted
  · cases free : lowestFreeDrawer s with
    | none => simp [free] at granted
    | some e =>
      simp only [free, Option.some.injEq, Prod.mk.injEq] at granted
      obtain ⟨rfl, same⟩ := granted
      exact same.symm
  · exact absurd granted (by simp)

/-- An admission of plate `k`, in slot `k` with record `p`, to drawer `d`. -/
structure Admitted (k : Slot) (p : PlateRecord) (d : DrawerNo) (s t : State) : Prop where
  wou : t.wou = { s.wou with
    list := s.wou.list ++ [admitEntry s k p]
    speed := admitSpeed s p
    committed := s.wou.committed + admitIncrement s p
    offered := none
    blocker := .none
    transport := t.wou.transport }
  transport : t.wou.transport = .running ↔ inhibitActive s = false ∧ driveFaulted .transport s = false
    ∧ driveFaulted .brushes s = false ∧ s.wou.stallHold = false
  drives : s.wou.transport = .running → t.wou.transport = .running → t.lio.drives = s.lio.drives
  others : ∀ j, j ≠ k → plateAt t j = plateAt s j
  record : plateAt s k = some p → p.state = .exposed → plateAt t k = some (if speedClamped p.working.vNom
    (washCal s).lambdaRef (lambdaEff s) then appendNotice .washSpeedClamped (admitRecord s p d) else admitRecord s p d)
  drawers : t.dry.drawers = s.dry.drawers.set d.val (.reserved k (plateIdAt s k)) d.isLt
  exu : s.exu.state = .exposed → s.exu.plate = some k →
    t.exu.plate = none ∧ t.exu.state = (if inputActive .exuPresent s then .clearWait else .empty)
  frame : t.ptb.queue = s.ptb.queue ∧ t.flt = s.flt ∧ t.din = s.din ∧ t.rss = s.rss ∧ t.lfn = s.lfn ∧ t.trc = s.trc
    ∧ t.lio.lamps = s.lio.lamps

theorem admitPlate_admitted {k : Slot} {p : PlateRecord} {d : DrawerNo} {v : State}
    (granted : reserveDrawer k s = some (d, v)) : Admitted k p d s (admitPlate k p d v) := by
  have grant := reserveDrawer_frame granted
  obtain ⟨-, -, ptb, rss, din, exu, wou, -, lfn, trc, inputs, drives, lamps, flt, -⟩ := grant
  have reserved : v.dry.drawers = s.dry.drawers.set d.val (.reserved k (plateIdAt s k)) d.isLt := by
    rw [reserveDrawer_eq granted]
    simp [setDrawer, modDry]
  have entry : admitEntry v k p = admitEntry s k p := by simp only [admitEntry, admitIncrement, washCal, rss]
  have increment : admitIncrement v p = admitIncrement s p := by simp only [admitIncrement, washCal, rss]
  have speed : admitSpeed v p = admitSpeed s p := by simp only [admitSpeed, speedNow, washCal, lambdaEff, wou, rss]
  have plates (j : Slot) : plateAt v j = plateAt s j := plateAt_congr (by rw [ptb]) j
  obtain ⟨w, eq, washout, exuW, dryW, inputsW, drivesW, rssW, -, others, record⟩ := admitPlate_eq k p d v
  obtain ⟨x, xEq⟩ : ∃ x, x = exuHandOver k (modWou (fun y => { y with offered := none, blocker := .none }) w) := ⟨_, rfl⟩
  have washoutX : x.wou = { s.wou with
      list := s.wou.list ++ [admitEntry s k p]
      speed := admitSpeed s p
      committed := s.wou.committed + admitIncrement s p
      offered := none
      blocker := .none } := by
    rw [xEq]
    simp [modWou, washout, wou, entry, speed, increment]
  have inputsX : x.lio.inputs = s.lio.inputs := by rw [xEq]; simp [inputsW, inputs]
  have drivesX : x.lio.drives = s.lio.drives := by rw [xEq]; simp [drivesW, drives]
  have rssX : x.rss = s.rss := by rw [xEq]; simp [rssW, rss]
  have full : x.wou.list ≠ [] := by rw [washoutX]; simp
  have admitted : admitPlate k p d v = takeTransport x := by rw [eq, xEq]
  have state : transportStateOf x = .running ↔ inhibitActive s = false ∧ driveFaulted .transport s = false
      ∧ driveFaulted .brushes s = false ∧ s.wou.stallHold = false := by
    have stall : x.wou.stallHold = s.wou.stallHold := by rw [washoutX]
    simp only [transportStateOf_running, full, not_false_eq_true, ne_eq, true_and, driveFaulted, driveState, drivesX,
      inhibitActive_congr inputsX (congrArg (·.working.cfg) rssX), stall]
  have table (j : Slot) : plateAt (takeTransport x) j = plateAt w j := plateAt_congr (by rw [xEq]; simp) j
  have frame := admitPlate_frame k p d v
  rw [admitted] at frame ⊢
  obtain ⟨-, -, queue, -, rssT, dinT, dryT, lfnT, trcT, -, lampsT, fltT, -⟩ := frame
  have transport : (takeTransport x).wou.transport = transportStateOf x := by rw [takeTransport_wou]
  refine ⟨?_, ?_, fun before after => ?_, fun j other => ?_, fun held exposed => ?_, ?_, fun state own => ?_, ?_⟩
  · rw [takeTransport_wou, washoutX]
    simp
  · rw [transport, state]
  · have running : x.wou.transport = .running := by rw [washoutX]; exact before
    rw [takeTransport_on running (transport ▸ after), drivesX]
  · rw [table, others j other, plates]
  · have same : admitRecord v p d = admitRecord s p d := by simp only [admitRecord, speed, increment, wou]
    have ref : (washCal v).lambdaRef = (washCal s).lambdaRef := by rw [washCal, rss]; rfl
    have eff : lambdaEff v = lambdaEff s := by simp only [lambdaEff, wou]
    rw [table, record ((plates k).trans held) exposed, same, ref, eff]
  · rw [dryT, reserved]
  · have here : (modWou (fun y => { y with offered := none, blocker := .none }) w).exu = s.exu := by simp [exuW, exu]
    have handed : x = exuEnterClearWait (modWou (fun y => { y with offered := none, blocker := .none }) w) := by
      rw [xEq, exuHandOver, here, if_pos ⟨state, own⟩]
    have senses : inputActive .exuPresent (modWou (fun y => { y with offered := none, blocker := .none }) w)
        = inputActive .exuPresent s :=
      inputActive_congr (by simp [inputsW, inputs]) (by simp [rssW, rss]) _
    have clear := exuEnterClearWait_exu (modWou (fun y => { y with offered := none, blocker := .none }) w)
    rw [(takeTransport_frame x).2.2.2.2.2.1, handed, clear.1, clear.2, senses]
    exact ⟨rfl, rfl⟩
  · exact ⟨queue.trans (by rw [ptb]), fltT.trans flt, dinT.trans din, rssT.trans rss, lfnT.trans lfn, trcT.trans trc,
      lampsT.trans lamps⟩

/-- What every evaluation leaves: the list, at most one entry longer, the loading, and the records not EXPOSED. -/
structure Evaluated (s t : State) : Prop where
  list : ∃ more, t.wou.list = s.wou.list ++ more ∧ more.length ≤ 1 ∧ (more = [] → Unadmitted s t)
  lambda : t.wou.lambda = s.wou.lambda
  replenish : t.wou.replenish = s.wou.replenish
  exitWaiting : t.wou.exitWaiting = s.wou.exitWaiting
  stallHold : t.wou.stallHold = s.wou.stallHold
  records : ∀ k p, plateAt s k = some p → p.state ≠ .exposed → plateAt t k = some p
  runs : s.wou.transport = .running → transportStateOf s = .running →
    t.wou.transport = .running ∧ t.lio.drives = s.lio.drives

theorem Unadmitted.evaluated (h : Unadmitted s t) : Evaluated s t := by
  obtain ⟨b, wou⟩ := h.wou
  refine ⟨⟨[], by rw [wou]; simp, by simp, fun _ => h⟩, by rw [wou], by rw [wou], by rw [wou], by rw [wou],
    fun k p held _ => (plateAt_congr (by rw [h.ptb]) k).trans held, fun before _ => ⟨by rw [wou]; exact before, h.drives⟩⟩

theorem Admitted.evaluated {k : Slot} {p : PlateRecord} {d : DrawerNo} (h : Admitted k p d s t)
    (held : plateAt s k = some p) (exposed : p.state = .exposed) : Evaluated s t := by
  refine ⟨⟨[admitEntry s k p], by rw [h.wou], by simp, fun none => by simp at none⟩, by rw [h.wou], by rw [h.wou],
    by rw [h.wou], by rw [h.wou], fun j q heldJ other => ?_, fun before after => ?_⟩
  · have apart : j ≠ k := by
      rintro rfl
      rw [held] at heldJ
      cases heldJ
      exact other exposed
    rw [h.others j apart, heldJ]
  · have runs := h.transport.2 (transportStateOf_running.1 after).2
    exact ⟨runs, h.drives before runs⟩

theorem evalAdmission_evaluated (s : State) : Evaluated s (evalAdmission s) := by
  rcases evalAdmission_cases s with none | ⟨k, p, d, v, -, held, exposed, -, granted, eq⟩
  · exact none.evaluated
  · rw [eq]
    exact (admitPlate_admitted granted).evaluated held exposed

/-! ### The conditions of R95, read off -/

theorem plateSpeed_eq (v ref eff : Nat) : plateSpeed v ref eff = max 100 (v * (ref - eff) / ref) := by
  rw [plateSpeed, rawSpeed_eq]
  rfl

theorem rawSpeed_le (v ref eff : Nat) : v * (ref - eff) / ref ≤ v := by
  rcases Nat.eq_zero_or_pos ref with zero | pos
  · rw [zero, Nat.div_zero]
    exact Nat.zero_le v
  · exact Nat.div_le_of_le_mul (by rw [Nat.mul_comm ref]; exact Nat.mul_le_mul_left v (Nat.sub_le ref eff))

theorem plateSpeed_values (v ref eff : Nat) :
    (eff < ref → plateSpeed v ref eff = max 100 (v * (ref - eff) / ref)) ∧ (ref ≤ eff → plateSpeed v ref eff = 100)
    ∧ 100 ≤ plateSpeed v ref eff ∧ (100 ≤ v → plateSpeed v ref eff ≤ v)
    ∧ (speedClamped v ref eff = true ↔ ref ≤ eff ∨ v * (ref - eff) / ref < 100) := by
  have le := rawSpeed_le v ref eff
  have gone : ref ≤ eff → v * (ref - eff) / ref = 0 := fun above => by simp [Nat.sub_eq_zero_of_le above]
  refine ⟨fun _ => plateSpeed_eq v ref eff, fun above => ?_, ?_, fun fast => ?_, ?_⟩
  · rw [plateSpeed_eq, gone above]
    rfl
  · rw [plateSpeed_eq]
    exact Nat.le_max_left _ _
  · rw [plateSpeed_eq]
    exact Nat.max_le.2 ⟨fast, le⟩
  · rw [speedClamped, rawSpeed_eq, decide_eq_true_iff]
    refine ⟨.inr, ?_⟩
    rintro (above | slow)
    · rw [gone above]
      decide
    · exact slow

theorem tailPastGap_iff (l : List TransportEntry) : tailPastGap l = true ↔
    ∀ e, l.getLast? = some e → (e.length + 150) * 60000 ≤ e.position := by
  unfold tailPastGap
  cases last : l.getLast? with
  | none => simp
  | some e =>
    simp only [Option.some.injEq, forall_eq']
    exact decide_eq_true_iff

theorem replenishmentOpen_iff (r : Replenishment) : replenishmentOpen r = true ↔ r = .none ∨ r = .blocked := by
  cases r <;> simp [replenishmentOpen]

theorem admissionFlagged_iff : admissionFlagged s = true ↔ isSet .washTemp s = true ∨ isSet .replenishAbort s = true
    ∨ isSet .solventLimit s = true ∨ isSet (.driveFault .transport) s = true ∨ isSet (.driveFault .brushes) s = true := by
  simp only [admissionFlagged, Bool.or_eq_true, or_assoc]

section Conditions
variable {p : PlateRecord}

theorem loadingFits_iff : loadingFits s p = true ↔ s.wou.lambda + s.wou.committed
    + loadingIncrement s.rss.working.cal.wash.bathVolume p ≤ s.rss.working.cal.wash.lambdaMax := by
  simp only [loadingFits, decide_eq_true_iff]
  rfl

theorem inSpeedBand_iff : inSpeedBand s p = true ↔ s.wou.list = [] ∨ (speedNow s p - s.wou.speed)
    + (s.wou.speed - speedNow s p) ≤ s.wou.speed * s.rss.working.cal.wash.speedBand / 100 := by
  simp only [inSpeedBand, Bool.or_eq_true, List.isEmpty_iff, decide_eq_true_iff]
  rfl

end Conditions

/-- An evaluation of an EXPOSED offered plate with blocker `b`. -/
theorem evalAdmission_blocked {k : Slot} {p : PlateRecord} {b : Blocker} (offered : s.wou.offered = some k)
    (held : plateAt s k = some p) (exposed : p.state = .exposed) (first : firstBlocker s p = b) (some_ : b ≠ .none) :
    (evalAdmission s).wou = { s.wou with blocker := b } ∧ (evalAdmission s).ptb = s.ptb
    ∧ (evalAdmission s).dry = s.dry ∧ (evalAdmission s).exu = s.exu ∧ (evalAdmission s).lio.drives = s.lio.drives
    ∧ (isSet .solventLimit (evalAdmission s) = true ↔ isSet .solventLimit s = true ∨ ¬ loadingFits s p = true)
    ∧ ∀ f, f ≠ .solventLimit → isSet f (evalAdmission s) = isSet f s := by
  have eval : evalAdmission s = (if loadingFits s p then setBlocker b s else setFlag .solventLimit (setBlocker b s)) := by
    simp only [evalAdmission, offered, held, exposed, if_true, testAdmission, first, some_, if_false]
  rw [eval]
  split
  · next fits =>
    have same : isSet .solventLimit (setBlocker b s) = isSet .solventLimit s := rfl
    exact ⟨rfl, rfl, rfl, rfl, rfl, by simp [fits, same], fun f _ => rfl⟩
  · next unfit =>
    refine ⟨by simp [setBlocker, modWou], by simp, by simp, by simp, by simp, ?_, fun f other => ?_⟩
    · simp [isSet_setFlag, unfit]
    · rw [isSet_setFlag]
      simp only [other, decide_false, Bool.false_or]
      rfl

theorem reserveDrawer_closed {k : Slot} (h : isSet .dryerOvertemp s = true ∨ isSet (.driveFault .heater) s = true
    ∨ ∀ d, drawerAt s d ≠ .free) : reserveDrawer k s = none := by
  unfold reserveDrawer
  rcases h with hot | fault | full
  · simp [reservationsOpen, hot]
  · simp [reservationsOpen, fault]
  · have none : lowestFreeDrawer s = none := by simpa [lowestFreeDrawer, allDrawers] using full
    simp [none]

theorem reserveDrawer_lowest {k : Slot} {d : DrawerNo} (cool : isSet .dryerOvertemp s = false)
    (sound : isSet (.driveFault .heater) s = false) (free : drawerAt s d = .free) (lowest : ∀ e, e < d → drawerAt s e ≠ .free) :
    reserveDrawer k s = some (d, refreshOutputs (setDrawer d (.reserved k (plateIdAt s k)) s)) := by
  have first : lowestFreeDrawer s = some d := by
    simp only [lowestFreeDrawer, allDrawers, ← Fin.find?_eq_find?_finRange, Fin.find?_eq_some_iff]
    refine ⟨by simp [free], fun e below => ?_⟩
    simpa using lowest e below
  simp [reserveDrawer, reservationsOpen, cool, sound, first]

theorem notice_or_more (n : Notice) (r : PlateRecord) :
    n ∈ (appendNotice n r).notices ∨ (appendNotice n r).moreNotices = true := by
  unfold appendNotice
  split
  · next has => exact .inl (by simpa using has)
  · split
    · exact .inl (by simp)
    · exact .inr rfl

theorem appendNotice_kept (n : Notice) (r : PlateRecord) : (appendNotice n r).state = r.state
    ∧ (appendNotice n r).drawer = r.drawer ∧ (appendNotice n r).washout = r.washout := by
  unfold appendNotice
  (repeat' split) <;> exact ⟨rfl, rfl, rfl⟩

/-- R97, R116: the evaluation that finds no blocker and a drawer. -/
theorem evalAdmission_admits {k : Slot} {p : PlateRecord} {d : DrawerNo} {v : State} (offered : s.wou.offered = some k)
    (held : plateAt s k = some p) (exposed : p.state = .exposed) (none : firstBlocker s p = .none)
    (granted : reserveDrawer k s = some (d, v)) : Admitted k p d s (evalAdmission s) := by
  have eval : evalAdmission s = admitPlate k p d v := by
    simp only [evalAdmission, offered, held, exposed, if_true, testAdmission, none, granted]
  rw [eval]
  exact admitPlate_admitted granted

/-- Settles O44: the arithmetic of R89 and R90, the blockers in R95's order, and the admission of R97. -/
theorem admission : Obligations.Admission := by
  unfold Obligations.Admission
  refine ⟨⟨fun bath p => rfl, plateSpeed_values⟩, fun k p s offered held exposed => ?_,
    fun k p s offered held exposed none => ?_⟩
  · intro tailPast flagged fits v inBand c1 c2 c3 c5 blocked
    have c2iff : ¬ (s.wou.transport ≠ .idle ∧ s.wou.transport ≠ .running) ↔ c2 := by tauto
    have c3iff : ¬ Config.transportLimit ≤ s.wou.list.length ↔ c3 := Nat.not_le
    have gapIff : tailPastGap s.wou.list = true ↔ tailPast := tailPastGap_iff _
    have openIff : replenishmentOpen s.wou.replenish = true ↔ c5 := replenishmentOpen_iff _
    have flagIff : admissionFlagged s = true ↔ flagged := admissionFlagged_iff
    have fitsIff : loadingFits s p = true ↔ fits := loadingFits_iff
    have bandIff : inSpeedBand s p = true ↔ inBand := inSpeedBand_iff
    have because {b : Blocker} (first : firstBlocker s p = b) (some_ : b ≠ .none) : blocked b := by
      have parts := evalAdmission_blocked offered held exposed first some_
      rw [fitsIff] at parts
      exact parts
    refine ⟨fun n1 => ?_, fun h1 n2 => ?_, fun h1 h2 n3 => ?_, fun h1 h2 h3 n4 => ?_, fun h1 h2 h3 h4 n5 => ?_,
      fun h1 h2 h3 h4 h5 flag => ?_, fun h1 h2 h3 h4 h5 flag unfit => ?_, fun h1 h2 h3 h4 h5 flag fit out => ?_⟩
    all_goals
      refine because ?_ (by decide)
      unfold firstBlocker
    · rw [if_pos n1]
    · rw [if_neg (not_not.2 h1), if_pos (not_not.1 (c2iff.not.2 n2))]
    · rw [if_neg (not_not.2 h1), if_neg (c2iff.2 h2), if_pos (not_not.1 (c3iff.not.2 n3))]
    · rw [if_neg (not_not.2 h1), if_neg (c2iff.2 h2), if_neg (c3iff.2 h3), if_pos (by simp [gapIff.not.2 n4])]
    · rw [if_neg (not_not.2 h1), if_neg (c2iff.2 h2), if_neg (c3iff.2 h3), if_neg (by simp [gapIff.2 h4]),
        if_pos (by simp [openIff.not.2 n5])]
    · rw [if_neg (not_not.2 h1), if_neg (c2iff.2 h2), if_neg (c3iff.2 h3), if_neg (by simp [gapIff.2 h4]),
        if_neg (by simp [openIff.2 h5]), if_pos (flagIff.2 flag)]
    · rw [if_neg (not_not.2 h1), if_neg (c2iff.2 h2), if_neg (c3iff.2 h3), if_neg (by simp [gapIff.2 h4]),
        if_neg (by simp [openIff.2 h5]), if_neg (flagIff.not.2 flag), if_pos (by simp [fitsIff.not.2 unfit])]
    · rw [if_neg (not_not.2 h1), if_neg (c2iff.2 h2), if_neg (c3iff.2 h3), if_neg (by simp [gapIff.2 h4]),
        if_neg (by simp [openIff.2 h5]), if_neg (flagIff.not.2 flag), if_neg (by simp [fitsIff.2 fit]),
        if_pos (by simp [bandIff.not.2 out])]
  · intro inc v speed
    refine ⟨fun closed => ?_, fun d cool sound free lowest => ?_⟩
    · have eval : evalAdmission s = setBlocker .noDrawer s := by
        simp only [evalAdmission, offered, held, exposed, if_true, testAdmission, none, reserveDrawer_closed closed]
      exact eval
    · have admitted := evalAdmission_admits offered held exposed none (reserveDrawer_lowest cool sound free lowest)
      have id : plateIdAt s k = p.plateId := by simp [plateIdAt, held]
      have fast : admitSpeed s p = speed := by
        simp only [admitSpeed, List.isEmpty_iff]
        rfl
      obtain ⟨queue, flt, din, rss, lfn, trc, lamps⟩ := admitted.frame
      refine ⟨?_, ?_, ?_, ?_, ?_, ?_, ?_, ⟨_, admitted.record held exposed, ?_, ?_, ?_, fun slow => ?_⟩, admitted.others,
        queue, admitted.exu, fun quiet t1 t2 st => admitted.transport.2 ⟨quiet, t1, t2, st⟩, flt, din, rss, lfn, trc, lamps⟩
      · rw [admitted.wou]
        rfl
      · rw [admitted.wou]
        rfl
      · rw [admitted.wou]
      · rw [admitted.wou]
        exact fast
      · rw [admitted.wou]
      · rw [admitted.wou]
      · rw [admitted.drawers, id]
      · split
        · exact (appendNotice_kept _ _).1
        · rfl
      · split
        · exact (appendNotice_kept _ _).2.1
        · rfl
      · rw [← fast]
        split
        · exact (appendNotice_kept _ _).2.2
        · rfl
      · rw [if_pos (show speedClamped p.working.vNom (washCal s).lambdaRef (lambdaEff s) = true from slow)]
        exact notice_or_more _ _

end Sys2Proof.Machine
end

section
/-! SUPPORT. A changed line seen, the replenishment's states, the marks of the transport, and the settlements of O45, O46,
O48 and O49 (R40, R92, R99 to R101, R106 to R111). -/

namespace Sys2Proof.Machine
variable {s t u : State}

/-! ### A line that changes (R159) -/

theorem inputAt_flipped (i j : Fin 12) (s : State) : inputAt (flipped i s) j =
    if j = i then ⟨(inputAt s i).raw, !(inputAt s i).active, none⟩ else inputAt s j := by
  simp only [inputAt, flipped, Vector.getElem_set, Fin.ext_iff, eq_comm (a := j.val)]

section Changed
variable {i : Fin 12} {fn : InputFunction} {active : Bool} (h : Changes i fn active s)
include h

/-- The end of the debounce delivers the change. -/
theorem exec_debounce : exec (.debounceExpiry i) s = .next (deliver fn active (flipped i s)) :=
  (event_on h.powered).trans (congrArg _ (debounceEnd_changes h))

/-- The function the line carries is now what the change says. -/
theorem inputActive_flipped_self : inputActive fn (flipped i s) = active := by
  have cfg (j : Fin 12) : inputCfg (flipped i s) j = inputCfg s j := rfl
  have before := h.before
  cases active with
  | true =>
    refine inputActive_iff.2 ⟨i, h.carries, ?_⟩
    rw [inputAt_flipped, if_pos rfl]
    simpa using before
  | false =>
    rw [Bool.eq_false_iff, Ne, inputActive_iff]
    rintro ⟨j, carries, act⟩
    have own : j = i := by
      by_contra other
      exact h.alone j other carries
    rw [inputAt_flipped, if_pos own] at act
    simp at before
    simp [before] at act

/-- Every other function is seen as before. -/
theorem inputActive_flipped_other {g : InputFunction} (other : g ≠ fn) :
    inputActive g (flipped i s) = inputActive g s := by
  have cfg (j : Fin 12) : inputCfg (flipped i s) j = inputCfg s j := rfl
  rw [Bool.eq_iff_iff, inputActive_iff, inputActive_iff]
  refine exists_congr fun j => ?_
  rw [cfg, inputAt_flipped]
  by_cases own : j = i
  · have carries : (inputCfg s j).function = fn := own ▸ h.carries
    simp [carries, Ne.symm other]
  · rw [if_neg own]

theorem inhibitActive_flipped (other : InputFunction.inhibit ≠ fn) : inhibitActive (flipped i s) = inhibitActive s :=
  inputActive_flipped_other h other

end Changed

/-! ### The states of a replenishment (R107, R108) -/

/-- The run a replenishment starts with (R108). -/
def replenishRun (s : State) : ReplenishRun :=
  ⟨runTime (washCal s), 0, (washCal s).exchange⟩

/-- Whether a PENDING replenishment may start. -/
def replenishMayStart (s : State) : Prop :=
  s.wou.list = [] ∧ inputActive .freshLow s = false ∧ driveFaulted .pump s = false
    ∧ (s.flt.lineState = .run ∨ s.flt.lineState = .safeHold)

theorem startReplenish_waits (h : ¬ replenishMayStart s) : startReplenish s = s := by
  unfold startReplenish
  rw [if_neg]
  exact fun all => h all.2

theorem startReplenish_runs (pending : s.wou.replenish = .pending) (h : replenishMayStart s) :
    (startReplenish s).wou = { s.wou with replenish := .running (replenishRun s) }
    ∧ driveState .pump (startReplenish s) = driveState .pump (driveOn .pump (.value (washCal s).pumpRate) s) := by
  unfold startReplenish
  rw [if_pos ⟨pending, h⟩]
  exact ⟨by simp [modWou, replenishRun], driveState_congr (by simp) _⟩

theorem startReplenish_wou_kept (s : State) : (startReplenish s).wou = { s.wou with
    replenish := (startReplenish s).wou.replenish } := by
  by_cases start : s.wou.replenish = .pending ∧ replenishMayStart s
  · rw [(startReplenish_runs start.1 start.2).1]
  · have same : startReplenish s = s := if_neg start
    rw [same]

section Pending
variable {w : State}

theorem enterPending_blocked (low : inputActive .freshLow s = true) :
    (enterPending s).wou = { s.wou with replenish := .blocked } ∧ isSet .replenishBlocked (enterPending s) = true := by
  unfold enterPending
  rw [if_pos low, isSet_setFlag]
  simp [modWou]

/-- Whether a replenishment that is entered anew starts at once does not look at its state. -/
theorem replenishMayStart_pending (s : State) : replenishMayStart (modWou (fun w => { w with replenish := .pending }) s) ↔
    replenishMayStart s := Iff.rfl

theorem enterPending_waits (fresh : inputActive .freshLow s = false) (h : ¬ replenishMayStart s) :
    enterPending s = modWou (fun w => { w with replenish := .pending }) s := by
  unfold enterPending
  rw [if_neg (by simp [fresh])]
  exact startReplenish_waits ((replenishMayStart_pending s).not.2 h)

theorem enterPending_runs (h : replenishMayStart s) :
    (enterPending s).wou = { s.wou with replenish := .running (replenishRun s) }
    ∧ (inhibitActive s = false → driveState .pump (enterPending s) = .on (.value (washCal s).pumpRate)) := by
  have eq : enterPending s = startReplenish (modWou (fun w => { w with replenish := .pending }) s) := by
    unfold enterPending
    rw [if_neg (by simp [h.2.1])]
  obtain ⟨wou, pump⟩ := startReplenish_runs (s := modWou (fun w => { w with replenish := .pending }) s) rfl
    ((replenishMayStart_pending s).2 h)
  rw [eq]
  refine ⟨wou, fun quiet => pump.trans ?_⟩
  rw [driveState_driveOn, if_pos ⟨rfl, h.2.2.1, .inr quiet⟩]
  rfl

theorem enterPending_wou_kept (s : State) : (enterPending s).wou = { s.wou with
    replenish := (enterPending s).wou.replenish } := by
  cases low : inputActive .freshLow s with
  | true => rw [(enterPending_blocked low).1]
  | false =>
    by_cases start : replenishMayStart s
    · rw [(enterPending_runs start).1]
    · rw [enterPending_waits low start]
      rfl

end Pending

/-! ### The counters write asked (R40) -/

theorem askCountersWrite_begins (idle : s.rss.countersWriting = false) (free : s.rss.save = none) :
    (askCountersWrite s).rss.counters = ⟨s.wou.lambda, s.din.lampOn, true⟩ ∧ (askCountersWrite s).rss.countersWriting = true := by
  simp [askCountersWrite, idle, free, beginCountersWrite, modRss]

theorem askCountersWrite_waits (h : s.rss.countersWriting = true ∨ s.rss.save ≠ none) :
    (askCountersWrite s).rss.countersWaiting = true := by
  have busy : (s.rss.countersWriting || s.rss.save.isSome) = true := by
    rw [Bool.or_eq_true, Option.isSome_iff_ne_none]
    exact h
  simp [askCountersWrite, busy, modRss]

/-! ### Solvent temperature and bath exchanges (R106, R108, R109) -/

theorem solventOutside_iff (setpoint reading : Nat) :
    solventOutside setpoint reading = true ↔ ¬ (setpoint ≤ reading + 3 ∧ reading ≤ setpoint + 3) := by
  have band : Config.solventBand = 3 := rfl
  simp only [solventOutside, Bool.or_eq_true, decide_eq_true_eq, band]
  omega

theorem ceilDiv_le_iff {a b n : Nat} (pos : 0 < b) : ceilDiv a b ≤ n ↔ a ≤ n * b := by
  rw [ceilDiv, ← Nat.lt_succ_iff, Nat.div_lt_iff_lt_mul pos, Nat.succ_mul]
  omega

theorem ceilDiv_mono {a b c : Nat} (pos : 0 < c) (le : a ≤ b) : ceilDiv a c ≤ ceilDiv b c :=
  (ceilDiv_le_iff pos).2 (le.trans ((ceilDiv_le_iff pos).1 le_rfl))

theorem ceilDiv_mul_self {a b : Nat} (pos : 0 < b) : ceilDiv (a * b) b = a :=
  eq_of_forall_ge_iff fun n => by rw [ceilDiv_le_iff pos, Nat.mul_le_mul_right_iff pos]

theorem ceilDiv_mul_left {a b c : Nat} (pos : 0 < c) (big : 0 < b) : ceilDiv (c * a) (c * b) = ceilDiv a b :=
  eq_of_forall_ge_iff fun n => by
    rw [ceilDiv_le_iff (Nat.mul_pos pos big), ceilDiv_le_iff big, Nat.mul_left_comm, Nat.mul_le_mul_left_iff pos]

/-- The loading after a stop is between what a whole exchange leaves and what there was. -/
theorem lambdaAfterStop_bounds {lambda T t fraction : Nat} (pos : 0 < T) (le : t ≤ T) :
    lambdaAfterStop lambda T t fraction ≤ lambda ∧ lambdaAfterStop lambda T 0 fraction = lambda
    ∧ lambdaAfterStop lambda T T fraction = lambdaAfterExchange lambda fraction
    ∧ lambdaAfterExchange lambda fraction ≤ lambdaAfterStop lambda T t fraction := by
  have big : 0 < T * 100 := by omega
  have none : lambdaAfterStop lambda T 0 fraction = lambda := by
    rw [lambdaAfterStop, Nat.zero_mul, Nat.sub_zero, ceilDiv_mul_self big]
  have whole : lambdaAfterStop lambda T T fraction = lambdaAfterExchange lambda fraction := by
    rw [lambdaAfterStop, ← Nat.mul_sub, Nat.mul_left_comm, ceilDiv_mul_left pos (by omega), lambdaAfterExchange]
  have mono {a b : Nat} (less : a ≤ b) : lambdaAfterStop lambda T b fraction ≤ lambdaAfterStop lambda T a fraction :=
    ceilDiv_mono big (Nat.mul_le_mul_left lambda (Nat.sub_le_sub_left (Nat.mul_le_mul_right fraction less) _))
  exact ⟨(mono (Nat.zero_le t)).trans_eq none, none, whole, whole ▸ mono le⟩

/-- What a whole exchange leaves, from a running replenishment with its pump ON. -/
theorem completeReplenish_left {run : ReplenishRun} (running : s.wou.replenish = .running run) :
    ∃ v, completeReplenish s = evalAdmission v ∧ v.wou = { s.wou with
        lambda := lambdaAfterExchange s.wou.lambda run.fraction
        replenish := .none }
      ∧ v.lio.drives = (driveOff .pump s).lio.drives
      ∧ v.rss = (askCountersWrite (modWou (fun w => { w with lambda := lambdaAfterExchange w.lambda run.fraction })
          (driveOff .pump s))).rss
      ∧ v.din = s.din ∧ v.lfn = s.lfn ∧ v.trc = s.trc ∧ v.ptb = s.ptb ∧ v.lio.lamps = s.lio.lamps
      ∧ v.flt.lineState = s.flt.lineState := by
  simp only [completeReplenish, running]
  exact ⟨_, rfl, by simp [modWou], by simp, by simp, by simp, by simp, by simp, by simp, by simp, by simp⟩

/-- A drive the transport does not use stands through an evaluation. -/
theorem driveState_evalAdmission {c : DriveChannel} (transport : c ≠ .transport) (brushes : c ≠ .brushes) (s : State) :
    driveState c (evalAdmission s) = driveState c s := by
  have taken (x : State) : driveState c (takeTransport x) = driveState c x := by
    unfold takeTransport
    dsimp only
    (repeat' split) <;> simp [driveState_driveOn, driveState_driveOff, transport, brushes] <;> rfl
  rcases evalAdmission_cases s with none | ⟨k, p, d, v, -, -, -, -, granted, eq⟩
  · exact driveState_congr none.drives c
  · obtain ⟨w, admitted, -, -, -, -, drives, -⟩ := admitPlate_eq k p d v
    have grant := reserveDrawer_frame granted
    rw [eq, admitted, taken]
    exact driveState_congr (by simp [drives, grant]) c

/-- Settles O48: the reading kept, the exchange, and the arithmetic of its stop. -/
theorem solventIsWatchedAndExchanged : Obligations.SolventIsWatchedAndExchanged := by
  unfold Obligations.SolventIsWatchedAndExchanged
  refine ⟨fun x s power ready => ?_, fun run s power running on => ?_, fun lambda T t fraction pos le _ =>
    lambdaAfterStop_bounds pos le⟩
  · intro inBand
    have taken : readingsTaken s = true := by simp [readingsTaken, ready]
    have step : exec (.solventTempReading x) s = .next (takeSolventTemp x.toNat s) :=
      (event_on power).trans (congrArg _ (if_pos taken))
    have outside := solventOutside_iff (washCal s).tempSetpoint x.toNat
    refine ⟨fun within => ?_, fun out => ?_⟩
    · have calm : solventOutside (washCal s).tempSetpoint x.toNat = false :=
        Bool.eq_false_iff.2 fun h => outside.1 h within
      rw [step, takeSolventTemp, calm]
      rfl
    · have hot : solventOutside (washCal s).tempSetpoint x.toNat = true := outside.2 out
      have set : takeSolventTemp x.toNat s =
          setFlag .washTemp (modWou (fun w => { w with temp := some x.toNat, tempOutside := true }) s) := by
        simp [takeSolventTemp, hot]
      refine ⟨_, step, ?_⟩
      rw [set, setFlag_flags]
      simp [modWou]
  · intro lambda
    have step : exec .replenishComplete s = .next (completeReplenish s) :=
      (event_on power).trans (congrArg _ (if_pos (show pumpedTimeRuns s = true from on)))
    obtain ⟨v, eq, wou, drives, rss, din, lfn, trc, ptb, lamps, line⟩ := completeReplenish_left running
    have eval := evalAdmission_evaluated v
    have exchanged : lambdaAfterExchange s.wou.lambda run.fraction = lambda := rfl
    have off : driveState .pump v = .off := by
      rw [driveState_congr drives, driveState_driveOff, if_pos ⟨rfl, on⟩]
    refine ⟨_, step, ?_⟩
    rw [eq]
    refine ⟨?_, ?_, ?_, fun idle free => ?_, ?_, ?_, ?_, ?_, ?_, ?_, ?_⟩
    · rw [driveState_evalAdmission (by decide) (by decide), off]
    · rw [eval.lambda, wou, exchanged]
    · rw [eval.replenish, wou]
    · have begun := (askCountersWrite_begins (s := modWou (fun w => { w with
          lambda := lambdaAfterExchange w.lambda run.fraction }) (driveOff .pump s)) (by simpa using idle)
          (by simpa using free)).1
      rw [(evalAdmission_frame v).2.2.2.2.1, rss, begun]
      simp [modWou, exchanged]
    all_goals simp [rss, din, lfn, trc, ptb, lamps, line]

/-! ### REPLENISH_NOW, BATH_CHANGED and FRESH_LOW (R107, R110, R111) -/

/-- What a replenishment entered anew leaves, evaluated: the replenishment by FRESH_LOW and its start conditions. -/
structure PendingEntered (s t : State) : Prop where
  blocked : inputActive .freshLow s = true → t.wou.replenish = .blocked ∧ isSet .replenishBlocked t = true
  waits : inputActive .freshLow s = false → ¬ replenishMayStart s → t.wou.replenish = .pending
  runs : replenishMayStart s → t.wou.replenish = .running (replenishRun s)
    ∧ (inhibitActive s = false → driveState .pump t = .on (.value (washCal s).pumpRate))
  lambda : t.wou.lambda = s.wou.lambda
  frame : t.ptb.queue = s.ptb.queue ∧ t.rss = s.rss ∧ t.din = s.din ∧ t.lfn = s.lfn ∧ t.trc = s.trc
    ∧ t.lio.lamps = s.lio.lamps ∧ t.flt.lineState = s.flt.lineState

theorem pendingEntered (s : State) : PendingEntered s (evalAdmission (enterPending s)) := by
  have eval := evalAdmission_evaluated (enterPending s)
  refine ⟨fun low => ⟨?_, ?_⟩, fun fresh waits => ?_, fun start => ⟨?_, fun quiet => ?_⟩, ?_, by simp⟩
  · rw [eval.replenish, (enterPending_blocked low).1]
  · exact (goesOn_evalAdmission _).flags _ (enterPending_blocked low).2
  · rw [eval.replenish, enterPending_waits fresh waits]
    rfl
  · rw [eval.replenish, (enterPending_runs start).1]
  · rw [driveState_evalAdmission (by decide) (by decide), (enterPending_runs start).2 quiet]
  · rw [eval.lambda]
    simp

theorem replenishRun_eq (s : State) : replenishRun s =
    ⟨(s.rss.working.cal.wash.bathVolume * s.rss.working.cal.wash.exchange * 60
        + 100 * s.rss.working.cal.wash.pumpRate - 1) / (100 * s.rss.working.cal.wash.pumpRate),
      0, s.rss.working.cal.wash.exchange⟩ := rfl

theorem not_mayStart_of (h : s.wou.list ≠ [] ∨ driveFaulted .pump s = true ∨ s.flt.lineState = .stopped
    ∨ s.flt.lineState = .init) : ¬ replenishMayStart s := by
  rintro ⟨list, -, pump, line⟩
  rcases h with full | fault | stopped | init
  · exact full list
  · rw [pump] at fault
    cases fault
  · rcases line with h | h <;> rw [h] at stopped <;> cases stopped
  · rcases line with h | h <;> rw [h] at init <;> cases init

theorem freshLowChange_idle {active : Bool} (h : if active then s.wou.replenish ≠ .pending else s.wou.replenish ≠ .blocked) :
    freshLowChange active s = s := by
  unfold freshLowChange
  split
  · next pending => cases active <;> simp_all
  · next blocked => cases active <;> simp_all
  · rfl

/-- Settles O49: the replenishment's state decides each request and each change; a replenishment entered anew is taken
through `pendingEntered`. -/
theorem replenishmentRequests : Obligations.ReplenishmentRequests := by
  unfold Obligations.ReplenishmentRequests
  refine ⟨fun tag s ready => ⟨fun run running => ?_, fun busy => ?_, fun none => ?_⟩,
    fun tag s ready => ⟨fun busy => ?_, fun empty still => ?_⟩, fun i s => ⟨fun changes => ⟨fun other => ?_, fun pending => ?_⟩,
    fun changes => ⟨fun other => ?_, fun blocked => ?_⟩⟩⟩
  · refine request_answered ?_ (by simp) rfl ready
    simp [actReplenishNow, serving, running, refusal]
  · refine request_answered ?_ (by simp) rfl ready
    rcases busy with h | h <;> simp [actReplenishNow, replenishNow, serving, h, okReply]
  · obtain ⟨w, serves⟩ : ∃ w, w = serving (.frame ⟨65#8, tag, []⟩) s := ⟨_, rfl⟩
    have wou : w.wou = s.wou := by rw [serves]; rfl
    have acted : actReplenishNow w = (evalAdmission (enterPending w), okReply []) := by
      simp [actReplenishNow, replenishNow, wou, none]
    have entered := pendingEntered w
    obtain ⟨queue, rss, din, lfn, trc, lamps, line⟩ := entered.frame
    have low : inputActive .freshLow w = inputActive .freshLow s := by rw [serves]; rfl
    have start : replenishMayStart w ↔ replenishMayStart s := by rw [serves]; exact Iff.rfl
    have run : exec (.replenishNow tag []) s = .next (replied 65#8 tag (okReply []) (evalAdmission (enterPending w))) :=
      request_served (by rw [← serves]; exact acted) (by rw [line, serves]; exact ready.2.1) (by simp) rfl ready
    refine ⟨_, run, accepted_tx (by simp [serves, serving]), fun b => entered.blocked (low.trans b),
      fun fresh waits => entered.waits (low.trans fresh) ?_, fun fresh list pump line => ?_, ?_⟩
    · rw [start]
      exact not_mayStart_of (by tauto)
    · refine (entered.runs (start.2 ⟨list, fresh, pump, line⟩)).1.trans ?_
      rw [serves]
      rfl
    · rw [serves] at entered queue rss din lfn trc lamps line ⊢
      exact ⟨entered.lambda, queue, rss, din, lfn, trc, lamps, line⟩
  · refine request_answered ?_ (by simp) rfl ready
    rcases busy with full | ⟨run, running⟩
    · cases list : s.wou.list with
      | nil => exact absurd list full
      | cons e rest => simp [actBathChanged, serving, list, refusal]
    · cases list : s.wou.list with
      | nil => simp [actBathChanged, serving, list, running, refusal]
      | cons e rest => simp [actBathChanged, serving, list, refusal]
  · obtain ⟨w, serves⟩ : ∃ w, w = serving (.frame ⟨66#8, tag, []⟩) s := ⟨_, rfl⟩
    have wou : w.wou = s.wou := by rw [serves]; rfl
    have rss : w.rss = s.rss := by rw [serves]; rfl
    have acted : actBathChanged w = (bathChanged w, okReply []) := by
      cases state : s.wou.replenish with
      | running run => exact absurd state (still run)
      | none => simp [actBathChanged, wou, empty, state]
      | pending => simp [actBathChanged, wou, empty, state]
      | blocked => simp [actBathChanged, wou, empty, state]
    have run : exec (.bathChanged tag []) s = .next (replied 66#8 tag (okReply []) (bathChanged w)) :=
      request_served (by rw [← serves]; exact acted) (by simpa [bathChanged, serves] using ready.2.1) (by simp) rfl ready
    have eval := evalAdmission_evaluated (askCountersWrite (modWou (fun w => { w with lambda := 0, replenish := .none }) w))
    have store : (bathChanged w).rss = (askCountersWrite (modWou (fun w => { w with lambda := 0, replenish := .none }) w)).rss :=
      (evalAdmission_frame _).2.2.2.2.1
    refine ⟨_, run, ?_, ?_, accepted_tx (by simp [bathChanged, serves, serving]), fun idle => ?_, fun busy => ?_, ?_⟩
    · refine Eq.trans eval.lambda ?_
      simp [modWou]
    · refine Eq.trans eval.replenish ?_
      simp [modWou]
    · have begun := askCountersWrite_begins (s := modWou (fun w => { w with lambda := 0, replenish := .none }) w)
        ((congrArg (·.countersWriting) rss).trans idle) ((congrArg (·.save) rss).trans ready.2.2.1)
      rw [show (replied 66#8 tag (okReply []) (bathChanged w)).rss = _ from store, begun.1, begun.2]
      exact ⟨rfl, rfl⟩
    · rw [show (replied 66#8 tag (okReply []) (bathChanged w)).rss = _ from store]
      exact askCountersWrite_waits (.inl ((congrArg (·.countersWriting) rss).trans busy))
    · simp [replied, bathChanged, serves, serving]
  · rw [exec_debounce changes]
    exact congrArg _ (freshLowChange_idle (active := true) other)
  · have entered := pendingEntered (flipped i s)
    have part : deliver .freshLow true (flipped i s) = evalAdmission (enterPending (flipped i s)) := by
      have state : (flipped i s).wou.replenish = .pending := pending
      simp [deliver, freshLowChange, state]
    obtain ⟨low, set⟩ := entered.blocked (inputActive_flipped_self changes)
    obtain ⟨queue, rss, din, lfn, trc, lamps, line⟩ := entered.frame
    exact ⟨_, (exec_debounce changes).trans (congrArg _ part), low, set, entered.lambda, queue, rss, din, lfn, trc, lamps, line⟩
  · rw [exec_debounce changes]
    exact congrArg _ (freshLowChange_idle (active := false) other)
  · have entered := pendingEntered (flipped i s)
    have part : deliver .freshLow false (flipped i s) = evalAdmission (enterPending (flipped i s)) := by
      have state : (flipped i s).wou.replenish = .blocked := blocked
      simp [deliver, freshLowChange, state]
    have fresh := inputActive_flipped_self changes
    obtain ⟨queue, rss, din, lfn, trc, lamps, line⟩ := entered.frame
    refine ⟨_, (exec_debounce changes).trans (congrArg _ part), fun waits => ?_, fun list pump line => ?_, entered.lambda, queue,
      rss, din, lfn, trc, lamps, line⟩
    · exact entered.waits fresh (not_mayStart_of waits)
    · obtain ⟨runs, pumping⟩ := entered.runs ⟨list, fresh, pump, line⟩
      exact ⟨runs, fun quiet => pumping ((inhibitActive_flipped changes (by decide)).trans quiet)⟩

end Sys2Proof.Machine
end

section
/-! SUPPORT. The marks of the transport: the settlements of O45, O46 and O47 (R40, R92, R99 to R103, R143). -/

namespace Sys2Proof.Machine
variable {s t u : State}

/-! ### Entries and marks (R92) -/

theorem event_same {act : State → State} (same : act s = s) : event act s = .next s := by
  unfold event
  split
  · rw [same]
  · rfl

theorem markReached_running (running : s.wou.transport = .running) (position mark : Nat) :
    markReached s position mark = true := by
  simp [markReached, running]

theorem markReached_standing (standing : s.wou.transport ≠ .running) {position mark : Nat} (short : position < mark) :
    markReached s position mark = false := by
  simp [markReached, standing, short]

theorem entryOf_mem {k : Slot} {e : TransportEntry} (at_ : entryOf s k = some e) : e ∈ s.wou.list ∧ e.slot = k :=
  ⟨List.mem_of_find?_eq_some at_, by simpa using List.find?_some at_⟩

/-- The list moved on so that an entry at `position` is at its mark. -/
def movedTo (position mark : Nat) (l : List TransportEntry) : List TransportEntry :=
  l.map (fun e => { e with position := e.position + (mark - position) })

theorem shiftTo_eq (position mark : Nat) (s : State) :
    shiftTo position mark s = modWou (fun w => { w with list := movedTo position mark w.list }) s := rfl

theorem find?_movedTo {position mark : Nat} {k : Slot} {e : TransportEntry} {l : List TransportEntry}
    (at_ : l.find? (fun x => x.slot == k) = some e) : (movedTo position mark l).find? (fun x => x.slot == k) =
      some { e with position := e.position + (mark - position) } := by
  rw [movedTo, List.find?_map]
  have same : ((fun x : TransportEntry => x.slot == k) ∘ fun x : TransportEntry =>
      { x with position := x.position + (mark - position) }) = fun x => x.slot == k := rfl
  rw [same, at_]
  rfl

theorem movedTo_slots (position mark : Nat) (l : List TransportEntry) :
    (movedTo position mark l).map (·.slot) = l.map (·.slot) := by
  rw [movedTo, List.map_map]
  rfl

theorem find?_markCommitted {k : Slot} {e : TransportEntry} {l : List TransportEntry}
    (at_ : l.find? (fun x => x.slot == k) = some e) :
    (markCommitted k l).find? (fun x => x.slot == k) = some { e with committed := true } := by
  induction l with
  | nil => cases at_
  | cons x l ih =>
    rw [List.find?_cons] at at_
    unfold markCommitted
    cases own : x.slot == k with
    | true =>
      rw [own] at at_
      cases at_
      simp [own]
    | false =>
      rw [own] at at_
      simp [own, ih at_]

theorem markCommitted_slots (k : Slot) (l : List TransportEntry) : (markCommitted k l).map (·.slot) = l.map (·.slot) := by
  induction l with
  | nil => rfl
  | cons x l ih =>
    unfold markCommitted
    split
    · rfl
    · rw [List.map_cons, List.map_cons, ih]

/-! ### Notices given to every plate of the transport (R101) -/

/-- A run of notices: each record keeps its state, and keeps the notice once it has it. -/
theorem foldl_addNotice (n : Notice) (l : List TransportEntry) (s : State) :
    ∀ k p, plateAt s k = some p → ∃ q, plateAt (l.foldl (fun t e => addNotice e.slot n t) s) k = some q
      ∧ q.state = p.state
      ∧ ((∃ e ∈ l, e.slot = k) ∨ n ∈ p.notices ∨ p.moreNotices = true → n ∈ q.notices ∨ q.moreNotices = true) := by
  induction l generalizing s with
  | nil => exact fun k p held => ⟨p, held, rfl, fun h => h.resolve_left (by simp)⟩
  | cons e l ih =>
    intro k p held
    have first : plateAt (addNotice e.slot n s) k = some (if k = e.slot then appendNotice n p else p) := by
      rw [addNotice, plateAt_modPlate]
      split
      · next own =>
        rw [← own, held]
        rfl
      · exact held
    obtain ⟨q, heldQ, state, has⟩ := ih (addNotice e.slot n s) k _ first
    refine ⟨q, heldQ, ?_, fun why => has ?_⟩
    · rw [state]
      split
      · exact (appendNotice_kept n p).1
      · rfl
    · by_cases own : k = e.slot
      · rw [if_pos own]
        exact .inr (notice_or_more n p)
      · rw [if_neg own]
        rcases why with ⟨x, mem, slot⟩ | had
        · rcases List.mem_cons.1 mem with rfl | later
          · exact absurd slot.symm own
          · exact .inl ⟨x, later, slot⟩
        · exact .inr had

/-! ### The stall (R101) -/

/-- What a stall leaves of a running transport with plates on it. -/
structure Stalled (s t : State) : Prop where
  stallHold : t.wou.stallHold = true
  transport : t.wou.transport ≠ .running
  list : t.wou.list = s.wou.list
  drives : driveIsOn .transport t = false ∧ driveIsOn .brushes t = false
  flag : isSet .transportStall t = true
  notices : ∀ x ∈ s.wou.list, ∀ p, plateAt s x.slot = some p → ∃ q, plateAt t x.slot = some q
    ∧ (.transportStall ∈ q.notices ∨ q.moreNotices = true) ∧ q.state = p.state
  loading : t.wou.lambda = s.wou.lambda ∧ t.wou.committed = s.wou.committed
  others : t.rss = s.rss ∧ t.din = s.din ∧ t.lfn = s.lfn ∧ t.trc = s.trc ∧ t.dry = s.dry ∧ t.exu = s.exu
    ∧ t.ptb.queue = s.ptb.queue ∧ t.lio.lamps = s.lio.lamps

theorem stallTransport_stalled (running : s.wou.transport = .running) (full : s.wou.list ≠ []) :
    Stalled s (stallTransport s) := by
  obtain ⟨w, hold⟩ : ∃ w, w = modWou (fun x => { x with stallHold := true }) s := ⟨_, rfl⟩
  have list : w.wou.list = s.wou.list := by rw [hold]; rfl
  have before : w.wou.transport = .running := by rw [hold]; exact running
  have after : transportStateOf w ≠ .running := fun run => by
    have held : w.wou.stallHold = true := by rw [hold]; rfl
    have := (transportStateOf_running.1 run).2.2.2.2
    simp [held] at this
  have idle : transportStateOf w ≠ .idle := by
    unfold transportStateOf
    rw [if_neg (by simp [list, full])]
    (repeat' split) <;> simp
  have taken : (takeTransport w).wou = { w.wou with transport := transportStateOf w } := by
    rw [takeTransport_wou, if_neg (by simp [list, full])]
  have none : Unadmitted (takeTransport w) (evalAdmission (takeTransport w)) :=
    unadmitted_stopped (by rw [taken]; exact idle) (by rw [taken]; exact after)
  obtain ⟨b, wou⟩ := none.wou
  have anew : transportAnew w = evalAdmission (takeTransport w) := by
    unfold transportAnew
    dsimp only
    rw [if_neg (by rw [taken, before]; exact after)]
  have stalled : stallTransport s = s.wou.list.foldl (fun t e => addNotice e.slot .transportStall t)
      (setFlag .transportStall (evalAdmission (takeTransport w))) := by
    rw [← anew, hold]
    rfl
  obtain ⟨x, flagged⟩ : ∃ x, x = setFlag .transportStall (evalAdmission (takeTransport w)) := ⟨_, rfl⟩
  have wouX : x.wou = { s.wou with stallHold := true, transport := transportStateOf w, blocker := b } := by
    rw [flagged, (setFlag_frame _ _).2.2.2.2.2.2.1, wou, taken, hold]
    rfl
  have plates (k : Slot) : plateAt x k = plateAt s k := by
    refine plateAt_congr ?_ k
    rw [flagged, (setFlag_frame _ _).2.2.1, none.ptb]
    simp [hold]
  have drives (c : DriveChannel) : driveIsOn c x = driveIsOn c (takeTransport w) :=
    driveIsOn_congr (by rw [flagged]; simp [none.drives]) c
  have stops := takeTransport_stops before after
  have others : x.rss = s.rss ∧ x.din = s.din ∧ x.lfn = s.lfn ∧ x.trc = s.trc ∧ x.dry = s.dry ∧ x.exu = s.exu
      ∧ x.ptb.queue = s.ptb.queue ∧ x.lio.lamps = s.lio.lamps := by
    have base : w.rss = s.rss ∧ w.din = s.din ∧ w.lfn = s.lfn ∧ w.trc = s.trc ∧ w.dry = s.dry ∧ w.exu = s.exu
        ∧ w.ptb.queue = s.ptb.queue ∧ w.lio.lamps = s.lio.lamps := by
      rw [hold]
      simp
    rw [flagged]
    simp [none.dry, none.exu, base]
  have kept : (s.wou.list.foldl (fun t e => addNotice e.slot .transportStall t) x).wou = x.wou := by simp
  rw [stalled, ← flagged]
  refine ⟨by simp [wouX], ?_, by simp [wouX], ⟨?_, ?_⟩, ?_, fun y mem p held => ?_, by simp [wouX], by simpa using others⟩
  · rw [kept, wouX]
    exact after
  · rw [driveIsOn_congr (s := x) (by simp), drives, stops.1]
  · rw [driveIsOn_congr (s := x) (by simp), drives, stops.2]
  · rw [isSet_congr (s := x) (by simp), flagged, isSet_setFlag]
    simp
  · obtain ⟨q, heldQ, state, has⟩ := foldl_addNotice .transportStall s.wou.list x y.slot p ((plates _).trans held)
    exact ⟨q, heldQ, has (.inl ⟨y, mem, rfl⟩), state⟩

/-- Settles O45: the list moved on; an evaluation at the tail's gap mark; a stall at the end mark before an occupied table. -/
theorem gapAndEndMarks : Obligations.GapAndEndMarks := by
  unfold Obligations.GapAndEndMarks
  intro k e s power running at_ moved gapAt endAt
  obtain ⟨mem, slot⟩ := entryOf_mem at_
  have gap : exec (.gapMark k) s = .next (gapMark k s) := event_on power
  have end_ : exec (.endMark k) s = .next (endMark k s) := event_on power
  have gapped : gapMark k s = (if (s.wou.list.getLast?).map (·.slot) = some k
      then evalAdmission { s with wou := { s.wou with list := moved gapAt } }
      else { s with wou := { s.wou with list := moved gapAt } }) := by
    simp only [gapMark, at_, markReached_running running, if_true]
    rfl
  have ended : endMark k s = (if exitTableOccupied { s with wou := { s.wou with list := moved endAt } }
      then stallTransport { s with wou := { s.wou with list := moved endAt } }
      else { s with wou := { s.wou with list := moved endAt } }) := by
    simp only [endMark, at_, markReached_running running, if_true]
    rfl
  have occupied : exitTableOccupied { s with wou := { s.wou with list := moved endAt } }
      = (s.wou.exitWaiting || inputActive .washExitPresent s) := rfl
  refine ⟨fun other => ?_, fun tail => ?_, fun tail => ?_, fun clear away => ?_, fun busy => ?_⟩
  · rw [gap, gapped, if_neg other]
  · rw [gap, gapped, if_pos tail]
  · have eval := evalAdmission_evaluated { s with wou := { s.wou with list := moved gapAt } }
    obtain ⟨more, list, one, none⟩ := eval.list
    refine ⟨_, more, gap, ?_⟩
    rw [gapped, if_pos tail]
    refine ⟨list, one, fun nil => ?_, eval.lambda, eval.replenish, by simp⟩
    obtain ⟨b, wou⟩ := (none nil).wou
    rw [wou]
  · rw [end_, ended, if_neg (by rw [occupied, clear, away]; simp)]
  · have full : moved endAt ≠ [] := by
      simp only [moved, ne_eq, List.map_eq_nil_iff]
      exact List.ne_nil_of_mem mem
    have stalled := stallTransport_stalled (s := { s with wou := { s.wou with list := moved endAt } }) running full
    have yes : exitTableOccupied { s with wou := { s.wou with list := moved endAt } } = true := by
      rw [occupied, Bool.or_eq_true]
      exact busy
    refine ⟨_, end_, ?_⟩
    rw [ended, if_pos yes]
    refine ⟨stalled.stallHold, stalled.transport, stalled.list, stalled.drives.1, stalled.drives.2, stalled.flag,
      fun x memX p held => ?_, stalled.loading.1, stalled.loading.2, stalled.others⟩
    exact stalled.notices { x with position := x.position + (endAt - e.position) } (List.mem_map_of_mem memX) p held

/-! ### The commit mark (R100, R107) -/

/-- What the commit of entry `e` leaves before the evaluation. -/
structure Committed (k : Slot) (e : TransportEntry) (s v : State) : Prop where
  wou : v.wou = { s.wou with
    list := markCommitted k (movedTo e.position ((s.rss.working.cal.wash.brushLength + e.length) * 60000) s.wou.list)
    committed := s.wou.committed - e.increment
    lambda := min 65535 (s.wou.lambda + e.increment)
    replenish := v.wou.replenish }
  due : s.rss.working.cal.wash.lambdaRepl ≤ min 65535 (s.wou.lambda + e.increment) → s.wou.replenish = .none →
    v.wou.replenish = (if inputActive .freshLow s then .blocked else .pending)
  early : min 65535 (s.wou.lambda + e.increment) < s.rss.working.cal.wash.lambdaRepl ∨ s.wou.replenish ≠ .none →
    v.wou.replenish = s.wou.replenish
  written : s.rss.countersWriting = false → s.rss.save = none →
    v.rss.counters = ⟨min 65535 (s.wou.lambda + e.increment), s.din.lampOn, true⟩
  waiting : s.rss.countersWriting = true ∨ s.rss.save ≠ none → v.rss.countersWaiting = true
  others : v.rss.working = s.rss.working ∧ v.din = s.din ∧ v.lfn = s.lfn ∧ v.trc = s.trc ∧ v.ptb.queue = s.ptb.queue
    ∧ v.lio.lamps = s.lio.lamps ∧ v.flt.lineState = s.flt.lineState

theorem commitMark_committed {k : Slot} {e : TransportEntry} (running : s.wou.transport = .running)
    (at_ : entryOf s k = some e) (new : e.committed = false) :
    ∃ v, commitMark k s = evalAdmission v ∧ Committed k e s v := by
  obtain ⟨w, wEq⟩ : ∃ w, w = modRss (fun r => { r with commitsSinceWrite := r.commitsSinceWrite + e.increment })
      (modWou (commitEntry k e.increment) (shiftTo e.position (mm (commitMarkAt (washCal s) e)) s)) := ⟨_, rfl⟩
  have eq : commitMark k s = evalAdmission (commitReplenish (askCountersWrite w)) := by
    rw [wEq]
    simp only [commitMark, at_, new, markReached_running running, and_self, if_true]
  have wou : w.wou = { s.wou with
      list := markCommitted k (movedTo e.position ((s.rss.working.cal.wash.brushLength + e.length) * 60000) s.wou.list)
      committed := s.wou.committed - e.increment
      lambda := min 65535 (s.wou.lambda + e.increment) } := by
    rw [wEq]
    rfl
  have rss : w.rss.countersWriting = s.rss.countersWriting ∧ w.rss.save = s.rss.save ∧ w.rss.working = s.rss.working := by
    rw [wEq]
    exact ⟨rfl, rfl, rfl⟩
  have rest : w.din = s.din ∧ w.lfn = s.lfn ∧ w.trc = s.trc ∧ w.ptb = s.ptb ∧ w.lio = s.lio ∧ w.flt = s.flt := by
    rw [wEq]
    exact ⟨rfl, rfl, rfl, rfl, rfl, rfl⟩
  obtain ⟨writing, save, working⟩ := rss
  obtain ⟨din, lfn, trc, ptb, lio, flt⟩ := rest
  have low : inputActive .freshLow (askCountersWrite w) = inputActive .freshLow s :=
    inputActive_congr (by simp [lio]) (by simp [working]) _
  have full : (askCountersWrite w).wou.list ≠ [] := by
    rw [(askCountersWrite_frame w).2.2.2.2.2.2.2.2.2.2.1, wou]
    intro none
    have slots := congrArg (List.map (·.slot)) none
    rw [markCommitted_slots, movedTo_slots, List.map_nil, List.map_eq_nil_iff] at slots
    exact List.ne_nil_of_mem (entryOf_mem at_).1 slots
  have ref : (washCal (askCountersWrite w)).lambdaRepl = s.rss.working.cal.wash.lambdaRepl := by simp [washCal, working]
  have lam : (askCountersWrite w).wou.lambda = min 65535 (s.wou.lambda + e.increment) := by simp [wou]
  have rep : (askCountersWrite w).wou.replenish = s.wou.replenish := by simp [wou]
  refine ⟨_, eq, ?_, fun high none => ?_, fun h => ?_, fun idle free => ?_, fun busy => ?_, ?_⟩
  · have kept : (commitReplenish (askCountersWrite w)).wou = { (askCountersWrite w).wou with
        replenish := (commitReplenish (askCountersWrite w)).wou.replenish } := by
      unfold commitReplenish
      split
      · exact enterPending_wou_kept _
      · rfl
    rw [kept]
    simp [wou]
  · have entered : commitReplenish (askCountersWrite w) = enterPending (askCountersWrite w) :=
      if_pos ⟨by rw [ref, lam]; exact high, rep.trans none⟩
    rw [entered]
    cases fresh : inputActive .freshLow s with
    | true => rw [(enterPending_blocked (low.trans fresh)).1]; rfl
    | false => rw [enterPending_waits (low.trans fresh) (fun start => full start.1)]; rfl
  · have still : commitReplenish (askCountersWrite w) = askCountersWrite w := by
      refine if_neg fun both => ?_
      rw [ref, lam, rep] at both
      rcases h with below | other
      · exact absurd both.1 (Nat.not_le.2 below)
      · exact other both.2
    rw [still, rep]
  · rw [(commitReplenish_frame _).2.2.2.1, (askCountersWrite_begins (writing.trans idle) (save.trans free)).1, wou, din]
  · rw [(commitReplenish_frame _).2.2.2.1]
    exact askCountersWrite_waits (by rw [writing, save]; exact busy)
  · simp [working, din, lfn, trc, ptb, lio, flt]

/-- Settles O46: the commit of an entry, and the evaluation after it. -/
theorem commitsMoveLoading : Obligations.CommitsMoveLoading := by
  unfold Obligations.CommitsMoveLoading
  intro k e s power running at_
  have step : exec (.commitMark k) s = .next (commitMark k s) := event_on power
  refine ⟨fun done => ?_, fun new => ?_⟩
  · rw [step]
    simp [commitMark, at_, done]
  · intro lambda
    obtain ⟨v, eq, left⟩ := commitMark_committed running at_ new
    have eval := evalAdmission_evaluated v
    obtain ⟨more, list, one, none⟩ := eval.list
    have found : v.wou.list.find? (fun x => x.slot == k) = some { e with
        position := e.position + ((s.rss.working.cal.wash.brushLength + e.length) * 60000 - e.position)
        committed := true } := by
      rw [left.wou]
      exact find?_markCommitted (find?_movedTo at_)
    have entry : entryOf (evalAdmission v) k = some { e with
        position := e.position + ((s.rss.working.cal.wash.brushLength + e.length) * 60000 - e.position)
        committed := true } := by
      rw [entryOf, list, List.find?_append, found]
      rfl
    obtain ⟨working, din, lfn, trc, queue, lamps, line⟩ := left.others
    refine ⟨_, more.map (·.slot), step, ?_⟩
    rw [eq]
    refine ⟨?_, ?_, by simpa using one, ⟨_, entry, rfl, rfl, ?_⟩, fun nil => ?_, fun idle free => ?_, fun busy => ?_,
      fun high rest => ?_, fun h => ?_, by simp [working], by simp [din], by simp [lfn], by simp [trc], by simp [queue],
      by simp [lamps], by simp [line]⟩
    · rw [eval.lambda, left.wou]
    · rw [list, List.map_append, left.wou, markCommitted_slots, movedTo_slots]
    · dsimp only
      omega
    · obtain ⟨b, wou⟩ := (none (List.map_eq_nil_iff.1 nil)).wou
      rw [wou, left.wou]
    · rw [(evalAdmission_frame v).2.2.2.2.1]
      exact left.written idle free
    · rw [(evalAdmission_frame v).2.2.2.2.1]
      exact left.waiting busy
    · rw [eval.replenish]
      exact left.due high rest
    · rw [eval.replenish]
      exact left.early h

/-! ### The put raised and the exit mark (R103, R143) -/

/-- A put raised is begun when the arbiter may begin one and the record names a drawer, and else waits. -/
theorem raisePut_put (k : Slot) (s : State) :
    (raisePut k s).trc.table = .waitingPut k ∧ (raisePut k s).trc.pendingPut = some k
    ∨ ∃ d, drawerOf s k = some d ∧ (raisePut k s).trc.table = .putBegun k ∧ (raisePut k s).trc.request = some (.put k d) := by
  obtain ⟨w, raised⟩ : ∃ w, w = modTrc (fun t => { t with pendingPut := some k, table := .waitingPut k }) s := ⟨_, rfl⟩
  have pending : w.trc.pendingPut = some k := by rw [raised]; rfl
  have table : w.trc.table = .waitingPut k := by rw [raised]; rfl
  have drawer : drawerOf w k = drawerOf s k := by rw [raised]; rfl
  have eq : raisePut k s = (if arbiterReady w then beginPut k w else w) := by
    rw [raisePut, ← raised, arbiter, pending]
  rw [eq]
  split
  · unfold beginPut
    rw [drawer]
    cases named : drawerOf s k with
    | none => exact .inl ⟨table, pending⟩
    | some d =>
      refine .inr ⟨d, rfl, ?_, ?_⟩
      · exact (travelThen_put _ _ _).2.1
      · exact (travelThen_frame _ _ _).2.2.2.2.2.2.2.2.2.2.1
  · exact .inl ⟨table, pending⟩

/-- The record of a plate that leaves the transport with `stall` ms of stalls. -/
def leftTransport (stall : Nat) (p : PlateRecord) : PlateRecord :=
  { p with
    state := .washExit
    washout := p.washout.map (fun w => { w with stallTime := stall / 1000 }) }

theorem exitMark_head {e : TransportEntry} {rest : List TransportEntry} {p : PlateRecord} (running : s.wou.transport = .running)
    (list : s.wou.list = e :: rest) (done : e.committed = true) (at_ : plateAt s e.slot = some p) (state : p.state = .washing) :
    ∃ w, w.wou = { s.wou with
        list := movedTo e.position (mm (exitMarkAt (washCal s) e)) rest
        exitWaiting := true }
      ∧ plateAt w e.slot = some (leftTransport e.stall p)
      ∧ (w.trc.table = .waitingPut e.slot ∧ w.trc.pendingPut = some e.slot
        ∨ ∃ d, p.drawer = some d ∧ w.trc.table = .putBegun e.slot ∧ w.trc.request = some (.put e.slot d))
      ∧ (w.rss = s.rss ∧ w.din = s.din ∧ w.ptb.queue = s.ptb.queue ∧ w.lio.lamps = s.lio.lamps
        ∧ w.flt.lineState = s.flt.lineState)
      ∧ exitMark s = evalAdmission (if rest = [] then startReplenish (takeTransport w) else w) := by
  obtain ⟨x, xEq⟩ : ∃ x, x = modWou (fun w => { w with exitWaiting := true }) (writeStall e.slot e.stall
      (refreshOutputs (modWou (fun w => { w with list := w.list.tail })
        (shiftTo e.position (mm (exitMarkAt (washCal s) e)) s)))) := ⟨_, rfl⟩
  have listed (f g : Washout → Washout) : plateAt (refreshOutputs (modWou f (modWou g s))) e.slot = some p :=
    (plateAt_congr (by simp) _).trans at_
  have stalled (f g h : Washout → Washout) : plateAt (modWou h (writeStall e.slot e.stall
      (refreshOutputs (modWou f (modWou g s))))) e.slot = some { p with
        washout := p.washout.map (fun w => { w with stallTime := e.stall / 1000 }) } := by
    refine (plateAt_congr (s := writeStall e.slot e.stall (refreshOutputs (modWou f (modWou g s)))) rfl _).trans ?_
    rw [writeStall, plateAt_modPlate, if_pos rfl, listed]
    rfl
  have recordX : plateAt x e.slot = some { p with
      washout := p.washout.map (fun w => { w with stallTime := e.stall / 1000 }) } := by
    rw [xEq, shiftTo_eq]
    exact stalled _ _ _
  have moved : plateAt (movePlate e.slot .washing .washExit id x) e.slot = some (leftTransport e.stall p) := by
    rw [plateAt_movePlate, if_pos rfl, recordX]
    simp [state, leftTransport]
  have wouX : x.wou = { s.wou with
      list := movedTo e.position (mm (exitMarkAt (washCal s) e)) rest
      exitWaiting := true } := by
    rw [xEq, shiftTo_eq]
    simp [modWou, writeStall, list, movedTo]
  have empty : movedTo e.position (mm (exitMarkAt (washCal s) e)) rest = [] ↔ rest = [] := List.map_eq_nil_iff
  refine ⟨raisePut e.slot (movePlate e.slot .washing .washExit id x), ?_, ?_, ?_, ?_, ?_⟩
  · simp [wouX]
  · exact (plateAt_congr (by simp) _).trans moved
  · have drawer : drawerOf (movePlate e.slot .washing .washExit id x) e.slot = p.drawer := by
      rw [drawerOf, moved]
      rfl
    rw [← drawer]
    exact raisePut_put _ _
  · rw [xEq, shiftTo_eq]
    simp [writeStall]
  · have none : (raisePut e.slot (movePlate e.slot .washing .washExit id x)).wou.list = [] ↔ rest = [] := by
      simp [wouX, empty]
    simp only [exitMark, list, done, markReached_running running, and_self, if_true, ← xEq, none]

theorem driveFaulted_of_isOn {c : DriveChannel} (on : driveIsOn c s = true) : driveFaulted c s = false := by
  obtain ⟨sp, state⟩ := driveIsOn_iff.1 on
  simp [driveFaulted_eq, state]

theorem driveState_startReplenish {c : DriveChannel} (other : c ≠ .pump) (v : State) :
    driveState c (startReplenish v) = driveState c v := by
  unfold startReplenish
  split
  · refine (driveState_congr (s := driveOn .pump (.value (washCal v).pumpRate) v) (by simp) c).trans ?_
    rw [driveState_driveOn, if_neg fun h => other h.1]
  · rfl

theorem driveIsOn_startReplenish {c : DriveChannel} (other : c ≠ .pump) (v : State) :
    driveIsOn c (startReplenish v) = driveIsOn c v := by
  simp only [driveIsOn, driveState_startReplenish other]

/-- Without a plate the transport is idle, its channels OFF (R91). -/
theorem takeTransport_emptied (empty : s.wou.list = []) (running : s.wou.transport = .running) :
    (takeTransport s).wou.transport = .idle ∧ (takeTransport s).wou.speed = 0
    ∧ driveIsOn .transport (takeTransport s) = false ∧ driveIsOn .brushes (takeTransport s) = false := by
  have idle : transportStateOf s = .idle := by simp [transportStateOf, empty]
  obtain ⟨off, brushesOff⟩ := takeTransport_stops running (by simp [idle])
  exact ⟨by simp [takeTransport_wou, idle], by simp [takeTransport_wou, empty], off, brushesOff⟩

/-! ### The washout's exit sensor (R143, R102) -/

section Sensor
variable {i : Fin 12}

theorem exec_exitSensor {active : Bool} (h : Changes i .washExitPresent active s) : exec (.debounceExpiry i) s
    = .next (exitSensorChange active (if active then flipped i s else testStallEnd (flipped i s))) :=
  exec_debounce h

theorem exitTableOccupied_flipped (h : Changes i .washExitPresent false s) :
    exitTableOccupied (flipped i s) = s.wou.exitWaiting := by
  have clear : inputActive .washExitPresent (flipped i s) = false := inputActive_flipped_self h
  simp [exitTableOccupied, clear]
  rfl

theorem exitSensorChange_true (v : State) :
    (v.trc.table = .empty → (∀ k d, v.trc.request ≠ some (.put k d)) →
      exitSensorChange true v = modTrc (fun t => { t with table := .clearWait }) v)
    ∧ (v.trc.table ≠ .empty ∨ (∃ k d, v.trc.request = some (.put k d)) → exitSensorChange true v = v) := by
  constructor
  · intro empty none
    have idle : putInHand v = false := by
      unfold putInHand
      split
      next k d put => exact absurd put (none k d)
      next => rfl
    simp [exitSensorChange, empty, idle]
  · rintro (other | ⟨k, d, put⟩)
    · unfold exitSensorChange
      split
      next empty => exact absurd empty other
      next => rfl
      next => rfl
    · have busy : putInHand v = true := by simp [putInHand, put]
      unfold exitSensorChange
      split
      next => simp [busy]
      next => rfl
      next => rfl

theorem exitSensorChange_false (v : State) : exitSensorChange false v
    = { v with trc := { v.trc with table := if v.trc.table = .clearWait then .empty else v.trc.table } } := by
  unfold exitSensorChange modTrc
  split
  next empty =>
    have same : (if v.trc.table = .clearWait then WashExitTable.empty else v.trc.table) = v.trc.table :=
      if_neg (by simp [empty])
    rw [same]
    rfl
  next waits => simp [waits]
  next other =>
    rw [if_neg other]

/-- The stall ends when the exit table is clear, and the transport moves on when nothing else stops it (R102). -/
theorem testStallEnd_moves (stall : s.wou.stallHold = true) (clear : exitTableOccupied s = false) :
    (testStallEnd s).wou.stallHold = false ∧ (testStallEnd s).wou.lambda = s.wou.lambda
    ∧ (testStallEnd s).wou.replenish = s.wou.replenish ∧ (testStallEnd s).wou.exitWaiting = s.wou.exitWaiting
    ∧ (s.wou.list ≠ [] → s.wou.transport = .stalled → inhibitActive s = false → driveFaulted .transport s = false →
        driveFaulted .brushes s = false → (testStallEnd s).wou.transport = .running
        ∧ driveIsOn .transport (testStallEnd s) = true ∧ driveIsOn .brushes (testStallEnd s) = true) := by
  obtain ⟨v, vEq⟩ : ∃ v, v = modWou (fun w => { w with stallHold := false }) s := ⟨_, rfl⟩
  have eq : testStallEnd s = transportAnew v := by
    rw [vEq]
    exact if_pos (by simp [stall, clear])
  have wou : v.wou = { s.wou with stallHold := false } := by rw [vEq]; rfl
  have lio : v.lio = s.lio := by rw [vEq]; rfl
  have taken := takeTransport_wou v
  have evaluated := evalAdmission_evaluated (takeTransport v)
  rw [eq]
  unfold transportAnew
  dsimp only
  split
  next same =>
    refine ⟨by simp [taken, wou], by simp [taken, wou], by simp [taken, wou], by simp [taken, wou], ?_⟩
    intro some stalled inhibit transport brushes
    have runs : transportStateOf v = .running := by
      rw [vEq]
      exact transportStateOf_running.2 ⟨some, inhibit, transport, brushes, rfl⟩
    rw [taken, runs, wou, stalled] at same
    cases same
  next =>
    refine ⟨?_, ?_, ?_, ?_, ?_⟩
    · rw [evaluated.stallHold, taken, wou]
    · rw [evaluated.lambda, taken, wou]
    · rw [evaluated.replenish, taken, wou]
    · rw [evaluated.exitWaiting, taken, wou]
    intro some stalled inhibit transport brushes
    have runs : transportStateOf v = .running := by
      rw [vEq]
      exact transportStateOf_running.2 ⟨some, inhibit, transport, brushes, rfl⟩
    obtain ⟨on, brushesOn⟩ := takeTransport_starts (s := v) (by rw [wou, stalled]; decide) runs
    have still : transportStateOf (takeTransport v) = .running := by
      refine transportStateOf_running.2 ⟨?_, ?_, ?_, ?_, ?_⟩
      · rw [taken, wou]
        exact some
      · rw [inhibitActive_congr (s := s) (by simp [lio]) (by simp [vEq, modWou])]
        exact inhibit
      · exact driveFaulted_of_isOn on
      · exact driveFaulted_of_isOn brushesOn
      · rw [taken, wou]
    obtain ⟨running, drives⟩ := evaluated.runs (by rw [taken, runs]) still
    exact ⟨running, (driveIsOn_congr drives _).trans on, (driveIsOn_congr drives _).trans brushesOn⟩

end Sensor

/-- Settles O47: `exitMark_head` says what the head's exit does before the evaluation it ends with, which moves no plate
that is not EXPOSED; a mark not reached leaves the match of each mark at once. -/
theorem exitMarksRaisePuts : Obligations.ExitMarksRaisePuts := by
  unfold Obligations.ExitMarksRaisePuts
  refine ⟨?_, ?_, ?_⟩
  · intro e rest p s power running list done at_ state _
    obtain ⟨w, wou, record, put, ⟨rss, din, queue, lamps, line⟩, eq⟩ := exitMark_head running list done at_ state
    obtain ⟨v, vEq⟩ : ∃ v, v = if rest = [] then startReplenish (takeTransport w) else w := ⟨_, rfl⟩
    have kept : v.wou.list = w.wou.list ∧ v.wou.lambda = w.wou.lambda ∧ v.wou.exitWaiting = w.wou.exitWaiting
        ∧ v.ptb = w.ptb ∧ v.trc = w.trc ∧ v.rss = w.rss ∧ v.din = w.din ∧ v.lio.lamps = w.lio.lamps
        ∧ v.flt.lineState = w.flt.lineState := by
      rw [vEq]
      split
      · have waiting : (startReplenish (takeTransport w)).wou.exitWaiting = w.wou.exitWaiting := by
          rw [startReplenish_wou_kept, takeTransport_wou]
        refine ⟨by simp [takeTransport_wou], by simp [takeTransport_wou], waiting, ?_⟩
        simp
      · exact ⟨rfl, rfl, rfl, rfl, rfl, rfl, rfl, rfl, rfl⟩
    obtain ⟨listV, lambdaV, waitingV, ptbV, trcV, rssV, dinV, lampsV, lineV⟩ := kept
    have evaluated := evalAdmission_evaluated v
    obtain ⟨more, after, one, unadmitted⟩ := evaluated.list
    refine ⟨evalAdmission v, more.map (·.slot), ?_, ?_, ?_, ?_, ?_, ?_, ?_, ?_, ?_, ?_, ?_, ?_, ?_⟩
    · rw [vEq, ← eq]
      exact event_on power
    · rw [after, listV, wou]
      simp [movedTo_slots]
    · simpa using one
    · rw [evaluated.exitWaiting, waitingV, wou]
    · exact evaluated.records _ _ ((plateAt_congr (congrArg (·.plates) ptbV) _).trans record) nofun
    · intro last none
      have still := unadmitted (by simpa using none)
      obtain ⟨b, wouT⟩ := still.wou
      have empty : w.wou.list = [] := by rw [wou, last]; rfl
      obtain ⟨idle, speed, off, brushesOff⟩ := takeTransport_emptied empty (by rw [wou]; exact running)
      have v' : v = startReplenish (takeTransport w) := by rw [vEq, if_pos last]
      refine ⟨?_, ?_, ?_, ?_⟩
      · rw [wouT, v']
        simp [idle]
      · rw [wouT, v', startReplenish_wou_kept]
        exact speed
      · rw [driveIsOn_congr still.drives, v', driveIsOn_startReplenish (by decide), off]
      · rw [driveIsOn_congr still.drives, v', driveIsOn_startReplenish (by decide), brushesOff]
    · simpa [trcV] using put
    · rw [evaluated.lambda, lambdaV, wou]
    · simp [rssV, rss]
    · simp [dinV, din]
    · simp [ptbV, queue]
    · simp [lampsV, lamps]
    · simp [lineV, line]
  · intro k s
    have marks (same : gapMark k s = s ∧ endMark k s = s ∧ commitMark k s = s) : exec (.gapMark k) s = .next s
        ∧ exec (.endMark k) s = .next s ∧ exec (.commitMark k) s = .next s := by
      obtain ⟨gap, ending, commit⟩ := same
      exact ⟨event_same gap, event_same ending, event_same commit⟩
    refine ⟨?_, ?_, ?_⟩
    · intro none
      exact marks ⟨by simp [gapMark, none], by simp [endMark, none], by simp [commitMark, none]⟩
    · intro empty
      exact event_same (by simp [exitMark, empty])
    · intro e at_ standing
      refine ⟨fun short => event_same ?_, fun short => event_same ?_, fun short => event_same ?_⟩
      · have mark : markReached s e.position (mm (gapMarkAt e)) = false := markReached_standing standing short
        simp [gapMark, at_, mark]
      · have mark : markReached s e.position (mm (endMarkAt (washCal s))) = false := markReached_standing standing short
        simp [endMark, at_, mark]
      · have mark : markReached s e.position (mm (commitMarkAt (washCal s) e)) = false :=
          markReached_standing standing short
        simp [commitMark, at_, mark]
  · intro i s u table
    refine ⟨?_, ?_⟩
    · intro h
      have change := exitSensorChange_true (flipped i s)
      refine ⟨?_, ?_⟩
      · intro empty none
        exact (exec_exitSensor h).trans (congrArg _ (change.1 empty none))
      · intro other
        exact (exec_exitSensor h).trans (congrArg _ (change.2 other))
    · intro h
      have occupied := exitTableOccupied_flipped h
      refine ⟨?_, ?_⟩
      · intro stands
        have none : testStallEnd (flipped i s) = flipped i s := by
          refine if_neg ?_
          rw [occupied]
          rcases stands with still | waiting
          · simp [show (flipped i s).wou.stallHold = false from still]
          · simp [waiting]
        refine (exec_exitSensor h).trans (congrArg _ ?_)
        rw [exitSensorChange_false]
        simp only [Bool.false_eq_true, if_false, none]
        rfl
      · intro stall clear
        obtain ⟨stallHold, lambda, replenish, waiting, moves⟩ :=
          testStallEnd_moves (s := flipped i s) stall (occupied.trans clear)
        refine ⟨_, exec_exitSensor h, ?_⟩
        simp only [Bool.false_eq_true, if_false, exitSensorChange_false]
        refine ⟨stallHold, ?_, ?_, ?_, lambda, replenish, waiting.trans clear, ?_⟩
        · simp [flipped, table]
        · intro some stalled inhibit transport brushes
          exact moves some stalled ((inhibitActive_flipped h (by decide)).trans inhibit) transport brushes
        · simp [u]
        · simp [flipped]

end Sys2Proof.Machine
end


section
/-! SUPPORT. The elevator: its phases, the arbiter's choice when there is nothing to begin, and the ends of a put and of
a take (R141 to R148). -/
namespace Sys2Proof.Machine
variable {s : State}

/-! ### Phases (R141) -/

theorem commandPhase_trc (p : Phase) (s : State) : (commandPhase p s).trc = { s.trc with
    elevator := .inPhase p
    timer := 0
    limit := phaseLimit s.trc.level p } := by
  simp [commandPhase, modTrc]

theorem commandPhase_lit (p : Phase) (inhibit : inhibitActive s = false) (works : driveFaulted .elevator s = false) :
    driveState .elevator (commandPhase p s) = .on (.phase p (phaseLevel s.trc.level p)) := by
  have free (f : Transfer → Transfer) : driveFaulted .elevator (modTrc f s) = false
      ∧ (driveIsOn .elevator (modTrc f s) = true ∨ inhibitActive (modTrc f s) = false) := ⟨works, .inr inhibit⟩
  unfold commandPhase
  rw [driveState_driveOn, if_pos ⟨rfl, free _⟩]

theorem travelThen_there {target : Fin 8} (p : Phase) (there : s.trc.level = target) :
    travelThen target p s = commandPhase p s := if_pos there

theorem travelThen_away {target : Fin 8} (p : Phase) (away : s.trc.level ≠ target) :
    travelThen target p s = commandPhase (.travel target) s := if_neg away

/-! ### The arbiter (R144) -/

theorem takeChoice_none (none_ : ∀ d k id done, drawerAt s d ≠ .dryDone k id done) : takeChoice s = none := by
  have undone (d : DrawerNo) : doneDrawer s d = none := by
    unfold doneDrawer
    split
    next k id done at_ => exact absurd at_ (none_ d k id done)
    next => rfl
  have fold (l : List DrawerNo) : l.foldl (betterTake s) none = none := by
    induction l with
    | nil => rfl
    | cons d l ih => simpa [betterTake, undone] using ih
  exact fold _

theorem arbiter_no_take (none_ : s.trc.pendingPut = none) (noTake : NoTake s) : arbiter s = s := by
  have refused (h : takeAllowed s = false) : arbiter s = s := by
    unfold arbiter
    simp [none_, h]
  rcases noTake with line | station | incoming | uva | uvc | order | outfeed | drawers
  · exact refused (by simp [takeAllowed, line])
  · exact refused (by simp [takeAllowed, station])
  · exact refused (by simp [takeAllowed, incoming])
  · exact refused (by simp [takeAllowed, lfnFlagged, lfnLampFailed, uva])
  · exact refused (by simp [takeAllowed, lfnFlagged, lfnLampFailed, uvc])
  · exact refused (by simp [takeAllowed, lfnFlagged, order])
  · exact refused (by simp [takeAllowed, lfnFlagged, outfeed])
  · unfold arbiter
    simp [none_, takeChoice_none drawers]

theorem arbiter_not_ready (line : s.flt.lineState ≠ .run ∧ s.flt.lineState ≠ .safeHold) : arbiter s = s := by
  have waits : arbiterReady s = false := by simp [arbiterReady, line.1, line.2]
  simp [arbiter, waits]

/-- What the arbiter may begin nothing of. -/
def NothingToBegin (s : State) : Prop :=
  (s.trc.pendingPut = none ∧ NoTake s) ∨ (s.flt.lineState ≠ .run ∧ s.flt.lineState ≠ .safeHold)

theorem arbiter_nothing (h : NothingToBegin s) : arbiter s = s := by
  rcases h with ⟨put, take⟩ | line
  · exact arbiter_no_take put take
  · exact arbiter_not_ready line

theorem NoTake.congr {t : State} (h : NoTake s) (line : t.flt.lineState = s.flt.lineState) (lfn : t.lfn = s.lfn)
    (flags : t.flt.flags = s.flt.flags)
    (drawers : ∀ d k id done, drawerAt t d = .dryDone k id done → drawerAt s d = .dryDone k id done) : NoTake t := by
  have undone : (∀ d k id done, drawerAt s d ≠ .dryDone k id done) → ∀ d k id done, drawerAt t d ≠ .dryDone k id done :=
    fun none d k id done at_ => none d k id done (drawers d k id done at_)
  unfold NoTake at h ⊢
  simp only [line, lfn, isSet_congr flags]
  tauto

theorem arbiter_begins {k : Slot} {d : DrawerNo} (ready : arbiterReady s = true) (put : s.trc.pendingPut = some k)
    (drawer : drawerOf s k = some d) : arbiter s = travelThen 0 .pick
      (modTrc (fun t => { t with pendingPut := none, request := some (.put k d), table := .putBegun k }) s) := by
  simp [arbiter, ready, put, beginPut, drawer]

/-! ### The end of a request (R144 to R146) -/

theorem elevatorToIdle_eq (s : State) : elevatorToIdle s
    = arbiter (driveOff .elevator (modTrc (fun t => { t with elevator := .idle, request := none }) s)) := rfl

theorem driveOff_off (c : DriveChannel) (s : State) : driveIsOn c (driveOff c s) = false := by
  simp [driveIsOn_driveOff]

theorem elevatorToIdle_rests (h : NothingToBegin s) :
    elevatorToIdle s = driveOff .elevator (modTrc (fun t => { t with elevator := .idle, request := none }) s) := by
  refine arbiter_nothing ?_
  rcases h with ⟨put, take⟩ | line
  · refine .inl ⟨by simpa using put, take.congr (by simp) (by simp) (by simp) fun d k id done at_ => ?_⟩
    exact (drawerAt_congr (s := s) (by simp) d).symm.trans at_
  · exact .inr (by simpa using line)

theorem elevatorToIdle_idle (h : NothingToBegin s) :
    (elevatorToIdle s).trc = { s.trc with
      elevator := .idle
      request := none }
    ∧ (elevatorToIdle s).lfn = s.lfn ∧ driveIsOn .elevator (elevatorToIdle s) = false := by
  rw [elevatorToIdle_rests h]
  exact ⟨by simp [modTrc], by simp, driveOff_off _ _⟩

/-! ### Arrivals and timeouts (R141, R145, R146, R148) -/

/-- The phase a transfer goes on with at the level reached. -/
def nextPhase (target : Fin 8) : Option ElevatorRequest → Phase
  | some (.take _ _) => if target = 7 then .place else .pick
  | _ => if target = 0 then .pick else .place

theorem nextPhase_stays (target : Fin 8) (r : Option ElevatorRequest) : phaseLimit target (nextPhase target r) = 18000
    ∧ phaseLevel target (nextPhase target r) = target := by
  unfold nextPhase
  split
  · split
    · exact ⟨rfl, rfl⟩
    · exact ⟨rfl, rfl⟩
  · split
    · exact ⟨rfl, rfl⟩
    · exact ⟨rfl, rfl⟩

theorem afterTravel_transfer {target : Fin 8}
    (transfer : ∃ k d, s.trc.request = some (.put k d) ∨ s.trc.request = some (.take d k)) :
    afterTravel target s = commandPhase (nextPhase target s.trc.request) s := by
  obtain ⟨k, d, request | request⟩ := transfer
  · simp [afterTravel, request, nextPhase]
  · simp [afterTravel, request, nextPhase]

theorem arrivedReport_travel {target : Fin 8} (phase : s.trc.elevator = .inPhase (.travel target)) :
    arrivedReport s = afterTravel target (modTrc (fun t => { t with level := target }) s) := by
  simp [arrivedReport, phase]

theorem phaseTimeout_faults {phase : Phase} (h : s.trc.elevator = .inPhase phase) (going : s.trc.halted = false) :
    phaseTimeout s = modTrc (fun t => { t with elevator := .fault phase }) (setFlag .elevatorTimeout (driveOff .elevator s)) := by
  simp [phaseTimeout, h, going]

/-- A homing that ends at the bottom with a put raised begins it where it stands (R142, R144, R145). -/
theorem homed_put {k : Slot} {p : PlateRecord} {d : DrawerNo} (level : s.trc.level = 0) (put : s.trc.pendingPut = some k)
    (going : s.trc.halted = false) (line : s.flt.lineState = .run ∨ s.flt.lineState = .safeHold)
    (at_ : plateAt s k = some p) (drawer : p.drawer = some d) :
    ∃ v, elevatorToIdle s = commandPhase .pick v ∧ v.trc = { s.trc with
        elevator := .idle
        pendingPut := none
        request := some (.put k d)
        table := .putBegun k }
      ∧ v.ptb = s.ptb ∧ v.dry = s.dry ∧ v.lfn = s.lfn ∧ v.wou = s.wou ∧ v.flt = s.flt := by
  obtain ⟨u, uEq⟩ : ∃ u, u = driveOff .elevator (modTrc (fun t => { t with elevator := .idle, request := none }) s) :=
    ⟨_, rfl⟩
  have trc : u.trc = { s.trc with elevator := .idle, request := none } := by rw [uEq]; simp [modTrc]
  have ptb : u.ptb = s.ptb := by rw [uEq]; simp
  have dry : u.dry = s.dry := by rw [uEq]; simp
  have lfn : u.lfn = s.lfn := by rw [uEq]; simp
  have wou : u.wou = s.wou := by rw [uEq]; simp
  have flt : u.flt = s.flt := by rw [uEq]; simp
  have ready : arbiterReady u = true := by
    rcases line with run | hold
    · simp [arbiterReady, trc, going, flt, run]
    · simp [arbiterReady, trc, going, flt, hold]
  have drawerU : drawerOf u k = some d := by
    have atU : plateAt u k = some p := (plateAt_congr (congrArg (·.plates) ptb) k).trans at_
    simp [drawerOf, atU, drawer]
  have begins := arbiter_begins ready (by rw [trc]; exact put) drawerU
  refine ⟨modTrc (fun t => { t with pendingPut := none, request := some (.put k d), table := .putBegun k }) u, ?_, ?_, ?_⟩
  · rw [elevatorToIdle_eq, ← uEq, begins]
    exact travelThen_there .pick (by simp [modTrc, trc, level])
  · simp [modTrc, trc]
  · exact ⟨ptb, dry, lfn, wou, flt⟩

/-- Settles O51: each report is the phase it commands or the end `elevatorToIdle_idle` describes. -/
theorem elevatorArrivesOrTimesOut : Obligations.ElevatorArrivesOrTimesOut := by
  unfold Obligations.ElevatorArrivesOrTimesOut
  refine ⟨?_, ?_, ?_⟩
  · intro target s power phase
    have arrives := (event_on (s := s) (act := arrivedReport) power).trans (congrArg _ (arrivedReport_travel phase))
    obtain ⟨u, uEq⟩ : ∃ u, u = modTrc (fun t => { t with level := target }) s := ⟨_, rfl⟩
    rw [← uEq] at arrives
    have trc : u.trc = { s.trc with level := target } := by rw [uEq]; rfl
    have inhibit : inhibitActive u = inhibitActive s := by rw [uEq]; rfl
    have faulted (c : DriveChannel) : driveFaulted c u = driveFaulted c s := by rw [uEq]; rfl
    have drive (c : DriveChannel) : driveState c u = driveState c s := by rw [uEq]; rfl
    have rest : u.ptb = s.ptb ∧ u.rss = s.rss ∧ u.din = s.din ∧ u.exu = s.exu ∧ u.wou = s.wou ∧ u.dry = s.dry
        ∧ u.lfn = s.lfn ∧ u.flt = s.flt ∧ u.lnk = s.lnk ∧ u.lio.lamps = s.lio.lamps := by simp [uEq]
    obtain ⟨ptb, rss, din, exu, wou, dry, lfn, flt, lnk, lamps⟩ := rest
    refine ⟨?_, ?_, ?_⟩
    · intro k d transfer
      obtain ⟨limit, level⟩ := nextPhase_stays target s.trc.request
      have eq := afterTravel_transfer (s := u) (target := target) ⟨k, d, by simpa [trc] using transfer⟩
      have request : u.trc.request = s.trc.request := by rw [trc]
      rw [eq, request] at arrives
      refine ⟨_, nextPhase target s.trc.request, arrives, ?_, ?_, ?_, ?_, ?_, ?_⟩
      · intro put
        simp [nextPhase, put]
      · intro take
        simp [nextPhase, take]
      · rw [commandPhase_trc, trc, limit]
      · intro off works
        rw [commandPhase_lit _ (inhibit.trans off) ((faulted _).trans works), trc, level]
      · intro c other
        rw [driveState_commandPhase other, drive]
      · simp [ptb, rss, din, exu, wou, dry, lfn, flt, lnk, lamps]
    · intro homing nothing
      have eq : afterTravel target u = elevatorToIdle u := by simp [afterTravel, trc, homing]
      rw [eq] at arrives
      have none : NothingToBegin u := by
        rcases nothing with ⟨put, take⟩ | line
        · refine .inl ⟨by simpa [trc] using put, take.congr (by rw [flt]) lfn (by rw [flt]) fun d k id done at_ => ?_⟩
          exact (drawerAt_congr (congrArg (·.drawers) dry) d).symm.trans at_
        · exact .inr (by rw [flt]; exact line)
      obtain ⟨trcT, lfnT, off⟩ := elevatorToIdle_idle none
      refine ⟨_, arrives, by rw [trcT, trc], off, fun c other => ?_, ?_⟩
      · rw [driveState_elevatorToIdle other, drive]
      · simp [ptb, rss, din, exu, wou, dry, lfnT, lfn, flt, lnk, lamps]
    · intro k p d homing zero put going line at_ drawer
      have eq : afterTravel target u = elevatorToIdle u := by simp [afterTravel, trc, homing]
      obtain ⟨v, vEq, trcV, ptbV, dryV, lfnV, wouV, fltV⟩ := homed_put (s := u) (k := k) (p := p) (d := d)
        (by rw [trc]; exact zero) (by rw [trc]; exact put) (by rw [trc]; exact going) (by rw [flt]; exact line)
        ((plateAt_congr (congrArg (·.plates) ptb) k).trans at_) drawer
      rw [eq, vEq] at arrives
      refine ⟨_, arrives, ?_, ?_⟩
      · rw [commandPhase_trc, trcV, trc, zero]
        rfl
      · simp [ptbV, dryV, lfnV, wouV, fltV, ptb, dry, lfn, wou, flt]
  · intro phase s power inPhase going
    refine ⟨_, (event_on power).trans (congrArg _ (phaseTimeout_faults inPhase going)), ?_, ?_, ?_, ?_, ?_⟩
    · simp [modTrc]
    · exact (driveIsOn_congr (by simp) _).trans (driveOff_off .elevator s)
    · intro c other
      refine (driveState_congr (s := driveOff .elevator s) (by simp) c).trans ?_
      rw [driveState_driveOff, if_neg fun h => other h.1]
    · simp [setFlag_flags, modTrc]
    · simp
  · intro s
    refine ⟨?_, ?_, ?_, ?_⟩
    · intro none
      refine event_same ?_
      unfold arrivedReport
      split
      next target travel => exact absurd travel (none target)
      next => rfl
    · intro none
      refine event_same ?_
      simp [pickReport, none]
    · intro none
      refine event_same ?_
      simp [placeReport, none]
    · intro none
      refine event_same ?_
      unfold phaseTimeout
      split
      next p phase => exact absurd phase (none p)
      next => rfl

/-! ### Picks (R145, R146) -/

theorem testStallEnd_kept (s : State) : (testStallEnd s).wou.lambda = s.wou.lambda
    ∧ (testStallEnd s).wou.exitWaiting = s.wou.exitWaiting
    ∧ (exitTableOccupied s = false → (testStallEnd s).wou.stallHold = false) := by
  by_cases ends : s.wou.stallHold = true ∧ exitTableOccupied s = false
  · obtain ⟨hold, lambda, -, waiting, -⟩ := testStallEnd_moves ends.1 ends.2
    exact ⟨lambda, waiting, fun _ => hold⟩
  · have same : testStallEnd s = s := if_neg (by simpa using ends)
    rw [same]
    refine ⟨rfl, rfl, fun clear => ?_⟩
    simpa [clear] using ends

theorem platePicked_wou (s : State) : (platePicked s).wou.lambda = s.wou.lambda
    ∧ (platePicked s).wou.exitWaiting = false
    ∧ (inputActive .washExitPresent s = false → (platePicked s).wou.stallHold = false) := by
  obtain ⟨lambda, waiting, hold⟩ := testStallEnd_kept (modWou (fun w => { w with exitWaiting := false }) s)
  refine ⟨lambda, waiting, fun clear => hold ?_⟩
  have sensor : inputActive .washExitPresent (modWou (fun w => { w with exitWaiting := false }) s) = false := clear
  rw [exitTableOccupied, sensor]
  rfl

/-- The phase a pick commands, or skips to, and its limit (R141). -/
theorem travelThen_place (target : Fin 8) :
    (s.trc.level ≠ target → (travelThen target .place s).trc = { s.trc with
        elevator := .inPhase (.travel target)
        timer := 0
        limit := 2000 * ((s.trc.level.val - target.val) + (target.val - s.trc.level.val)) + 10000 })
    ∧ (s.trc.level = target → (travelThen target .place s).trc = { s.trc with
        elevator := .inPhase .place
        timer := 0
        limit := 18000 }) := by
  constructor
  · intro away
    rw [travelThen_away _ away, commandPhase_trc]
    rfl
  · intro there
    rw [travelThen_there _ there, commandPhase_trc]
    rfl

theorem drawerPicked_done {d : DrawerNo} {k : Slot} {id done : Nat} (at_ : drawerAt s d = .dryDone k id done) :
    drawerPicked d s = setDrawer d (.unloading k id) s := by
  simp [drawerPicked, at_]

/-- Settles O52: a put ends `platePicked`, a take the drawer's `setDrawer`, and `travelThen_place` says what follows. -/
theorem elevatorPicks : Obligations.ElevatorPicks := by
  unfold Obligations.ElevatorPicks
  intro k d s power phase
  refine ⟨?_, ?_⟩
  · intro put
    obtain ⟨v, vEq⟩ : ∃ v, v = platePicked (modTrc (fun t => { t with table := .empty }) s) := ⟨_, rfl⟩
    have picks : pickReport s = travelThen (drawerLevel d) .place v := by simp [pickReport, phase, put, vEq]
    have trc : v.trc = { s.trc with table := .empty } := by simp [vEq, modTrc]
    obtain ⟨lambda, waiting, hold⟩ := platePicked_wou (modTrc (fun t => { t with table := .empty }) s)
    rw [← vEq] at lambda waiting hold
    have level : v.trc.level = s.trc.level := by rw [trc]
    have target : s.trc.level = drawerLevel d ↔ s.trc.level.val = d.val + 1 := Fin.ext_iff
    obtain ⟨away, there⟩ := travelThen_place (s := v) (drawerLevel d)
    have timer : (travelThen (drawerLevel d) .place v).trc.timer = 0 := by
      by_cases at_ : v.trc.level = drawerLevel d
      · rw [there at_]
      · rw [away at_]
    refine ⟨_, (event_on power).trans (congrArg _ picks), ?_, ?_, ?_, timer, ?_, ?_, ?_, ?_, ?_⟩
    · simp [trc]
    · simpa using waiting
    · intro clear
      simpa using hold clear
    · simp [trc]
    · simp [trc]
    · intro off
      have := away (by rw [level, ne_eq, target]; exact off)
      rw [this, level]
      exact ⟨rfl, rfl⟩
    · intro on
      have := there (by rw [level, target]; exact on)
      rw [this]
      exact ⟨rfl, rfl⟩
    · have same : v.wou.lambda = s.wou.lambda := lambda
      refine ⟨by simpa using same, ?_⟩
      simp [vEq]
  · intro id done take at_
    have picks : pickReport s = travelThen 7 .place (setDrawer d (.unloading k id) s) := by
      simp [pickReport, phase, take, drawerPicked_done at_]
    obtain ⟨away, there⟩ := travelThen_place (s := setDrawer d (.unloading k id) s) 7
    refine ⟨_, (event_on power).trans (congrArg _ picks), ?_, ?_, ?_, ?_⟩
    · simp [setDrawer, modDry]
    · intro off
      exact away off
    · intro on
      exact there on
    · simp

/-! ### Places (R145, R146, R117, R124, R130) -/

theorem arbiter_lfn (h : s.lfn.state ≠ .empty) : (arbiter s).lfn = s.lfn := by
  have refused : takeAllowed s = false := by simp [takeAllowed, h]
  unfold arbiter
  split
  · split
    · unfold beginPut
      split
      · rfl
      · simp
    · simp [refused]
  · rfl

theorem elevatorToIdle_lfn (h : s.lfn.state ≠ .empty) : (elevatorToIdle s).lfn = s.lfn :=
  (arbiter_lfn (by simpa using h)).trans (by simp)

/-- The record of a plate laid in a drawer (R117). -/
def laidToDry (p : PlateRecord) : PlateRecord :=
  { p with
    dry := some (newDryPart p)
    state := .drying }

theorem putPlaced_eq {k : Slot} {d : DrawerNo} {p : PlateRecord} {id : Nat} (at_ : plateAt s k = some p)
    (state : p.state = .washExit) (drawer : drawerAt s d = .reserved k id) :
    putPlaced k d s = setDrawer d (.drying k id) (setPlate k (some (laidToDry p)) s) := by
  have moved : movePlate k .washExit .drying (fun r => { r with dry := some (newDryPart r) }) s
      = setPlate k (some (laidToDry p)) s := by
    simp [movePlate, at_, state, laidToDry]
  have still : drawerAt (setPlate k (some (laidToDry p)) s) d = .reserved k id := drawer
  simp [putPlaced, moved, still]

/-- With nothing on offer, a freed drawer has the washout's evaluation find no plate (R97). -/
theorem drawerFreed_eq {k : Slot} {d : DrawerNo} {p : PlateRecord} (at_ : plateAt s k = some p)
    (offered : s.wou.offered = none) : drawerFreed d k s
      = setBlocker .none (refreshOutputs (setDrawer d .free (setPlate k (some { p with drawer := none }) s))) := by
  have modified : modPlate k (fun r => { r with drawer := none }) s = setPlate k (some { p with drawer := none }) s := by
    simp [modPlate, at_]
  have none : (refreshOutputs (setDrawer d .free (setPlate k (some { p with drawer := none }) s))).wou.offered = none := by
    simpa using offered
  rw [drawerFreed, modified, evalAdmission, none]

/-- Settles O53: `putPlaced_eq` and `drawerFreed_eq` say what a place writes; `elevatorToIdle` ends the request. -/
theorem elevatorPlaces : Obligations.ElevatorPlaces := by
  unfold Obligations.ElevatorPlaces
  intro k d p s power phase at_
  refine ⟨?_, ?_⟩
  · intro id put drawer state
    have places : placeReport s
        = elevatorToIdle (setDrawer d (.drying k id) (setPlate k (some (laidToDry p)) s)) := by
      simp [placeReport, phase, put, putPlaced_eq at_ state drawer]
    refine ⟨_, (event_on power).trans (congrArg _ places), ?_, ?_, ?_, ?_, ?_⟩
    · simp [setDrawer, modDry]
    · simp [setPlate, modPtb, laidToDry, newDryPart]
    · simp
    · intro nothing
      have none : NothingToBegin (setDrawer d (.drying k id) (setPlate k (some (laidToDry p)) s)) := by
        rcases nothing with ⟨none, take⟩ | line
        · refine .inl ⟨none, take.congr rfl rfl rfl fun d1 k1 id1 done at1 => ?_⟩
          rw [drawerAt_setDrawer] at at1
          split at at1
          next => cases at1
          next => exact at1
        · exact .inr line
      exact (elevatorToIdle_idle none).1
    · simp
  · intro id take drawer empty offered
    obtain ⟨v, vEq⟩ : ∃ v, v = lfnPlaced k (setBlocker .none (refreshOutputs
        (setDrawer d .free (setPlate k (some { p with drawer := none }) s)))) := ⟨_, rfl⟩
    have places : placeReport s = elevatorToIdle v := by
      simp [placeReport, phase, take, drawerFreed_eq at_ offered, vEq]
    have lfn : v.lfn = { lfnClear s.lfn with incoming := false, plate := some k, state := .check } := by
      simp [vEq, lfnPlaced, modLfn]
    have lfnT : (elevatorToIdle v).lfn = v.lfn := elevatorToIdle_lfn (by rw [lfn]; nofun)
    refine ⟨_, (event_on power).trans (congrArg _ places), ?_, ?_, ?_, ?_, ?_, ?_, ?_, ?_, ?_, ?_⟩
    · simp [vEq, setDrawer, modDry]
    · simp [vEq, setPlate, modPtb]
    · rw [lfnT, lfn]
    · rw [lfnT, lfn]
    · rw [lfnT, lfn]
    · rw [lfnT, lfn]
      rfl
    · rw [lfnT, lfn]
      rfl
    · rw [lfnT, lfn]
      rfl
    · intro nothing
      have none : NothingToBegin v := by
        rcases nothing with put | line
        · exact .inl ⟨by simpa [vEq] using put, .inr (.inl (by rw [lfn]; nofun))⟩
        · exact .inr (by simpa [vEq] using line)
      rw [(elevatorToIdle_idle none).1]
      simp [vEq]
    · simp [vEq]

end Sys2Proof.Machine
end


section
/-! SUPPORT. CAL_WRITE: its checks as the rules word them, and what an accepted write stores and hands on (R31 to R33,
R59). -/
namespace Sys2Proof.Machine
variable {s : State} {g : CalGroups}

/-! ### The checks (R33) -/

theorem mem_lampChannels (c : LampChannel) : c ∈ lampChannels := by cases c <;> simp [lampChannels]

theorem boolOf_isSome (b : Byte) : (boolOf b).isSome = true ↔ b.toNat ≤ 1 := by
  unfold boolOf
  split
  next zero => simp [zero]
  next =>
    split
    next one => simp [one]
    next => simp; omega

theorem replaced_iff (x : Option (LampCal × Byte)) : replaced x = true ↔ ∃ y, x = some y ∧ y.2 = 1#8 := by
  have one (b : Byte) : boolOf b = some true ↔ b = 1#8 := by
    rw [byte_eq_iff b 1 (by decide)]
    unfold boolOf
    split
    next zero => simp [zero]
    next =>
      split
      next h => simp [h]
      next h => simp [h]
  cases x with
  | none => simp [replaced]
  | some y => simp [replaced, one]

/-- The ranges of a lamp group, of the washout group and of the whole write, as R31 to R33 word them. -/
def LampGroupOk (x : LampCal × Byte) : Prop := 1 ≤ x.1.gain ∧ 1 ≤ x.1.eNom ∧ x.2.toNat ≤ 1
def WashGroupOk (w : WashCal) : Prop :=
  600 ≤ w.brushLength ∧ w.brushLength ≤ 2000 ∧ 100 ≤ w.rinseLength ∧ w.rinseLength ≤ 800
    ∧ 40 ≤ w.bathVolume ∧ w.bathVolume ≤ 400 ∧ 5000 ≤ w.lambdaRef ∧ w.lambdaRef ≤ 30000 ∧ 1 ≤ w.lambdaRepl
    ∧ w.lambdaRepl < w.lambdaMax ∧ w.lambdaMax < w.lambdaRef

theorem lampGroupOk_iff (x : LampCal × Byte) : lampGroupOk x = true ↔ LampGroupOk x := by
  simp [lampGroupOk, LampGroupOk, boolOf_isSome, and_assoc]

theorem washGroupOk_iff (w : WashCal) : washGroupOk w = true ↔ WashGroupOk w := by
  simp [washGroupOk, WashGroupOk, and_assoc]

theorem calInRange_iff (p : Byte) : calInRange p g = true ↔ 1 ≤ p.toNat ∧ p.toNat < 64
    ∧ (∀ c x, g.lamps.get c = some x → LampGroupOk x) ∧ (∀ w, g.wash = some w → WashGroupOk w) := by
  have positive : p ≠ 0#8 ↔ 1 ≤ p.toNat := by
    rw [ne_eq, byte_eq_iff p 0 (by decide)]
    omega
  simp only [calInRange, presenceUnknown, Bool.and_eq_true, bne_iff_ne, positive, Bool.not_eq_true', decide_eq_false_iff_not,
    not_le, List.all_eq_true, mem_lampChannels, true_imp_iff, Option.all_eq_true, lampGroupOk_iff, washGroupOk_iff,
    and_assoc]
  rfl

theorem washLengthsBarred_iff : washLengthsBarred g s = true ↔ ∃ w, g.wash = some w ∧ s.wou.list ≠ []
    ∧ (w.brushLength ≠ s.rss.working.cal.wash.brushLength ∨ w.rinseLength ≠ s.rss.working.cal.wash.rinseLength) := by
  unfold washLengthsBarred
  cases wash : g.wash with
  | none => simp
  | some w => simp [washCal]

theorem replacedBarred_iff : replacedBarred g s = true ↔
    ∃ c x, g.lamps.get c = some x ∧ x.2 = 1#8 ∧ lampIsOn c s = true := by
  simp only [replacedBarred, List.any_eq_true, mem_lampChannels, true_and, Bool.and_eq_true, replaced_iff]
  refine exists_congr fun c => ⟨?_, ?_⟩
  · rintro ⟨⟨x, at_, mark⟩, on⟩
    exact ⟨x, at_, mark, on⟩
  · rintro ⟨x, at_, mark, on⟩
    exact ⟨⟨x, at_, mark⟩, on⟩

/-! ### What is stored (R31 to R33) -/

theorem storeCal_lamps (cal : Calibration) (c : LampChannel) :
    (storeCal g cal).lamps.get c = storeLampCal (g.lamps.get c) (cal.lamps.get c) := by
  cases c with
  | back => rfl
  | main => rfl
  | uva => rfl
  | uvc => rfl

theorem clampLampCal_eq (x : LampCal) : clampLampCal x = { x with ratedLife := max 100 (min x.ratedLife 20000) } := by
  simp [clampLampCal, clampNat_eq]

theorem clampWashCal_eq (w : WashCal) : clampWashCal w = { w with
    exchange := max 5 (min w.exchange 50)
    pumpRate := max 5 (min w.pumpRate 60)
    speedBand := min w.speedBand 20
    tempSetpoint := max 20 (min w.tempSetpoint 40) } := by
  simp [clampWashCal, clampNat_eq]

/-! ### Replaced lamps (R33, R59) -/

theorem replaceLamp_times (v : State) (ch c : LampChannel) :
    (replaceLamp g v ch).din.lampOn.get c
      = (if c = ch ∧ replaced (g.lamps.get c) = true then 0 else v.din.lampOn.get c)
    ∧ (replaceLamp g v ch).din.carry.get c
      = (if c = ch ∧ replaced (g.lamps.get c) = true then 0 else v.din.carry.get c) := by
  unfold replaceLamp
  split
  next mark =>
    simp only [askCountersWrite_frame, modDin, PerLamp.get_set]
    by_cases own : c = ch
    · simp [own, mark]
    · simp [own]
  next unmarked =>
    have other : ¬ (c = ch ∧ replaced (g.lamps.get c) = true) := fun h => unmarked (h.1 ▸ h.2)
    simp [other]

theorem replaceLamps_times (l : List LampChannel) (c : LampChannel) (v : State) :
    (l.foldl (replaceLamp g) v).din.lampOn.get c
      = (if c ∈ l ∧ replaced (g.lamps.get c) = true then 0 else v.din.lampOn.get c)
    ∧ (l.foldl (replaceLamp g) v).din.carry.get c
      = (if c ∈ l ∧ replaced (g.lamps.get c) = true then 0 else v.din.carry.get c) := by
  induction l generalizing v with
  | nil => simp
  | cons ch l ih =>
    obtain ⟨lampOn, carry⟩ := replaceLamp_times (g := g) v ch c
    simp only [List.foldl_cons, ih, lampOn, carry, List.mem_cons]
    by_cases mark : replaced (g.lamps.get c) = true
    · by_cases own : c = ch
      · rw [own] at mark
        simp [own, mark]
      · simp [own, mark]
    · simp [mark]

/-! ### An accepted write (R33) -/

/-- The working copy after the write. -/
theorem applyCal_working (g : CalGroups) (s : State) :
    (applyCal g s).rss.working = { s.rss.working with cal := storeCal g s.rss.working.cal }
    ∧ (applyCal g s).rss.unsaved = true ∧ (applyCal g s).rss.bankA = s.rss.bankA
    ∧ (applyCal g s).rss.bankB = s.rss.bankB := by
  have hands (v : State) : (handCal g v).rss = v.rss := by simp
  unfold applyCal
  rw [hands]
  refine ⟨by simp [modRss], rfl, by simp [modRss], by simp [modRss]⟩

theorem applyCal_times (g : CalGroups) (s : State) (c : LampChannel) :
    (applyCal g s).din.lampOn.get c = (if replaced (g.lamps.get c) = true then 0 else s.din.lampOn.get c)
    ∧ (applyCal g s).din.carry.get c = (if replaced (g.lamps.get c) = true then 0 else s.din.carry.get c) := by
  have hands (v : State) : (handCal g v).din = v.din := by simp
  obtain ⟨lampOn, carry⟩ := replaceLamps_times (g := g) lampChannels c
    (modRss (fun r => { r with working := { r.working with cal := storeCal g r.working.cal } }) s)
  simp only [mem_lampChannels, true_and] at lampOn carry
  unfold applyCal
  rw [hands]
  exact ⟨lampOn, carry⟩

/-- Without a washout group no admission is evaluated. -/
theorem applyCal_no_wash (none : g.wash = none) : (applyCal g s).wou = s.wou ∧ (applyCal g s).ptb = s.ptb
    ∧ (applyCal g s).exu = s.exu := by
  have hands (v : State) : (handCal g v).wou = v.wou ∧ (handCal g v).ptb = v.ptb ∧ (handCal g v).exu = v.exu := by
    simp only [handCal, none, Option.isSome_none, Bool.false_eq_true, if_false]
    split
    · split
      · simp
      · simp
    · split
      · simp
      · simp
  obtain ⟨wou, ptb, exu⟩ := hands (markUnsaved (lampChannels.foldl (replaceLamp g)
    (modRss (fun r => { r with working := { r.working with cal := storeCal g r.working.cal } }) s)))
  unfold applyCal
  exact ⟨wou.trans (by simp), ptb.trans (by simp), exu.trans (by simp)⟩

/-- A heater that is ON takes the setpoint stored (R33, R122). -/
theorem applyCal_heater {n : Nat} (dryer : g.dryer = some n) (on : driveIsOn .heater s = true) :
    driveState .heater (applyCal g s) = .on (.value (clampNat 40 70 n)) := by
  obtain ⟨u, uEq⟩ : ∃ u, u = markUnsaved (lampChannels.foldl (replaceLamp g)
    (modRss (fun r => { r with working := { r.working with cal := storeCal g r.working.cal } }) s)) := ⟨_, rfl⟩
  obtain ⟨v, vEq⟩ : ∃ v, v = if carriesLamp g then testLampLife u else u := ⟨_, rfl⟩
  obtain ⟨w, wEq⟩ : ∃ w, w = if g.wash.isSome then evalAdmission v else v := ⟨_, rfl⟩
  have eq : applyCal g s = carrySetpoint w := by
    rw [wEq, vEq, uEq]
    simp only [applyCal, handCal, dryer, Option.isSome_some, if_true]
  have setpoint : dryerSetpoint w = clampNat 40 70 n := by
    have rss : w.rss = u.rss := by
      rw [wEq, vEq]
      split
      · split
        · simp
        · simp
      · split
        · simp
        · rfl
    have working : u.rss.working.cal = storeCal g s.rss.working.cal := by simp [uEq, modRss]
    simp [dryerSetpoint, rss, working, storeCal, dryer]
  have heater : driveState .heater w = driveState .heater s := by
    have testedLamps : driveState .heater v = driveState .heater s := driveState_congr (by
      rw [vEq, uEq]
      split
      · simp
      · simp) _
    rw [wEq]
    split
    · rw [driveState_evalAdmission (by decide) (by decide), testedLamps]
    · exact testedLamps
  have onW : driveIsOn .heater w = true := by
    rw [driveIsOn, heater]
    exact on
  rw [eq, carrySetpoint, driveState_driveSet, if_pos ⟨rfl, onW⟩, setpoint]

/-- Settles O36: the checks of R33 in their order, then what `applyCal` stores, by part. -/
theorem calWrite : Obligations.CalWrite := by
  unfold Obligations.CalWrite
  intro tag p rest g s parsed fits long ready answers lampOk washOk inRange barred
  have bodyOk : bodyFits ⟨51#8, tag, p :: rest⟩ = true := fits
  obtain ⟨u, uEq⟩ : ∃ u, u = serving (.frame ⟨51#8, tag, p :: rest⟩) s := ⟨_, rfl⟩
  have part : actCalWrite (p :: rest) u = actCalGroups p g u := by rw [← parsed]; rfl
  have range : calInRange p g = true ↔ inRange := calInRange_iff p
  have bars : washLengthsBarred g u = true ∨ replacedBarred g u = true ↔ barred := by
    rw [washLengthsBarred_iff, replacedBarred_iff, uEq]
    rfl
  have refused {st : Status} (same : actCalGroups p g u = (u, refusal st)) : answers st :=
    request_answered (uEq ▸ part.trans same) long bodyOk ready
  refine ⟨?_, ?_, ?_⟩
  · intro out
    exact refused (if_neg (range.not.2 out))
  · intro ok bar
    refine refused ?_
    rw [actCalGroups, if_pos (range.2 ok), if_pos (by rw [Bool.or_eq_true]; exact bars.2 bar)]
  · intro ok free
    have accepted : actCalWrite (p :: rest) (serving (.frame ⟨51#8, tag, p :: rest⟩) s)
        = (applyCal g u, okOrClamped (calClamped g) (calGroupFields p g (applyCal g u))) := by
      rw [← uEq, part, actCalGroups, if_pos (range.2 ok), if_neg (by rw [Bool.or_eq_true]; exact bars.not.2 free)]
    obtain ⟨working, unsaved, bankA, bankB⟩ := applyCal_working g u
    have rest : (applyCal g u).din.channels = s.din.channels ∧ (applyCal g u).lfn = s.lfn ∧ (applyCal g u).trc = s.trc
        ∧ (applyCal g u).lio.lamps = s.lio.lamps ∧ (applyCal g u).flt.lineState = s.flt.lineState
        ∧ (applyCal g u).ptb.queue = s.ptb.queue := by simp [uEq, serving]
    obtain ⟨channels, lfn, trc, lamps, line, queue⟩ := rest
    have rssU : u.rss = s.rss := by rw [uEq]; rfl
    have run := request_served accepted (by rw [line]; exact ready.2.1) long bodyOk ready
    have lampGroup (c : LampChannel) : (applyCal g u).rss.working.cal.lamps.get c
        = storeLampCal (g.lamps.get c) (s.rss.working.cal.lamps.get c) := by rw [working, rssU, storeCal_lamps]
    have times (c : LampChannel) := applyCal_times g u c
    have dinU : u.din = s.din := by rw [uEq]; rfl
    rw [dinU] at times
    refine ⟨_, run, unsaved, ?_, ?_, ?_, ?_, ?_, ?_, ?_, ?_, ?_, ?_, channels, lfn, trc, lamps, ?_, ?_, line, queue⟩
    · exact (congrArg (·.recipes) working).trans (by rw [rssU])
    · exact (congrArg (·.cfg) working).trans (by rw [rssU])
    · intro c x at_
      refine (lampGroup c).trans ?_
      rw [at_, storeLampCal, clampLampCal_eq]
    · intro c at_
      refine (lampGroup c).trans ?_
      rw [at_, storeLampCal]
    · intro w at_
      refine (congrArg (·.cal.wash) working).trans ?_
      simp [storeCal, at_, clampWashCal_eq]
    · intro none
      refine ⟨(congrArg (·.cal.wash) working).trans ?_, ?_⟩
      · simp [storeCal, none, rssU]
      · have kept := applyCal_no_wash (s := u) none
        rw [uEq] at kept ⊢
        exact kept
    · intro n at_
      refine ⟨(congrArg (·.cal.dryerSetpoint) working).trans ?_, fun on => ?_⟩
      · simp [storeCal, at_, clampNat_eq]
      · have heater := applyCal_heater (s := u) at_ (by rw [uEq]; exact on)
        rw [clampNat_eq] at heater
        exact heater
    · intro none
      refine (congrArg (·.cal.dryerSetpoint) working).trans ?_
      simp [storeCal, none, rssU]
    · intro c x at_ mark
      have all : replaced (g.lamps.get c) = true := (replaced_iff _).2 ⟨x, at_, mark⟩
      obtain ⟨lampOn, carry⟩ := times c
      exact ⟨lampOn.trans (if_pos all), carry.trans (if_pos all)⟩
    · intro c unmarked
      have none : ¬ replaced (g.lamps.get c) = true := fun all => by
        obtain ⟨x, at_, mark⟩ := (replaced_iff _).1 all
        exact unmarked x at_ mark
      obtain ⟨lampOn, carry⟩ := times c
      exact ⟨lampOn.trans (if_neg none), carry.trans (if_neg none)⟩
    · exact bankA.trans (by rw [rssU])
    · exact bankB.trans (by rw [rssU])

end Sys2Proof.Machine
end


section
/-! SUPPORT. A dryer reading, drawer by drawer: what is accrued, who has dried out, and who is overdried (R118 to R123). -/
namespace Sys2Proof.Machine
variable {s : State} {k : Slot} {d : DrawerNo}

/-! ### Over the drawers -/

/-- What every drawer's step keeps, the fold over the drawers keeps. -/
theorem foldl_drawers_keeps {f : State → DrawerNo → State} {P : State → Prop} (step : ∀ x e, P x → P (f x e)) (start : P s) :
    P (allDrawers.foldl f s) :=
  List.foldlRecOn allDrawers f start fun x hx e _ => step x e hx

/-- What one drawer's step brings about, when the others neither prevent nor undo it. -/
theorem foldl_drawers_at {f : State → DrawerNo → State} {P R : State → Prop} (d : DrawerNo)
    (before : ∀ x e, e ≠ d → P x → P (f x e)) (here : ∀ x, P x → R (f x d)) (after : ∀ x e, e ≠ d → R x → R (f x e))
    (start : P s) : R (allDrawers.foldl f s) := by
  obtain ⟨l1, l2, split⟩ := List.append_of_mem (List.mem_finRange d)
  have nodup : (l1 ++ d :: l2).Nodup := split ▸ List.nodup_finRange 6
  have apart : (∀ e ∈ l1, e ≠ d) ∧ ∀ e ∈ l2, e ≠ d := by
    rw [List.nodup_append, List.nodup_cons] at nodup
    obtain ⟨-, ⟨last, -⟩, disjoint⟩ := nodup
    exact ⟨fun e he => disjoint e he d List.mem_cons_self, fun e he eq => last (eq ▸ he)⟩
  rw [allDrawers, split, List.foldl_append, List.foldl_cons]
  refine List.foldlRecOn l2 f (here _ ?_) fun x hx e he => after x e (apart.2 e he) hx
  exact List.foldlRecOn l1 f start fun x hx e he => before x e (apart.1 e he) hx

/-! ### Accruing (R119) -/

theorem accrueDrawer_not_drying (idle : ∀ k id, drawerAt s d ≠ .drying k id) : accrueDrawer s d = s := by
  unfold accrueDrawer
  split
  next k id at_ => exact absurd at_ (idle k id)
  next => rfl

theorem accrueDrawer_other (other : ∀ id, drawerAt s d ≠ .drying k id) : plateAt (accrueDrawer s d) k = plateAt s k := by
  unfold accrueDrawer
  split
  next j id at_ =>
    have apart : k ≠ j := fun eq => other id (eq ▸ at_)
    rw [modDryPart, plateAt_modPlate, if_neg apart]
  next => rfl

theorem accrueDrawer_self {id : Nat} {p : PlateRecord} {part : DryPart} (at_ : drawerAt s d = .drying k id)
    (record : plateAt s k = some p) (dry : p.dry = some part) :
    plateAt (accrueDrawer s d) k = some { p with dry := some { part with accrued := part.accrued + 1 } } := by
  simp [accrueDrawer, at_, modDryPart, plateAt_modPlate, record, dry]

theorem accrue_other (other : ∀ d id, drawerAt s d ≠ .drying k id) :
    plateAt (allDrawers.foldl accrueDrawer s) k = plateAt s k := by
  refine (foldl_drawers_keeps (P := fun x => x.dry = s.dry ∧ plateAt x k = plateAt s k) (fun x e h => ?_) ⟨rfl, rfl⟩).2
  obtain ⟨dry, same⟩ := h
  refine ⟨by simp [dry], (accrueDrawer_other fun id => ?_).trans same⟩
  rw [drawerAt_congr (congrArg (·.drawers) dry)]
  exact other e id

theorem accrue_self {id : Nat} {p : PlateRecord} {part : DryPart} (at_ : drawerAt s d = .drying k id)
    (only : ∀ e id1, drawerAt s e = .drying k id1 → e = d) (record : plateAt s k = some p) (dry : p.dry = some part) :
    plateAt (allDrawers.foldl accrueDrawer s) k
      = some { p with dry := some { part with accrued := part.accrued + 1 } } := by
  have other (x : State) (e : DrawerNo) (apart : e ≠ d) (kept : x.dry = s.dry) :
      plateAt (accrueDrawer x e) k = plateAt x k := accrueDrawer_other fun id1 drying => by
    rw [drawerAt_congr (congrArg (·.drawers) kept)] at drying
    exact apart (only e id1 drying)
  refine (foldl_drawers_at (P := fun x => x.dry = s.dry ∧ plateAt x k = some p) (R := fun x => x.dry = s.dry ∧
    plateAt x k = some { p with dry := some { part with accrued := part.accrued + 1 } }) d ?_ ?_ ?_ ⟨rfl, record⟩).2
  · rintro x e apart ⟨kept, before⟩
    exact ⟨by simp [kept], (other x e apart kept).trans before⟩
  · rintro x ⟨kept, before⟩
    have drawer : drawerAt x d = .drying k id := (drawerAt_congr (congrArg (·.drawers) kept) d).trans at_
    exact ⟨by simp [kept], accrueDrawer_self drawer before dry⟩
  · rintro x e apart ⟨kept, done⟩
    exact ⟨by simp [kept], (other x e apart kept).trans done⟩

/-! ### Drying out (R119) -/

/-- From `s` to `x` the reading stands and each drawer stands or has dried out at this clock. -/
structure Dried (s x : State) : Prop where
  clock : x.dry.clock = s.dry.clock
  temp : x.dry.temp = s.dry.temp
  tempClass : x.dry.tempClass = s.dry.tempClass
  drawers : ∀ e, drawerAt x e = drawerAt s e
    ∨ ∃ k id, drawerAt s e = .drying k id ∧ drawerAt x e = .dryDone k id s.dry.clock

theorem Dried.refl (s : State) : Dried s s := ⟨rfl, rfl, rfl, fun _ => .inl rfl⟩

variable {x : State}

theorem Dried.drying {id : Nat} (h : Dried s x) (at_ : drawerAt x d = .drying k id) : drawerAt s d = .drying k id := by
  rcases h.drawers d with same | ⟨j, id1, -, done⟩
  · rw [← same, at_]
  · rw [done] at at_
    cases at_

theorem Dried.stands (h : Dried s x) (idle : ∀ k id, drawerAt s d ≠ .drying k id) : drawerAt x d = drawerAt s d := by
  rcases h.drawers d with same | ⟨j, id, drying, -⟩
  · exact same
  · exact absurd drying (idle j id)

theorem Dried.dryDone {id done : Nat} (h : Dried s x) (at_ : drawerAt x d = .dryDone k id done) :
    drawerAt s d = .dryDone k id done ∨ drawerAt s d = .drying k id := by
  rcases h.drawers d with same | ⟨j, id1, drying, dried⟩
  · exact .inl (same ▸ at_)
  · rw [dried] at at_
    cases at_
    exact .inr drying

theorem finishDrying_waits (h : ∀ k id, drawerAt s d = .drying k id → driedOut s k = false) : finishDrying s d = s := by
  unfold finishDrying
  split
  next k id at_ =>
    rw [h k id at_]
    rfl
  next => rfl

theorem finishDrying_done {id : Nat} (at_ : drawerAt s d = .drying k id) (out : driedOut s k = true) :
    (finishDrying s d).dry = (setDrawer d (.dryDone k id s.dry.clock) s).dry
    ∧ ∀ j, plateAt (finishDrying s d) j = plateAt (movePlate k .drying .dryDone (fun r => r) s) j := by
  simp only [finishDrying, at_, out, if_true]
  refine ⟨by simp, fun j => (plateAt_congr (s := movePlate k .drying .dryDone (fun r => r)
    (setDrawer d (.dryDone k id s.dry.clock) s)) (by simp) j).trans ?_⟩
  rw [plateAt_movePlate, plateAt_movePlate]
  rfl

theorem Dried.finish (h : Dried s x) (e : DrawerNo) : Dried s (finishDrying x e) := by
  by_cases out : ∃ k id, drawerAt x e = .drying k id ∧ driedOut x k = true
  · obtain ⟨k, id, at_, out⟩ := out
    obtain ⟨dry, -⟩ := finishDrying_done at_ out
    refine ⟨?_, ?_, ?_, fun c => ?_⟩
    · rw [dry]
      exact h.clock
    · rw [dry]
      exact h.temp
    · rw [dry]
      exact h.tempClass
    · rw [drawerAt_congr (congrArg (·.drawers) dry), drawerAt_setDrawer]
      split
      next own =>
        refine .inr ⟨k, id, own ▸ h.drying at_, by rw [h.clock]⟩
      next => exact h.drawers c
  · rw [finishDrying_waits fun k id at_ => ?_]
    · exact h
    · by_contra done
      exact out ⟨k, id, at_, by simpa using done⟩

theorem finishDrying_other {k : Slot} (other : ∀ id, drawerAt s d ≠ .drying k id) :
    plateAt (finishDrying s d) k = plateAt s k := by
  by_cases out : ∃ j id, drawerAt s d = .drying j id ∧ driedOut s j = true
  · obtain ⟨j, id, at_, out⟩ := out
    have apart : k ≠ j := fun eq => other id (eq ▸ at_)
    rw [(finishDrying_done at_ out).2, plateAt_movePlate, if_neg apart]
  · rw [finishDrying_waits fun k id at_ => ?_]
    by_contra done
    exact out ⟨k, id, at_, by simpa using done⟩

theorem finishDrying_drawer_other {e : DrawerNo} (apart : e ≠ d) : drawerAt (finishDrying s d) e = drawerAt s e := by
  by_cases out : ∃ k id, drawerAt s d = .drying k id ∧ driedOut s k = true
  · obtain ⟨k, id, at_, out⟩ := out
    rw [drawerAt_congr (congrArg (·.drawers) (finishDrying_done at_ out).1), drawerAt_setDrawer, if_neg apart]
  · rw [finishDrying_waits fun k id at_ => ?_]
    by_contra done
    exact out ⟨k, id, at_, by simpa using done⟩

theorem finish_dried (s : State) : Dried s (allDrawers.foldl finishDrying s) :=
  foldl_drawers_keeps (P := Dried s) (fun _ e h => h.finish e) (.refl s)

theorem finish_other (other : ∀ d id, drawerAt s d ≠ .drying k id) :
    plateAt (allDrawers.foldl finishDrying s) k = plateAt s k := by
  refine (foldl_drawers_keeps (P := fun x => Dried s x ∧ plateAt x k = plateAt s k) (fun x e h => ?_) ⟨.refl s, rfl⟩).2
  obtain ⟨dried, same⟩ := h
  exact ⟨dried.finish e, (finishDrying_other fun id at_ => other e id (dried.drying at_)).trans same⟩

/-- What the step of its own drawer leaves of a plate that dries alone under its slot, the others leave it. -/
theorem finish_self {id : Nat} {v : Drawer} {r : Option PlateRecord} (at_ : drawerAt s d = .drying k id)
    (only : ∀ e id1, drawerAt s e = .drying k id1 → e = d)
    (here : ∀ x, Dried s x → drawerAt x d = .drying k id → plateAt x k = plateAt s k →
      drawerAt (finishDrying x d) d = v ∧ plateAt (finishDrying x d) k = r) :
    drawerAt (allDrawers.foldl finishDrying s) d = v ∧ plateAt (allDrawers.foldl finishDrying s) k = r := by
  have other (x : State) (e : DrawerNo) (apart : e ≠ d) (dried : Dried s x) :
      plateAt (finishDrying x e) k = plateAt x k :=
    finishDrying_other fun id1 drying => apart (only e id1 (dried.drying drying))
  refine (foldl_drawers_at (P := fun x => Dried s x ∧ drawerAt x d = .drying k id ∧ plateAt x k = plateAt s k)
    (R := fun x => Dried s x ∧ drawerAt x d = v ∧ plateAt x k = r) d ?_ ?_ ?_ ⟨.refl s, at_, rfl⟩).2
  · rintro x e apart ⟨dried, drawer, plate⟩
    exact ⟨dried.finish e, (finishDrying_drawer_other apart.symm).trans drawer, (other x e apart dried).trans plate⟩
  · rintro x ⟨dried, drawer, plate⟩
    exact ⟨dried.finish d, here x dried drawer plate⟩
  · rintro x e apart ⟨dried, drawer, plate⟩
    exact ⟨dried.finish e, (finishDrying_drawer_other apart.symm).trans drawer, (other x e apart dried).trans plate⟩

/-! ### The overdry test (R123) -/

theorem isOverdry_iff (p : DryPart) (done clock : Nat) :
    isOverdry p done clock = true ↔ 3 * p.required < 2 * (p.accrued + (clock - done)) := by simp [isOverdry]

theorem overdryTest_idle (idle : ∀ k id done, drawerAt s d ≠ .dryDone k id done) : overdryTest s d = s := by
  unfold overdryTest
  split
  next k id done at_ => exact absurd at_ (idle k id done)
  next => rfl

section Waiting
variable {id done : Nat} {p : PlateRecord} {part : DryPart} (at_ : drawerAt s d = .dryDone k id done)
  (record : plateAt s k = some p) (dry : p.dry = some part)
include at_ record dry

theorem overdryTest_stands (short : part.overdry = true ∨ 2 * (part.accrued + (s.dry.clock - done)) ≤ 3 * part.required) :
    overdryTest s d = s := by
  have not : ¬ (part.overdry = false ∧ isOverdry part done s.dry.clock = true) := by
    rw [isOverdry_iff]
    rintro ⟨unmarked, past⟩
    rcases short with marked | short
    · rw [marked] at unmarked
      cases unmarked
    · omega
  have partOf : dryPartOf s k = some part := by simp [dryPartOf, record, dry]
  simp only [overdryTest, at_, partOf, if_neg not]

theorem overdryTest_marks (unmarked : part.overdry = false)
    (past : 3 * part.required < 2 * (part.accrued + (s.dry.clock - done))) :
    overdryTest s d = setFlag .overdry (addNotice k .overdry (modDryPart k (fun q => { q with overdry := true }) s))
    ∧ plateAt (overdryTest s d) k
      = some (appendNotice .overdry { p with dry := some { part with overdry := true } }) := by
  have partOf : dryPartOf s k = some part := by simp [dryPartOf, record, dry]
  have eq : overdryTest s d
      = setFlag .overdry (addNotice k .overdry (modDryPart k (fun q => { q with overdry := true }) s)) := by
    simp only [overdryTest, at_, partOf, if_pos (⟨unmarked, (isOverdry_iff _ _ _).2 past⟩ :
      part.overdry = false ∧ isOverdry part done s.dry.clock = true)]
  refine ⟨eq, ?_⟩
  rw [eq, plateAt_setFlag, addNotice, plateAt_modPlate, if_pos rfl, modDryPart, plateAt_modPlate, if_pos rfl, record]
  simp [dry]

end Waiting

theorem overdryTest_dry (s : State) (d : DrawerNo) : (overdryTest s d).dry = s.dry := by simp

theorem overdryTest_flags (f : Flag) (set : isSet f s = true) : isSet f (overdryTest s d) = true := by
  unfold overdryTest
  split
  · split
    · split
      · rw [isSet_setFlag]
        simpa [isSet, addNotice, modDryPart] using .inr set
      · exact set
    · exact set
  · exact set

theorem overdryTest_other (other : ∀ id done, drawerAt s d ≠ .dryDone k id done) :
    plateAt (overdryTest s d) k = plateAt s k := by
  unfold overdryTest
  split
  next j id done at_ =>
    have apart : k ≠ j := fun eq => other id done (eq ▸ at_)
    split
    · split
      · rw [plateAt_setFlag, addNotice, plateAt_modPlate, if_neg apart, modDryPart, plateAt_modPlate, if_neg apart]
      · rfl
    · rfl
  next => rfl

theorem appendNotice_dry (n : Notice) (r : PlateRecord) : (appendNotice n r).dry = r.dry := by
  unfold appendNotice
  (repeat' split) <;> rfl

/-- The test marks and warns; what a plate has accrued, and where it is, stand. -/
theorem overdryTest_accrued (k : Slot) : (dryPartOf (overdryTest s d) k).map (·.accrued) = (dryPartOf s k).map (·.accrued)
    ∧ plateState (overdryTest s d) k = plateState s k := by
  have marked (j : Slot) : (dryPartOf (setFlag .overdry (addNotice j .overdry (modDryPart j
        (fun q => { q with overdry := true }) s))) k).map (·.accrued) = (dryPartOf s k).map (·.accrued)
      ∧ plateState (setFlag .overdry (addNotice j .overdry (modDryPart j (fun q => { q with overdry := true }) s))) k
        = plateState s k := by
    simp only [dryPartOf, plateState, plateAt_setFlag, addNotice, modDryPart, plateAt_modPlate]
    by_cases own : k = j
    · simp only [own, if_true]
      cases plateAt s j with
      | none => exact ⟨rfl, rfl⟩
      | some p =>
        obtain ⟨state, -, -⟩ := appendNotice_kept .overdry { p with dry := p.dry.map fun q => { q with overdry := true } }
        refine ⟨?_, by simp [state]⟩
        cases dry : p.dry with
        | none => simp [appendNotice_dry, dry]
        | some q => simp [appendNotice_dry, dry]
    · simp [own]
  unfold overdryTest
  split
  · split
    · split
      · exact marked _
      · exact ⟨rfl, rfl⟩
    · exact ⟨rfl, rfl⟩
  · exact ⟨rfl, rfl⟩

theorem overdry_keeps (s : State) : (allDrawers.foldl overdryTest s).dry = s.dry
    ∧ (∀ f, isSet f s = true → isSet f (allDrawers.foldl overdryTest s) = true)
    ∧ (∀ k, (dryPartOf (allDrawers.foldl overdryTest s) k).map (·.accrued) = (dryPartOf s k).map (·.accrued)
        ∧ plateState (allDrawers.foldl overdryTest s) k = plateState s k) := by
  refine foldl_drawers_keeps (P := fun x => x.dry = s.dry ∧ (∀ f, isSet f s = true → isSet f x = true)
    ∧ ∀ k, (dryPartOf x k).map (·.accrued) = (dryPartOf s k).map (·.accrued) ∧ plateState x k = plateState s k)
    (fun x e h => ?_) ⟨rfl, fun _ set => set, fun _ => ⟨rfl, rfl⟩⟩
  obtain ⟨dry, flags, records⟩ := h
  refine ⟨(overdryTest_dry x e).trans dry, fun f set => overdryTest_flags f (flags f set), fun k => ?_⟩
  obtain ⟨accrued, state⟩ := overdryTest_accrued (s := x) (d := e) k
  exact ⟨accrued.trans (records k).1, state.trans (records k).2⟩

theorem overdry_other (other : ∀ d id done, drawerAt s d ≠ .dryDone k id done) :
    plateAt (allDrawers.foldl overdryTest s) k = plateAt s k := by
  refine (foldl_drawers_keeps (P := fun x => x.dry = s.dry ∧ plateAt x k = plateAt s k) (fun x e h => ?_) ⟨rfl, rfl⟩).2
  obtain ⟨dry, same⟩ := h
  refine ⟨(overdryTest_dry x e).trans dry, (overdryTest_other fun id done => ?_).trans same⟩
  rw [drawerAt_congr (congrArg (·.drawers) dry)]
  exact other e id done

/-- The test of a plate that waits alone under its slot is that of its own drawer. -/
theorem overdry_self {id done : Nat} {p : PlateRecord} {part : DryPart} (at_ : drawerAt s d = .dryDone k id done)
    (only : ∀ e id1 done1, drawerAt s e = .dryDone k id1 done1 → e = d) (record : plateAt s k = some p)
    (dry : p.dry = some part) :
    (part.overdry = true ∨ 2 * (part.accrued + (s.dry.clock - done)) ≤ 3 * part.required →
      plateAt (allDrawers.foldl overdryTest s) k = some p)
    ∧ (part.overdry = false → 3 * part.required < 2 * (part.accrued + (s.dry.clock - done)) →
      isSet .overdry (allDrawers.foldl overdryTest s) = true ∧ plateAt (allDrawers.foldl overdryTest s) k
        = some (appendNotice .overdry { p with dry := some { part with overdry := true } })) := by
  have other (x : State) (e : DrawerNo) (apart : e ≠ d) (kept : x.dry = s.dry) :
      plateAt (overdryTest x e) k = plateAt x k := overdryTest_other fun id1 done1 waits => by
    rw [drawerAt_congr (congrArg (·.drawers) kept)] at waits
    exact apart (only e id1 done1 waits)
  have here (x : State) (kept : x.dry = s.dry) : drawerAt x d = .dryDone k id done :=
    (drawerAt_congr (congrArg (·.drawers) kept) d).trans at_
  refine ⟨fun short => ?_, fun unmarked past => ?_⟩
  · refine (foldl_drawers_at (P := fun x => x.dry = s.dry ∧ plateAt x k = some p)
      (R := fun x => x.dry = s.dry ∧ plateAt x k = some p) d ?_ ?_ ?_ ⟨rfl, record⟩).2
    · rintro x e apart ⟨kept, before⟩
      exact ⟨(overdryTest_dry x e).trans kept, (other x e apart kept).trans before⟩
    · rintro x ⟨kept, before⟩
      rw [overdryTest_stands (here x kept) before dry (by rw [kept]; exact short)]
      exact ⟨kept, before⟩
    · rintro x e apart ⟨kept, after⟩
      exact ⟨(overdryTest_dry x e).trans kept, (other x e apart kept).trans after⟩
  · refine (foldl_drawers_at (P := fun x => x.dry = s.dry ∧ plateAt x k = some p)
      (R := fun x => x.dry = s.dry ∧ isSet .overdry x = true
        ∧ plateAt x k = some (appendNotice .overdry { p with dry := some { part with overdry := true } }))
      d ?_ ?_ ?_ ⟨rfl, record⟩).2
    · rintro x e apart ⟨kept, before⟩
      exact ⟨(overdryTest_dry x e).trans kept, (other x e apart kept).trans before⟩
    · rintro x ⟨kept, before⟩
      obtain ⟨eq, marks⟩ := overdryTest_marks (here x kept) before dry unmarked (by rw [kept]; exact past)
      refine ⟨(overdryTest_dry x d).trans kept, ?_, marks⟩
      rw [eq, isSet_setFlag]
      simp
    · rintro x e apart ⟨kept, set, after⟩
      exact ⟨(overdryTest_dry x e).trans kept, overdryTest_flags _ set, (other x e apart kept).trans after⟩

/-! ### The reading (R118) -/

theorem storeReading_dry (n : Nat) (s : State) : (storeReading n s).dry = { s.dry with
    clock := min 4294967295 (s.dry.clock + 1)
    temp := some n
    tempClass := classify (dryerSetpoint s) n } := rfl

theorem Dried.of_dry {u : State} (dry : u.dry = s.dry) (h : Dried u x) : Dried s x := by
  refine ⟨h.clock.trans (by rw [dry]), h.temp.trans (by rw [dry]), h.tempClass.trans (by rw [dry]), fun e => ?_⟩
  have drawers := h.drawers e
  rwa [drawerAt_congr (congrArg (·.drawers) dry), dry] at drawers

theorem dried_of_dry (dry : x.dry = s.dry) : Dried s x := .of_dry dry (.refl x)

theorem inBandReading_dried (s : State) : Dried s (inBandReading s) := by
  unfold inBandReading
  exact .of_dry (by simp) (finish_dried _)

theorem inBandReading_other (other : ∀ d id, drawerAt s d ≠ .drying k id) : plateAt (inBandReading s) k = plateAt s k := by
  unfold inBandReading
  rw [finish_other fun d id => ?_, accrue_other other]
  rw [drawerAt_congr (s := s) (by simp)]
  exact other d id

theorem actOnClass_inBand (s : State) : actOnClass .inBand s = inBandReading s := rfl

theorem actOnClass_dried (c : TempClass) (s : State) : Dried s (actOnClass c s) := by
  cases c with
  | inBand =>
    rw [actOnClass_inBand]
    exact inBandReading_dried s
  | below => exact dried_of_dry (by simp [actOnClass])
  | above => exact dried_of_dry (by simp [actOnClass])
  | none => exact .refl s

theorem actOnClass_other (c : TempClass) (other : ∀ d id, drawerAt s d ≠ .drying k id) :
    plateAt (actOnClass c s) k = plateAt s k := by
  cases c with
  | inBand =>
    rw [actOnClass_inBand]
    exact inBandReading_other other
  | below => exact plateAt_setFlag _ _ _
  | above => exact (plateAt_setFlag _ _ _).trans (plateAt_congr (by simp) _)
  | none => rfl

/-- An IN_BAND reading of a plate that dries alone under its slot (R119). -/
theorem inBandReading_self {id : Nat} {p : PlateRecord} {part : DryPart} (at_ : drawerAt s d = .drying k id)
    (only : ∀ e id1, drawerAt s e = .drying k id1 → e = d) (record : plateAt s k = some p) (state : p.state = .drying)
    (dry : p.dry = some part) :
    (part.accrued + 1 < part.required → drawerAt (inBandReading s) d = .drying k id
      ∧ plateAt (inBandReading s) k = some { p with dry := some { part with accrued := part.accrued + 1 } })
    ∧ (part.required ≤ part.accrued + 1 → drawerAt (inBandReading s) d = .dryDone k id s.dry.clock
      ∧ plateAt (inBandReading s) k = some { p with
          dry := some { part with accrued := part.accrued + 1 }
          state := .dryDone }) := by
  obtain ⟨v, vEq⟩ : ∃ v, v = allDrawers.foldl accrueDrawer s := ⟨_, rfl⟩
  have dryV : v.dry = s.dry := by simp [vEq]
  have drawers (e : DrawerNo) : drawerAt v e = drawerAt s e := drawerAt_congr (congrArg (·.drawers) dryV) e
  have accrued : plateAt v k = some { p with dry := some { part with accrued := part.accrued + 1 } } :=
    vEq ▸ accrue_self at_ only record dry
  have onlyV (e : DrawerNo) (id1 : Nat) (drying : drawerAt v e = .drying k id1) : e = d :=
    only e id1 ((drawers e).symm.trans drying)
  have out (x : State) (same : plateAt x k = plateAt v k) : driedOut x k = decide (part.required ≤ part.accrued + 1) := by
    simp [driedOut, dryPartOf, same, accrued]
  have reading : inBandReading s = allDrawers.foldl finishDrying v := by rw [vEq, inBandReading]
  rw [reading]
  refine ⟨fun short => ?_, fun reached => ?_⟩
  · refine finish_self ((drawers d).trans at_) onlyV fun x _ drawer same => ?_
    have waits : finishDrying x d = x := finishDrying_waits fun j id1 drying => by
      rw [drawer] at drying
      cases drying
      rw [out x same]
      exact decide_eq_false (by omega)
    rw [waits]
    exact ⟨drawer, same.trans accrued⟩
  · refine finish_self ((drawers d).trans at_) onlyV fun x dried drawer same => ?_
    obtain ⟨dryX, plates⟩ := finishDrying_done drawer ((out x same).trans (decide_eq_true reached))
    refine ⟨?_, ?_⟩
    · rw [drawerAt_congr (congrArg (·.drawers) dryX), drawerAt_setDrawer, if_pos rfl, dried.clock, dryV]
    · rw [plates, plateAt_movePlate, if_pos rfl, same, accrued]
      simp [state]

/-- Settles O50: the class's action by drawer, with the drying plates apart, then the overdry test by drawer. -/
theorem dryerReadings : Obligations.DryerReadings := by
  unfold Obligations.DryerReadings
  refine ⟨?_, ?_⟩
  · intro x s power line apart sp clock
    obtain ⟨r, rEq⟩ : ∃ r, r = storeReading x.toNat s := ⟨_, rfl⟩
    obtain ⟨a, aEq⟩ : ∃ a, a = actOnClass (classify (dryerSetpoint s) x.toNat) r := ⟨_, rfl⟩
    have runs : exec (.dryerReading x) s = .next (allDrawers.foldl overdryTest a) := by
      refine (event_on power).trans ?_
      have taken : readingsTaken s = true := by simp [readingsTaken, line]
      rw [if_pos taken, aEq, rEq]
      rfl
    have dryR : r.dry = { s.dry with
        clock := clock
        temp := some x.toNat
        tempClass := classify (dryerSetpoint s) x.toNat } := by rw [rEq, storeReading_dry]
    have drawersR (e : DrawerNo) : drawerAt r e = drawerAt s e := drawerAt_congr (by rw [dryR]) e
    have platesR (k : Slot) : plateAt r k = plateAt s k := plateAt_congr (by simp [rEq]) k
    have dried : Dried r a := aEq ▸ actOnClass_dried _ r
    obtain ⟨dryT, flags, records⟩ := overdry_keeps a
    have drawersT (e : DrawerNo) : drawerAt (allDrawers.foldl overdryTest a) e = drawerAt a e :=
      drawerAt_congr (congrArg (·.drawers) dryT) e
    have drivesT : (allDrawers.foldl overdryTest a).lio.drives = a.lio.drives := by simp
    have still (k : Slot) (other : ∀ d id, drawerAt s d ≠ .drying k id) : plateAt a k = plateAt s k := by
      rw [aEq, actOnClass_other _ fun d id => ?_, platesR]
      rw [drawersR]
      exact other d id
    have below (h : x.toNat + 5 < sp) : a = setFlag .dryerUndertemp r := by
      rw [aEq, classify, if_pos (show x.toNat + Config.dryerBand < dryerSetpoint s from h)]
      rfl
    have above (h : sp + 5 < x.toNat) : a = aboveReading r := by
      have notLow : ¬ x.toNat + 5 < sp := by omega
      rw [aEq, classify, if_neg (show ¬ x.toNat + Config.dryerBand < dryerSetpoint s from notLow),
        if_pos (show dryerSetpoint s + Config.dryerBand < x.toNat from h)]
      rfl
    refine ⟨_, runs, ?_, ?_, ?_, ?_, ?_, ?_, ?_, ?_, ?_⟩
    · rw [dryT, dried.clock, dryR]
    · rw [dryT, dried.temp, dryR]
    · rw [dryT, dried.tempClass, dryR]
      rfl
    · intro low
      have eq := below low
      refine ⟨flags _ ?_, ?_, ?_⟩
      · rw [eq, isSet_setFlag]
        simp
      · rw [dryT, eq]
        simp [dryR]
      · rw [driveState_congr drivesT, eq]
        exact driveState_congr (by simp [rEq]) _
    · intro high
      have eq := above high
      refine ⟨flags _ ?_, ?_, ?_⟩
      · rw [eq, aboveReading, isSet_setFlag]
        simp
      · rw [driveIsOn_congr drivesT, eq]
        exact (driveIsOn_congr (by simp [aboveReading]) _).trans (driveOff_off .heater r)
      · rw [dryT, eq]
        simp [dryR]
    · intro low high d k id p part at_ record state dry
      have only (e : DrawerNo) (id1 : Nat) (drying : drawerAt r e = .drying k id1) : e = d := by
        rw [drawersR] at drying
        exact (apart d e k id at_ (.inl ⟨id1, drying⟩)).symm
      have eq : a = inBandReading r := by
        rw [aEq, classify, if_neg (show ¬ x.toNat + Config.dryerBand < dryerSetpoint s from not_lt.2 low),
          if_neg (show ¬ dryerSetpoint s + Config.dryerBand < x.toNat from not_lt.2 high), actOnClass_inBand]
      obtain ⟨short, reached⟩ := inBandReading_self (s := r) ((drawersR d).trans at_) only ((platesR k).trans record) state dry
      rw [← eq] at short reached
      refine ⟨fun h => ?_, fun h => ?_⟩
      · obtain ⟨drawer, plate⟩ := short h
        refine ⟨(drawersT d).trans drawer, (overdry_other fun e id1 done waits => ?_).trans plate⟩
        rcases dried.dryDone waits with before | drying
        · rw [drawersR] at before
          have own := apart d e k id at_ (.inr ⟨id1, done, before⟩)
          rw [← own, at_] at before
          cases before
        · have own := only e id1 drying
          rw [own, drawer] at waits
          cases waits
      · obtain ⟨drawer, plate⟩ := reached h
        obtain ⟨accrued, stateT⟩ := records k
        refine ⟨(drawersT d).trans (drawer.trans (by rw [dryR])), ?_, ?_⟩
        · rw [stateT, plateState, plate]
          rfl
        · rw [accrued, dryPartOf, plate]
          rfl
    · intro out k
      have plates : plateAt a k = plateAt s k := by
        rcases out with low | high
        · rw [below low, plateAt_setFlag, platesR]
        · rw [above high, aboveReading, plateAt_setFlag, ← platesR]
          exact plateAt_congr (by simp) k
      have drawers (e : DrawerNo) : drawerAt a e = drawerAt s e := by
        rw [← drawersR]
        rcases out with low | high
        · rw [below low]
          exact drawerAt_congr (by simp) e
        · rw [above high]
          exact drawerAt_congr (by simp) e
      refine ⟨?_, fun none => ?_⟩
      · rw [(records k).1, dryPartOf, plates]
        rfl
      · refine (overdry_other fun e id done => ?_).trans plates
        rw [drawers]
        exact none e id done
    · intro d k id done at_ p record part dry only
      have idle (e : DrawerNo) (id1 : Nat) : drawerAt s e ≠ .drying k id1 := fun drying => by
        have own := apart e d k id1 drying (.inr ⟨id, done, at_⟩)
        rw [own, at_] at drying
        cases drying
      have drawer : drawerAt a d = .dryDone k id done := by
        rw [dried.stands fun j id1 => ?_, drawersR, at_]
        rw [drawersR, at_]
        nofun
      have onlyA (e : DrawerNo) (id1 done1 : Nat) (waits : drawerAt a e = .dryDone k id1 done1) : e = d := by
        rcases dried.dryDone waits with before | drying
        · rw [drawersR] at before
          exact only e id1 done1 before
        · rw [drawersR] at drying
          exact absurd drying (idle e id1)
      have test := overdry_self drawer onlyA ((still k idle).trans record) dry
      rw [dried.clock, dryR] at test
      exact ⟨(drawersT d).trans drawer, test⟩
    · simp [aEq, rEq]
  · intro d k id done p part s at_ record dry
    refine ⟨fun short => overdryTest_stands at_ record dry short, fun unmarked past => ?_⟩
    obtain ⟨eq, marks⟩ := overdryTest_marks at_ record dry unmarked past
    refine ⟨marks, ?_, overdryTest_dry s d, fun j other => ?_⟩
    · rw [eq, isSet_setFlag]
      simp
    · rw [eq, plateAt_setFlag, addNotice, plateAt_modPlate, if_neg other, modDryPart, plateAt_modPlate, if_neg other]

end Sys2Proof.Machine
end


section
/-! SUPPORT. OUTPUT_SET, line by line (R164). -/
namespace Sys2Proof.Machine
variable {s : State}

/-! ### The pairs of the body (R195) -/

/-- The body that carries a list of pairs, and the pairs as the request reads them. -/
def pairBytes (pairs : List (Byte × Byte)) : List Byte := pairs.flatMap fun p => [p.1, p.2]
def readPairs (pairs : List (Byte × Byte)) : List (Nat × Byte) := pairs.map fun p => (p.1.toNat, p.2)

theorem pairsOf_pairBytes (pairs : List (Byte × Byte)) : pairsOf (pairBytes pairs) = readPairs pairs := by
  induction pairs with
  | nil => rfl
  | cons p pairs ih =>
    show (p.1.toNat, p.2) :: pairsOf (pairBytes pairs) = (p.1.toNat, p.2) :: readPairs pairs
    rw [ih]

theorem pairBytes_length (pairs : List (Byte × Byte)) : (pairBytes pairs).length = 2 * pairs.length := by
  simp [pairBytes, List.length_flatMap, mul_comm]

/-- The pairs R164 takes. -/
def PairsOk (pairs : List (Byte × Byte)) : Prop :=
  (∀ p ∈ pairs, 1 ≤ p.1.toNat ∧ p.1.toNat ≤ 8 ∧ p.2.toNat ≤ 1) ∧ (pairs.map (·.1)).Nodup

theorem pairsOk_iff (pairs : List (Byte × Byte)) : pairsOk (readPairs pairs) = true ↔ PairsOk pairs := by
  have lines : (readPairs pairs).map (·.1) = (pairs.map (·.1)).map BitVec.toNat := by simp [readPairs, Function.comp_def]
  have apart : ((pairs.map (·.1)).map BitVec.toNat).Nodup ↔ (pairs.map (·.1)).Nodup :=
    List.nodup_map_iff fun _ _ same => BitVec.eq_of_toNat_eq same
  simp only [pairsOk, Bool.and_eq_true, decide_eq_true_eq, lines, apart, PairsOk, List.all_eq_true, boolOf_isSome, and_assoc]
  simp only [readPairs, List.forall_mem_map]

/-! ### Over the pairs -/

/-- A fold whose step for `p` acts on one line, as `g p` says, acts on each line by its only pair. -/
theorem foldl_lines {α : Type} {f : State → α → State} {g : α → OutputLine → OutputLine} {line : α → Fin 8}
    {P : State → Prop} (keeps : ∀ x p, P x → P (f x p))
    (step : ∀ x p i, P x → outputAt (f x p) i = if i = line p then g p (outputAt x i) else outputAt x i)
    {named : Fin 8 → α → Bool} (l : List α) (names : ∀ p ∈ l, ∀ i, named i p = true ↔ line p = i)
    (apart : l.Pairwise fun p q => line p ≠ line q) (start : P s) (i : Fin 8) :
    P (l.foldl f s) ∧ outputAt (l.foldl f s) i = (match l.find? (named i) with
      | none => outputAt s i
      | some p => g p (outputAt s i)) := by
  induction l generalizing s with
  | nil => exact ⟨start, rfl⟩
  | cons p l ih =>
    obtain ⟨distinct, rest⟩ := List.pairwise_cons.1 apart
    obtain ⟨kept, at_⟩ := ih (fun q hq => names q (List.mem_cons_of_mem p hq)) rest (keeps s p start)
    refine ⟨kept, ?_⟩
    rw [List.foldl_cons, at_, step s p i start]
    have named_p := names p List.mem_cons_self i
    by_cases own : line p = i
    · have none : l.find? (named i) = none := by
        refine List.find?_eq_none.2 fun q hq is => distinct q hq ?_
        rw [own, (names q (List.mem_cons_of_mem p hq) i).1 is]
      rw [none, List.find?_cons_of_pos (named_p.2 own), if_pos own.symm]
    · rw [List.find?_cons_of_neg (named_p.not.2 own), if_neg fun eq => own eq.symm]

/-! ### Storing and applying (R164) -/

theorem outputAt_storeUser (x : State) (p : Nat × Byte) (i : Fin 8) : outputAt (storeUser x p) i
    = if i = pairLine p then { outputAt x i with user := boolOf p.2 == some true } else outputAt x i := by
  rw [storeUser, outputAt_setOutput]
  split
  next own => rw [own]
  next => rfl

/-- What R163 makes of a line whose source is USER. -/
def appliedOutput (s : State) (i : Fin 8) (o : OutputLine) : OutputLine :=
  if (outputCfg s i).source = .user ∧ o.hold = none ∧ (o.user != (outputCfg s i).invert) ≠ o.driven then
    { o with
      driven := !o.driven
      hold := if (outputCfg s i).minPulse = 0 then none else some 0 }
  else o

theorem settledOutput_user (i : Fin 8) (o : OutputLine) (user : (outputCfg s i).source = .user) :
    settledOutput s (outputCfg s i) o = appliedOutput s i o := by
  have wanted : wantedState s (outputCfg s i) o.user = (o.user != (outputCfg s i).invert) := by
    simp [wantedState, user, sourceActive]
  unfold settledOutput appliedOutput
  split
  next n held => simp [held]
  next free =>
    rw [wanted]
    by_cases same : (o.user != (outputCfg s i).invert) = o.driven
    · simp [same]
    · have change : (outputCfg s i).source = .user ∧ o.hold = none ∧ (o.user != (outputCfg s i).invert) ≠ o.driven :=
        ⟨user, free, same⟩
      rw [if_neg same, if_pos change, Bool.eq_not.2 same]

theorem outputAt_applyUser (x : State) (rss : x.rss = s.rss) (p : Nat × Byte) (i : Fin 8) : outputAt (applyUser x p) i
    = if i = pairLine p then appliedOutput s i (outputAt x i) else outputAt x i := by
  have cfg (j : Fin 8) : outputCfg x j = outputCfg s j := by rw [outputCfg, rss]; rfl
  have applied (j : Fin 8) (o : OutputLine) : appliedOutput x j o = appliedOutput s j o := by
    simp only [appliedOutput, cfg]
  unfold applyUser
  split
  next user =>
    rw [refreshOutput, outputAt_setOutput, settledOutput_user _ _ user]
    split
    next own => rw [own, applied]
    next => rfl
  next other =>
    split
    next own => rw [appliedOutput, if_neg fun h => other (by rw [cfg, ← own]; exact h.1)]
    next => rfl

/-- From `s` to `x` only the output lines have changed. -/
def OnlyOutputs (s x : State) : Prop := x = { s with lio := { s.lio with outputs := x.lio.outputs } }

theorem OnlyOutputs.setOutput {x : State} (h : OnlyOutputs s x) (i : Fin 8) (v : OutputLine) :
    OnlyOutputs s (setOutput i v x) := by
  unfold OnlyOutputs at h ⊢
  rw [h]
  rfl

theorem OnlyOutputs.rss {x : State} (h : OnlyOutputs s x) : x.rss = s.rss := by rw [h]

theorem OnlyOutputs.storeUser {x : State} (h : OnlyOutputs s x) (p : Nat × Byte) : OnlyOutputs s (storeUser x p) :=
  h.setOutput _ _

theorem OnlyOutputs.applyUser {x : State} (h : OnlyOutputs s x) (p : Nat × Byte) : OnlyOutputs s (applyUser x p) := by
  unfold Machine.applyUser
  split
  · exact h.setOutput _ _
  · exact h

theorem setUsers_lines {pairs : List (Byte × Byte)} (ok : PairsOk pairs) (i : Fin 8) :
    OnlyOutputs s (setUsers (readPairs pairs) s)
    ∧ outputAt (setUsers (readPairs pairs) s) i = (match pairs.find? (fun p => p.1.toNat == i.val + 1) with
      | none => outputAt s i
      | some p => appliedOutput s i { outputAt s i with user := p.2.toNat == 1 }) := by
  obtain ⟨range, apart⟩ := ok
  have names (p : Byte × Byte) (hp : p ∈ pairs) (j : Fin 8) :
      (p.1.toNat == j.val + 1) = true ↔ pairLine (p.1.toNat, p.2) = j := by
    obtain ⟨low, high, -⟩ := range p hp
    simp only [pairLine, lineIndex, Fin.ext_iff, beq_iff_eq]
    omega
  have distinct : pairs.Pairwise fun p q => pairLine (p.1.toNat, p.2) ≠ pairLine (q.1.toNat, q.2) := by
    refine (List.pairwise_map.1 apart).imp_of_mem fun {p q} hp hq differ same => differ ?_
    have line := beq_iff_eq.1 ((names p hp _).2 same)
    have own := beq_iff_eq.1 ((names q hq _).2 rfl)
    exact BitVec.eq_of_toNat_eq (line.trans own.symm)
  have value (p : Byte × Byte) (hp : p ∈ pairs) : (boolOf p.2 == some true) = (p.2.toNat == 1) := by
    obtain ⟨-, -, bit⟩ := range p hp
    unfold boolOf
    split
    next zero => simp [zero]
    next more => simp [show p.2.toNat = 1 by omega]
  obtain ⟨v, vEq⟩ : ∃ v, v = (readPairs pairs).foldl storeUser s := ⟨_, rfl⟩
  have stored := foldl_lines (s := s) (f := fun x p => storeUser x (p.1.toNat, p.2))
    (g := fun p o => { o with user := boolOf p.2 == some true }) (P := OnlyOutputs s) (fun x p h => h.storeUser _)
    (fun x p j _ => outputAt_storeUser x _ j) (named := fun j p => p.1.toNat == j.val + 1) pairs names distinct rfl i
  have eqV : v = pairs.foldl (fun x p => storeUser x (p.1.toNat, p.2)) s := by rw [vEq, readPairs, List.foldl_map]
  rw [← eqV] at stored
  obtain ⟨only, at_⟩ := stored
  have applied := foldl_lines (s := v) (f := fun x p => applyUser x (p.1.toNat, p.2))
    (g := fun p o => appliedOutput s (pairLine (p.1.toNat, p.2)) o) (P := OnlyOutputs s) (fun x p h => h.applyUser _)
    (fun x p j h => by
      rw [outputAt_applyUser x h.rss]
      split
      next own => rw [← own]
      next => rfl) (named := fun j p => p.1.toNat == j.val + 1) pairs names distinct only i
  have eq : setUsers (readPairs pairs) s = pairs.foldl (fun x p => applyUser x (p.1.toNat, p.2)) v := by
    rw [setUsers, ← vEq, readPairs, List.foldl_map]
  rw [← eq, at_] at applied
  refine ⟨applied.1, applied.2.trans ?_⟩
  cases found : pairs.find? (fun p => p.1.toNat == i.val + 1) with
  | none => rfl
  | some p =>
    have member := List.mem_of_find?_eq_some found
    have line := (names p member i).1 (List.find?_some (p := fun q : Byte × Byte => q.1.toNat == i.val + 1) found)
    simp only [line, value p member]

/-- Settles O20: `setUsers_lines` says what the accepted pairs leave of each line. -/
theorem outputSet : Obligations.OutputSet := by
  unfold Obligations.OutputSet
  intro tag pairs s few ready
  have long : (pairBytes pairs).length ≤ 298 := by rw [pairBytes_length]; omega
  have fits : bodyFits ⟨98#8, tag, pairBytes pairs⟩ = true := by
    show outputSetFits (pairBytes pairs) = true
    simp only [outputSetFits, pairBytes_length, Bool.and_eq_true, beq_iff_eq, decide_eq_true_eq]
    omega
  obtain ⟨u, uEq⟩ : ∃ u, u = serving (.frame ⟨98#8, tag, pairBytes pairs⟩) s := ⟨_, rfl⟩
  have part : actOutputSet (pairBytes pairs) u = if pairsOk (readPairs pairs) then (setUsers (readPairs pairs) u,
      okReply (outputFields (setUsers (readPairs pairs) u))) else (u, refusal .badField) := by
    rw [actOutputSet, pairsOf_pairBytes]
  refine ⟨fun bad => ?_, fun ok => ?_⟩
  · rw [if_neg ((pairsOk_iff pairs).not.2 bad), uEq] at part
    exact request_answered part long fits ready
  · rw [if_pos ((pairsOk_iff pairs).2 ok), uEq] at part
    have only := (setUsers_lines (s := u) ok 0).1
    have lines (i : Fin 8) := (setUsers_lines (s := u) ok i).2
    rw [uEq] at only lines
    have line : (setUsers (readPairs pairs) (serving (.frame ⟨98#8, tag, pairBytes pairs⟩) s)).flt.lineState ≠ .init := by
      rw [only]
      exact ready.2.1
    have run := request_served part line long fits ready
    refine ⟨(setUsers (readPairs pairs) (serving (.frame ⟨98#8, tag, pairBytes pairs⟩) s)).lio.outputs, ?_, fun i => ?_⟩
    · refine run.trans ?_
      rw [only]
      rfl
    · refine (lines i).trans ?_
      cases pairs.find? (fun p => p.1.toNat == i.val + 1) with
      | none => rfl
      | some p => rfl

end Sys2Proof.Machine
end


section
/-! SUPPORT. The sizes of the plates stand (R89), and what FAULT_CLEAR's conditions rest on (R180, R183). -/
namespace Sys2Proof.Machine
variable {s t u : State}

/-! ### The sizes of the plates (R89) -/

/-- From `s` to `t` no record comes, goes or changes its size. -/
def SameLoads (s t : State) : Prop := ∀ k, (plateAt t k).map removedVolume = (plateAt s k).map removedVolume

namespace SameLoads

theorem of_plates (h : t.ptb.plates = s.ptb.plates) : SameLoads s t := fun k => by rw [plateAt_congr h]

theorem refl (s : State) : SameLoads s s := fun _ => rfl

theorem trans (h : SameLoads s t) (g : SameLoads t u) : SameLoads s u := fun k => (g k).trans (h k)

theorem of_answer {α : Type} {x : State × α} {a : α} (eq : x = (t, a)) (h : SameLoads s x.1) : SameLoads s t := by
  rw [eq] at h
  exact h

end SameLoads

theorem sameLoads_modPlate (k : Slot) {f : PlateRecord → PlateRecord} (kept : ∀ p, removedVolume (f p) = removedVolume p)
    (s : State) : SameLoads s (modPlate k f s) := fun j => by
  rw [plateAt_modPlate]
  split
  next own =>
    rw [own]
    cases plateAt s k with
    | none => rfl
    | some p => exact congrArg some (kept p)
  next => rfl

theorem sameLoads_modResult (k : Slot) (ch : LampChannel) (f : RunResult → RunResult) (s : State) :
    SameLoads s (modResult k ch f s) :=
  sameLoads_modPlate (f := fun p => { p with results := p.results.set ch (f (p.results.get ch)) }) k (fun _ => rfl) s

theorem removedVolume_appendNotice (n : Notice) (p : PlateRecord) :
    removedVolume (appendNotice n p) = removedVolume p := by
  unfold appendNotice
  (repeat' split) <;> rfl

theorem sameLoads_addNotice (k : Slot) (n : Notice) (s : State) : SameLoads s (addNotice k n s) :=
  sameLoads_modPlate k (removedVolume_appendNotice n) s

theorem sameLoads_movePlate (k : Slot) (src dst : PlateState) {f : PlateRecord → PlateRecord}
    (kept : ∀ p, removedVolume { f p with state := dst } = removedVolume p) (s : State) :
    SameLoads s (movePlate k src dst f s) := fun j => by
  rw [plateAt_movePlate]
  split
  next own =>
    rw [own]
    cases plateAt s k with
    | none => rfl
    | some p =>
      simp only [Option.map_some]
      split
      · exact congrArg some (kept p)
      · rfl
  next => rfl

theorem sameLoads_holdPlate (k : Slot) (at_ : Station) (reason : HoldReason) (s : State) :
    SameLoads s (holdPlate k at_ reason s) := fun j => by
  rw [plateAt_holdPlate]
  split
  next own =>
    rw [own]
    cases plateAt s k with
    | none => rfl
    | some p =>
      simp only [Option.map_some]
      split
      · exact congrArg some (removedVolume_appendNotice _ _)
      · rfl
  next => rfl

theorem sameLoads_startSegment (ch : LampChannel) (r : RunRecord) (s : State) : SameLoads s (startSegment ch r s).1 := by
  have warned (v : State) : SameLoads v (if lampPast v ch then addNotice r.slot .lampLife v else v) := by
    split
    · exact sameLoads_addNotice _ _ v
    · exact .refl v
  have resumes (b : Bool) (v : State) : SameLoads v (if b then modDin (fun d => { d with traceActive := true }) v else v) := by
    split
    · exact .of_plates rfl
    · exact .refl v
  cases allowed : segmentAllowed ch s with
  | false =>
    have refused : startSegment ch r s = (setChannel ch (.paused r) s, false) := by simp [startSegment, allowed]
    rw [refused]
    exact .of_plates rfl
  | true =>
    obtain ⟨v, before, started⟩ : ∃ v, SameLoads s v ∧ startSegment ch r s =
        (if lampIsOn ch (lampOn ch r.level v) then
          (setChannel ch (.integrating (freshSegment (recordingResumes s) r)) (lampOn ch r.level v), true)
        else (setChannel ch (.paused { freshSegment (recordingResumes s) r with segment := r.segment })
          (modResult r.slot ch (fun x => { x with segments := r.segment }) (lampOn ch r.level v)), false)) := by
      unfold startSegment
      rw [if_pos allowed]
      exact ⟨_, ((sameLoads_modResult _ _ _ _).trans (resumes _ _)).trans (warned _), rfl⟩
    have lit : SameLoads s (lampOn ch r.level v) := before.trans (.of_plates (by simp))
    rw [started]
    split
    · exact lit.trans (.of_plates rfl)
    · exact (lit.trans (sameLoads_modResult _ _ _ _)).trans (.of_plates rfl)

theorem sameLoads_startRun (ch : LampChannel) (k : Slot) (s : State) : SameLoads s (startRun ch k s).1 := by
  unfold startRun
  split
  · exact .refl s
  next p _ =>
    split
    · split
      · exact (sameLoads_modResult k ch _ s).trans (.of_plates rfl)
      · have started := sameLoads_startSegment ch (openRun k p ch (lampCal s ch).eNom) s
        split
        next eq => exact .of_answer eq started
        next eq => exact .of_answer eq started
    · exact .refl s

theorem sameLoads_continueRun (ch : LampChannel) (k : Slot) (extension : Nat) (s : State) :
    SameLoads s (continueRun ch k extension s).1 := by
  unfold continueRun
  split
  next r ending _ =>
    split
    · have started := (sameLoads_modResult k ch (fun x => { x with outcome := .notRun }) s).trans
        (sameLoads_startSegment ch { r with nCap := r.nCap + capRaise r.nNom extension } _)
      split
      next eq => exact .of_answer eq started
      next eq => exact .of_answer eq started
    · exact .refl s
  next => exact .refl s

theorem sameLoads_askFresh (ch : LampChannel) (k : Slot) (s : State) : SameLoads s (askFresh ch k s).1 := by
  have starts : SameLoads s (askStart ch k s).1 := by
    have run := sameLoads_startRun ch k s
    unfold askStart
    split
    next eq => exact .of_answer eq run
    next eq => exact .of_answer eq run
    next eq => exact .of_answer eq run
    next eq => exact .of_answer eq run
  unfold askFresh
  split
  next r _ =>
    split
    · have segment := sameLoads_startSegment ch r s
      unfold askSegment
      split
      next eq => exact .of_answer eq segment
      next eq => exact .of_answer eq segment
    · exact starts
  next => exact starts

theorem sameLoads_exuRequest (ch : LampChannel) (k : Slot) (s : State) : SameLoads s (exuRequest ch k s).1 := by
  have continued := sameLoads_continueRun ch k s.exu.extension s
  unfold exuRequest
  split
  · split
    next eq => exact (SameLoads.of_answer eq continued).trans (.of_plates rfl)
    next eq => exact (SameLoads.of_answer eq continued).trans (.of_plates rfl)
    next eq => exact .of_answer eq continued
  · exact sameLoads_askFresh ch k s

theorem sameLoads_exuAnswer (k : Slot) (x : State × WorkAnswer) : SameLoads x.1 (exuAnswer k x) := by
  unfold exuAnswer
  split
  · exact .of_plates rfl
  · exact .refl _
  · exact .refl _
  · exact (sameLoads_holdPlate k .exu _ _).trans (.of_plates rfl)

theorem sameLoads_askMain (s : State) : SameLoads s (askMain s) := by
  unfold askMain
  split
  · split
    · exact (sameLoads_exuRequest .main _ s).trans (sameLoads_exuAnswer _ _)
    · exact .refl s
  · exact .refl s

theorem sameLoads_askExposure (s : State) : SameLoads s (askExposure s) := by
  unfold askExposure
  split
  · exact sameLoads_askMain s
  · split
    · split
      next k _ =>
        have asked := sameLoads_exuRequest .back k s
        split
        next skipped =>
          exact ((SameLoads.of_answer skipped asked).trans (.of_plates rfl)).trans (sameLoads_askMain _)
        next => exact asked.trans (sameLoads_exuAnswer k _)
      next => exact .refl s
    · exact .refl s
  · exact .refl s

theorem sameLoads_lfnEnterHeld (k : Slot) (reason : HoldReason) (s : State) : SameLoads s (lfnEnterHeld k reason s) :=
  (sameLoads_holdPlate k .lfn reason s).trans (.of_plates rfl)

theorem sameLoads_lfnAnswer (c : FinisherLamp) (k : Slot) (x : State × WorkAnswer) : SameLoads x.1 (lfnAnswer c k x) := by
  unfold lfnAnswer
  split
  · exact .of_plates rfl
  · exact .refl _
  · exact .of_plates rfl
  · exact SameLoads.trans (.of_plates rfl) (sameLoads_lfnEnterHeld k _ _)

theorem sameLoads_lfnWaits (c : FinisherLamp) (k : Slot) (s : State) : SameLoads s (lfnWaits c k s) := .of_plates (by simp)

theorem sameLoads_askFinisherChannel (c : FinisherLamp) (s : State) : SameLoads s (askFinisherChannel c s) := by
  unfold askFinisherChannel
  split
  · exact .refl s
  next k _ =>
    split
    · split
      next =>
        have asked := sameLoads_askFresh c.channel k s
        split
        next eq => exact (SameLoads.of_answer eq asked).trans (sameLoads_lfnWaits _ _ _)
        next => exact asked.trans (sameLoads_lfnAnswer c k _)
      next =>
        have asked := sameLoads_askFresh c.channel k s
        split
        next eq => exact (SameLoads.of_answer eq asked).trans (sameLoads_lfnWaits _ _ _)
        next => exact asked.trans (sameLoads_lfnAnswer c k _)
      next =>
        have asked := sameLoads_continueRun c.channel k s.lfn.extension s
        split
        next eq => exact (SameLoads.of_answer eq asked).trans (sameLoads_lfnAnswer c k (_, .started))
        next eq => exact (SameLoads.of_answer eq asked).trans (sameLoads_lfnWaits _ _ _)
        next eq => exact (SameLoads.of_answer eq asked).trans (sameLoads_lfnAnswer c k (_, .notTaken))
      next => exact .refl s
    · exact .refl s

theorem sameLoads_askFinisher (s : State) : SameLoads s (askFinisher s) := by
  have tested (v : State) : SameLoads v (testFinished v) := by
    unfold testFinished lfnFinished
    split
    next k _ =>
      split
      · exact (sameLoads_movePlate k .finishing .finished (f := id) (fun _ => rfl) v).trans (.of_plates (by simp))
      · exact .refl v
    next => exact .refl v
  exact ((sameLoads_askFinisherChannel .uva s).trans (sameLoads_askFinisherChannel .uvc _)).trans (tested _)

/-! ### What the conditions rest on (R180) -/

/-- From `s` to `t` the lasting conditions stand, but that a FAULT latch may be gone; no flag changes but SOLVENT_LIMIT,
which an evaluation may set when the plate on offer is too heavy. -/
structure Monitored (s t : State) : Prop where
  rss : t.rss = s.rss := by simp
  lampOn : t.din.lampOn = s.din.lampOn := by simp
  lambda : t.wou.lambda = s.wou.lambda := by simp
  inputs : t.lio.inputs = s.lio.inputs := by simp
  stall : t.wou.stallHold = s.wou.stallHold := by simp
  outside : t.wou.tempOutside = s.wou.tempOutside := by simp
  blocked : t.wou.replenish = .blocked ↔ s.wou.replenish = .blocked := by simp
  tempClass : t.dry.tempClass = s.dry.tempClass := by simp
  heavy : offeredTooHeavy t = offeredTooHeavy s
  flags : ∀ f, f ≠ .solventLimit → isSet f t = isSet f s := by exact fun f _ => isSet_congr (by simp) f
  limit : isSet .solventLimit s = true → isSet .solventLimit t = true := by exact fun h => (isSet_congr (by simp) _).trans h
  light : offeredTooHeavy s = false → isSet .solventLimit t = isSet .solventLimit s := by
    exact fun _ => isSet_congr (by simp) _
  faults : ∀ c, driveFaulted c t = true → driveFaulted c s = true

namespace Monitored

theorem refl (s : State) : Monitored s s := { heavy := rfl, faults := fun _ h => h }

theorem trans (h : Monitored s t) (g : Monitored t u) : Monitored s u where
  rss := g.rss.trans h.rss
  lampOn := g.lampOn.trans h.lampOn
  lambda := g.lambda.trans h.lambda
  inputs := g.inputs.trans h.inputs
  stall := g.stall.trans h.stall
  outside := g.outside.trans h.outside
  blocked := g.blocked.trans h.blocked
  tempClass := g.tempClass.trans h.tempClass
  heavy := g.heavy.trans h.heavy
  flags f other := (g.flags f other).trans (h.flags f other)
  limit set := g.limit (h.limit set)
  light low := (g.light (h.heavy.trans low)).trans (h.light low)
  faults c latched := h.faults c (g.faults c latched)

end Monitored

/-- The offered plate is too heavy by its size and the washout's account alone (R98). -/
theorem offeredTooHeavy_congr (offered : t.wou.offered = s.wou.offered) (lambda : t.wou.lambda = s.wou.lambda)
    (committed : t.wou.committed = s.wou.committed) (rss : t.rss = s.rss) (loads : SameLoads s t) :
    offeredTooHeavy t = offeredTooHeavy s := by
  unfold offeredTooHeavy
  rw [offered]
  cases s.wou.offered with
  | none => rfl
  | some k =>
    have size := loads k
    simp only [Option.bind_some]
    cases before : plateAt s k with
    | none =>
      rw [before] at size
      rw [Option.map_eq_none_iff.1 size]
    | some p =>
      rw [before] at size
      obtain ⟨q, after, same⟩ := Option.map_eq_some_iff.1 size
      have fits : loadingFits t q = loadingFits s p := by
        unfold loadingFits loadingIncrement lambdaEff washCal
        rw [lambda, committed, rss, same]
      rw [after]
      exact congrArg (!·) fits

/-- An operation that leaves the washout, the store and the flags alone leaves the conditions. -/
theorem Monitored.of_steady (steady : Steady s t) (loads : SameLoads s t) (wou : t.wou = s.wou := by simp)
    (flt : t.flt.flags = s.flt.flags := by simp) (rss : t.rss = s.rss := by simp)
    (lampOn : t.din.lampOn = s.din.lampOn := by simp) (inputs : t.lio.inputs = s.lio.inputs := by simp)
    (tempClass : t.dry.tempClass = s.dry.tempClass := by simp) : Monitored s t where
  rss := rss
  lampOn := lampOn
  lambda := by rw [wou]
  inputs := inputs
  stall := by rw [wou]
  outside := by rw [wou]
  blocked := by rw [wou]
  tempClass := tempClass
  heavy := offeredTooHeavy_congr (by rw [wou]) (by rw [wou]) (by rw [wou]) rss loads
  flags := steady.flags
  limit set := (isSet_congr flt _).trans set
  light _ := isSet_congr flt _
  faults c latched := (steady.faults c).symm.trans latched

theorem Monitored.conditions (h : Monitored s t) {f : Flag} (lasting : ∀ c, f ≠ .driveFault c) :
    conditionPresent t f = conditionPresent s f := by
  cases f with
  | driveFault c => exact absurd rfl (lasting c)
  | inhibit => exact inhibitActive_congr h.inputs (by rw [h.rss])
  | storeCheck => simp [conditionPresent, h.rss]
  | countersCheck => simp [conditionPresent, h.rss]
  | lampLife =>
    have past : lampPast t = lampPast s := funext fun ch => by
      unfold lampPast lampCal
      rw [h.rss, h.lampOn]
    simp only [conditionPresent, anyLampPast, past]
  | washTemp => exact h.outside
  | solventLimit => exact h.heavy
  | replenishBlocked =>
    rw [conditionPresent, conditionPresent, Bool.eq_iff_iff, beq_iff_eq, beq_iff_eq]
    exact h.blocked
  | transportStall => exact h.stall
  | dryerOvertemp => simp [conditionPresent, h.tempClass]
  | dryerUndertemp => simp [conditionPresent, h.tempClass]
  | _ => rfl

/-! ### The tests of the blocks (R183 step 5) -/

theorem steady_updateRollers (s : State) : Steady s (updateRollers s) := by
  unfold updateRollers
  split
  · split
    · exact steady_driveOff _ _
    · exact steady_driveOn _ _ _
  · exact .refl s

theorem steady_updateOutfeed (s : State) : Steady s (updateOutfeed s) := by
  unfold updateOutfeed
  split
  · split
    · exact steady_driveOff _ _
    · exact steady_driveOn _ _ _
  · exact .refl s

theorem steady_updateConveyor (s : State) : Steady s (updateConveyor s) := by
  unfold updateConveyor
  split
  · split
    · exact steady_driveOff _ _
    · exact steady_driveOn _ _ _
  · exact .refl s

theorem steady_afterTravel (target : Fin 8) (s : State) : Steady s (afterTravel target s) := by
  unfold afterTravel
  split
  · exact steady_elevatorToIdle s
  · exact steady_commandPhase _ s
  · exact steady_commandPhase _ s
  · exact .refl s

theorem steady_phaseAfresh (s : State) : Steady s (phaseAfresh s) := by
  unfold phaseAfresh
  split
  · split
    · exact steady_afterTravel _ s
    · exact steady_commandPhase _ s
  · exact steady_commandPhase _ s
  · exact steady_arbiter s
  · exact .refl s

theorem steady_updateHalted (s : State) : Steady s (updateHalted s) := by
  have halts : Steady s (haltBegins s) := by
    unfold haltBegins
    dsimp only
    split
    · exact (steady_modTrc _ s).trans (steady_modTrc _ _)
    · exact steady_modTrc _ s
  unfold updateHalted
  split
  · split
    · exact .refl s
    · exact halts
  · split
    · exact (steady_modTrc _ s).trans (steady_phaseAfresh _)
    · exact .refl s

theorem steady_elevatorRecovery (s : State) : Steady s (elevatorRecovery s) := by
  unfold elevatorRecovery
  split
  next p _ =>
    have again := steady_modTrc (fun t => { t with elevator := .inPhase p }) s
    have goes (v : State) (before : Steady s v) : Steady s (if v.trc.halted then v else phaseAfresh v) := by
      split
      · exact before
      · exact before.trans (steady_phaseAfresh v)
    cases p with
    | travel target => exact goes _ (again.trans (steady_modTrc _ _))
    | pick => exact goes _ again
    | place => exact goes _ again
  next => exact .refl s

theorem monitored_tryIntake (s : State) : Monitored s (tryIntake s) := .of_steady (steady_tryIntake s) (.of_plates (by simp))
theorem monitored_askExposure (s : State) : Monitored s (askExposure s) :=
  .of_steady (steady_askExposure s) (sameLoads_askExposure s) (lampOn := (goesOn_askExposure s).lampOn)
theorem monitored_testHeater (s : State) : Monitored s (testHeater s) :=
  .of_steady (steady_testHeater s) (.of_plates (by simp))
theorem monitored_arbiter (s : State) : Monitored s (arbiter s) := .of_steady (steady_arbiter s) (.of_plates (by simp))
theorem monitored_elevatorRecovery (s : State) : Monitored s (elevatorRecovery s) :=
  .of_steady (steady_elevatorRecovery s) (.of_plates (by simp))
theorem monitored_askFinisher (s : State) : Monitored s (askFinisher s) :=
  .of_steady (steady_askFinisher s) (sameLoads_askFinisher s) (lampOn := (goesOn_askFinisher s).lampOn)

theorem monitored_setBlocker (b : Blocker) (s : State) : Monitored s (setBlocker b s) where
  lambda := rfl
  stall := rfl
  outside := rfl
  blocked := .rfl
  heavy := offeredTooHeavy_congr rfl rfl rfl rfl (.of_plates rfl)
  faults _ latched := latched

theorem monitored_testAdmission {k : Slot} {p : PlateRecord} (offered : s.wou.offered = some k)
    (record : plateAt s k = some p) : Monitored s (testAdmission k p s) := by
  have steady := steady_testAdmission k p s
  by_cases free : firstBlocker s p = .none
  · cases granted : reserveDrawer k s with
    | none =>
      have eq : testAdmission k p s = setBlocker .noDrawer s := by simp [testAdmission, free, granted]
      rw [eq]
      exact monitored_setBlocker _ s
    | some x =>
      obtain ⟨d, v⟩ := x
      have eq : testAdmission k p s = admitPlate k p d v := by simp [testAdmission, free, granted]
      have admitted := admitPlate_admitted (p := p) granted
      rw [← eq] at admitted
      obtain ⟨-, flt, din, rss, -⟩ := admitted.frame
      have wou := admitted.wou
      have fits : loadingFits s p = true := by
        obtain ⟨-, -, -, -, -, -, fits, -⟩ := firstBlocker_none_iff.1 free
        exact fits
      have light : offeredTooHeavy s = false := by simp [offeredTooHeavy, offered, record, fits]
      have away : (testAdmission k p s).wou.offered = none := by rw [wou]
      have gone : offeredTooHeavy (testAdmission k p s) = false := by simp [offeredTooHeavy, away]
      exact {
        rss := rss
        lampOn := by rw [din]
        lambda := by rw [wou]
        inputs := by simp
        stall := by rw [wou]
        outside := by rw [wou]
        blocked := by rw [wou]
        tempClass := by
          rw [eq, reserveDrawer_eq granted]
          simp [setDrawer, modDry]
        heavy := by rw [gone, light]
        flags := steady.flags
        limit := fun set => (isSet_congr (by rw [flt]) _).trans set
        light := fun _ => isSet_congr (by rw [flt]) _
        faults := fun c latched => (steady.faults c).symm.trans latched }
  · by_cases fits : loadingFits s p = true
    · have eq : testAdmission k p s = setBlocker (firstBlocker s p) s := by simp [testAdmission, free, fits]
      rw [eq]
      exact monitored_setBlocker _ s
    · have eq : testAdmission k p s = setFlag .solventLimit (setBlocker (firstBlocker s p) s) := by
        simp [testAdmission, free, fits]
      have heavy : offeredTooHeavy s = true := by simp [offeredTooHeavy, offered, record, fits]
      have blocked := monitored_setBlocker (firstBlocker s p) s
      rw [eq] at steady ⊢
      exact {
        rss := by simp
        lambda := by simp
        stall := by simp [blocked.stall]
        outside := by simp [blocked.outside]
        heavy := (offeredTooHeavy_congr (by simp) (by simp) (by simp) (by simp) (.of_plates (by simp))).trans blocked.heavy
        flags := steady.flags
        limit := fun set => by simp [isSet_setFlag]
        light := fun low => absurd (heavy.symm.trans low) nofun
        faults := fun c latched => (steady.faults c).symm.trans latched }

theorem monitored_evalAdmission (s : State) : Monitored s (evalAdmission s) := by
  unfold evalAdmission
  split
  · exact monitored_setBlocker _ s
  next k offered =>
    split
    · exact .refl s
    next p record =>
      split
      · exact monitored_testAdmission offered record
      · exact .refl s

theorem monitored_whenCleared {m : FlagSet} {l : List Flag} {act : State → State} (tests : ∀ v, Monitored v (act v))
    (s : State) : Monitored s (whenCleared m l act s) := by
  unfold whenCleared
  split
  · exact tests s
  · exact .refl s

theorem monitored_reportCleared (m : FlagSet) (s : State) : Monitored s (reportCleared m s) := by
  have reservations (v : State) : Monitored v (reportReservations v) := by
    unfold reportReservations
    split
    · exact monitored_evalAdmission v
    · exact .refl v
  unfold reportCleared
  dsimp only
  exact (((((((monitored_whenCleared monitored_tryIntake s).trans (monitored_whenCleared monitored_askExposure _)).trans
    (monitored_whenCleared monitored_evalAdmission _)).trans (monitored_whenCleared monitored_testHeater _)).trans
    (monitored_whenCleared reservations _)).trans (monitored_whenCleared monitored_arbiter _)).trans
    (monitored_whenCleared monitored_elevatorRecovery _)).trans (monitored_whenCleared monitored_askFinisher _)

/-! ### The release of a latch (R167, R183 step 1) -/

theorem monitored_takeTransport (s : State) : Monitored s (takeTransport s) := by
  have steady := steady_takeTransport s
  have wou := takeTransport_wou s
  exact {
    lambda := by rw [wou]
    stall := by rw [wou]
    outside := by rw [wou]
    blocked := by rw [wou]
    heavy := offeredTooHeavy_congr (by rw [wou]) (by rw [wou]) (by rw [wou]) (by simp) (.of_plates (by simp))
    faults := fun c latched => (steady.faults c).symm.trans latched }

theorem monitored_transportAnew (s : State) : Monitored s (transportAnew s) := by
  unfold transportAnew
  dsimp only
  split
  · exact monitored_takeTransport s
  · exact (monitored_takeTransport s).trans (monitored_evalAdmission _)

theorem monitored_startReplenish (s : State) : Monitored s (startReplenish s) := by
  by_cases start : s.wou.replenish = .pending ∧ replenishMayStart s
  · have steady := steady_startReplenish s
    obtain ⟨wou, -⟩ := startReplenish_runs start.1 start.2
    exact {
      lambda := by rw [wou]
      stall := by rw [wou]
      outside := by rw [wou]
      blocked := by simp [wou, start.1]
      heavy := offeredTooHeavy_congr (by rw [wou]) (by rw [wou]) (by rw [wou]) (by simp) (.of_plates (by simp))
      faults := fun c latched => (steady.faults c).symm.trans latched }
  · have same : startReplenish s = s := if_neg start
    rw [same]
    exact .refl s

theorem monitored_tryReplenish (s : State) : Monitored s (tryReplenish s) := by
  unfold tryReplenish
  dsimp only
  split
  · exact monitored_startReplenish s
  · exact (monitored_startReplenish s).trans (monitored_evalAdmission _)

theorem monitored_ownerHearsRelease (c : DriveChannel) (s : State) : Monitored s (ownerHearsRelease c s) := by
  cases c with
  | intakeRollers => exact .of_steady (t := updateRollers s) (steady_updateRollers s) (.of_plates (by simp))
  | transport => exact monitored_transportAnew s
  | brushes => exact monitored_transportAnew s
  | pump => exact monitored_tryReplenish s
  | heater => exact monitored_testHeater s
  | elevator => exact .of_steady (t := updateHalted s) (steady_updateHalted s) (.of_plates (by simp))
  | outfeed =>
    exact .of_steady (t := tryRelease (updateOutfeed s)) ((steady_updateOutfeed s).trans (steady_tryRelease _))
      (.of_plates (by simp))
  | conveyor => exact .of_steady (t := updateConveyor s) (steady_updateConveyor s) (.of_plates (by simp))

theorem driveFaulted_released (c d : DriveChannel) (s : State) :
    driveFaulted d (setDrive c { s.lio.drives.get c with state := .off } s) = (driveFaulted d s && decide (d ≠ c)) := by
  rw [driveFaulted_setDrive]
  by_cases own : d = c
  · simp [own]
  · simp [own]

theorem releaseLatch_releases (c : DriveChannel) (s : State) :
    Monitored s (releaseLatch c s) ∧ driveFaulted c (releaseLatch c s) = false := by
  by_cases latched : driveFaulted c s = true
  · have eq : releaseLatch c s = ownerHearsRelease c (setDrive c { s.lio.drives.get c with state := .off } s) :=
      if_pos latched
    have released : Monitored s (setDrive c { s.lio.drives.get c with state := .off } s) := {
      heavy := offeredTooHeavy_congr (by simp) (by simp) (by simp) (by simp) (.of_plates (by simp))
      faults := fun d still => by
        rw [driveFaulted_released, Bool.and_eq_true] at still
        exact still.1 }
    have heard := monitored_ownerHearsRelease c (setDrive c { s.lio.drives.get c with state := .off } s)
    rw [eq]
    refine ⟨released.trans heard, ?_⟩
    by_contra still
    have before := heard.faults c (by simpa using still)
    rw [driveFaulted_released] at before
    simp at before
  · have eq : releaseLatch c s = s := if_neg latched
    rw [eq]
    exact ⟨.refl s, by simpa using latched⟩

theorem mem_driveChannels (c : DriveChannel) : c ∈ driveChannels := by cases c <;> decide

/-- One channel's part of R183 step 1. -/
def releaseIfNamed (named : FlagSet) (s : State) (c : DriveChannel) : State :=
  if flagHas named (.driveFault c) && isSet (.driveFault c) s then releaseLatch c s else s

theorem releaseNamed_eq (named : FlagSet) (s : State) : releaseNamed named s = driveChannels.foldl (releaseIfNamed named) s :=
  rfl

theorem monitored_releaseIfNamed (named : FlagSet) (c : DriveChannel) (s : State) : Monitored s (releaseIfNamed named s c) := by
  unfold releaseIfNamed
  split
  · exact (releaseLatch_releases c s).1
  · exact .refl s

theorem monitored_releases (named : FlagSet) (l : List DriveChannel) (s : State) :
    Monitored s (l.foldl (releaseIfNamed named) s) :=
  List.foldlRecOn l _ (.refl s) fun x h c _ => h.trans (monitored_releaseIfNamed named c x)

theorem releaseNamed_releases {named : FlagSet} {c : DriveChannel} (names : flagHas named (.driveFault c) = true)
    (set : isSet (.driveFault c) s = true) : driveFaulted c (releaseNamed named s) = false := by
  obtain ⟨l1, l2, split⟩ := List.append_of_mem (mem_driveChannels c)
  rw [releaseNamed_eq, split, List.foldl_append, List.foldl_cons]
  obtain ⟨x, xEq⟩ : ∃ x, x = l1.foldl (releaseIfNamed named) s := ⟨_, rfl⟩
  have still : isSet (.driveFault c) x = true := by
    rw [xEq, (monitored_releases named l1 s).flags (.driveFault c) (by simp), set]
  have step : releaseIfNamed named x c = releaseLatch c x := by simp [releaseIfNamed, names, still]
  rw [← xEq, step]
  by_contra latched
  have before := (monitored_releases named l2 (releaseLatch c x)).faults c (by simpa using latched)
  rw [(releaseLatch_releases c x).2] at before
  cases before

theorem monitored_releaseNamed (named : FlagSet) (s : State) : Monitored s (releaseNamed named s) :=
  monitored_releases named driveChannels s

/-! ### FAULT_CLEAR (R183) -/

section Clear
variable {named : FlagSet}

theorem faultClear_eq (named : FlagSet) (s : State) : ∃ m, (faultClear named s).1
    = reportCleared m (clearFlags named (releaseNamed named s)) := ⟨_, rfl⟩

theorem clearFlags_heavy (named : FlagSet) (s : State) : offeredTooHeavy (clearFlags named s) = offeredTooHeavy s :=
  offeredTooHeavy_congr (by simp) (by simp) (by simp) (by simp) (.of_plates (by simp))

/-- Every flag but SOLVENT_LIMIT ends as R183 steps 2 and 3 leave it. -/
theorem isSet_faultClear {f : Flag} (other : f ≠ .solventLimit) : isSet f (faultClear named s).1
    = (isSet f s && (!flagHas named f || conditionPresent (releaseNamed named s) f)) := by
  obtain ⟨m, eq⟩ := faultClear_eq named s
  rw [eq, (monitored_reportCleared m _).flags f other, isSet_clearFlags, (monitored_releaseNamed named s).flags f other]

theorem isSet_faultClear_limit (set : isSet .solventLimit s = true) : isSet .solventLimit (faultClear named s).1
    = (!flagHas named .solventLimit || offeredTooHeavy s) := by
  obtain ⟨m, eq⟩ := faultClear_eq named s
  have released := monitored_releaseNamed named s
  have reported := monitored_reportCleared m (clearFlags named (releaseNamed named s))
  have heavy : offeredTooHeavy (clearFlags named (releaseNamed named s)) = offeredTooHeavy s :=
    (clearFlags_heavy _ _).trans released.heavy
  have cleared : isSet .solventLimit (clearFlags named (releaseNamed named s))
      = (!flagHas named .solventLimit || offeredTooHeavy s) := by
    rw [isSet_clearFlags, released.limit set, conditionPresent, released.heavy, Bool.true_and]
  rw [eq]
  cases present : offeredTooHeavy s with
  | true =>
    rw [present, Bool.or_true] at cleared
    rw [reported.limit cleared, Bool.or_true]
  | false =>
    rw [reported.light (heavy.trans present), cleared, present]

theorem faultClear_latch {c : DriveChannel} (names : flagHas named (.driveFault c) = true) :
    isSet (.driveFault c) (faultClear named s).1 = false
    ∧ (isSet (.driveFault c) s = true → driveFaulted c (faultClear named s).1 = false) := by
  refine ⟨?_, fun set => ?_⟩
  · rw [isSet_faultClear (f := .driveFault c) (by simp)]
    cases set : isSet (.driveFault c) s with
    | false => rfl
    | true => simp [names, conditionPresent, releaseNamed_releases names set]
  · obtain ⟨m, eq⟩ := faultClear_eq named s
    rw [eq]
    by_contra latched
    have before := (monitored_reportCleared m _).faults c (by simpa using latched)
    rw [driveFaulted_congr (s := releaseNamed named s) (by simp), releaseNamed_releases names set] at before
    cases before

theorem faultClear_kept (named : FlagSet) (s : State) : (faultClear named s).1.wou.lambda = s.wou.lambda
    ∧ (faultClear named s).1.din.lampOn = s.din.lampOn := by
  obtain ⟨m, eq⟩ := faultClear_eq named s
  have released := monitored_releaseNamed named s
  have reported := monitored_reportCleared m (clearFlags named (releaseNamed named s))
  rw [eq]
  refine ⟨reported.lambda.trans (.trans ?_ released.lambda), reported.lampOn.trans (.trans ?_ released.lampOn)⟩
  · simp
  · simp

theorem actFaultClear_bytes (named : FlagSet) (s : State) : actFaultClear (bFlagSet named) s =
    if flagHas named .storeCheck then (s, refusal .badField)
    else ((faultClear named s).1, okReply (bFlagSet (faultClear named s).2)) := by
  simp only [actFaultClear, bFlagSet, flagSetOfBytes_bFlagSet]

end Clear

/-! ### When a condition is present (R180) -/

theorem lampPast_iff (c : LampChannel) : lampPast s c = true ↔
    (s.rss.working.cal.lamps.get c).ratedLife * 3600 ≤ s.din.lampOn.get c := by
  rw [lampPast, lampCal, decide_eq_true_eq, Nat.le_div_iff_mul_le (by decide)]

theorem offeredTooHeavy_iff : offeredTooHeavy s = true ↔ ∃ k p, s.wou.offered = some k ∧ plateAt s k = some p
    ∧ s.rss.working.cal.wash.lambdaMax < s.wou.lambda + s.wou.committed
      + loadingIncrement s.rss.working.cal.wash.bathVolume p := by
  unfold offeredTooHeavy
  cases offered : s.wou.offered with
  | none => simp
  | some k =>
    cases record : plateAt s k with
    | none => simp [record]
    | some p =>
      have heavy : (!loadingFits s p) = true ↔ s.rss.working.cal.wash.lambdaMax < s.wou.lambda + s.wou.committed
          + loadingIncrement s.rss.working.cal.wash.bathVolume p := by
        rw [Bool.not_eq_true', ← Bool.not_eq_true, loadingFits, decide_eq_true_iff, not_le]
        rfl
      simp only [Option.bind_some, record, heavy]
      simp [record]

/-- Settles O24: the flags of `faultClear` by the condition, which `Monitored` carries through the blocks' tests. -/
theorem Requests.faultClear : Obligations.FaultClear := by
  unfold Obligations.FaultClear
  refine ⟨?_, ?_, ?_⟩
  · intro tag named s ready
    obtain ⟨u, uEq⟩ : ∃ u, u = serving (.frame ⟨81#8, tag, bFlagSet named⟩) s := ⟨_, rfl⟩
    have part : actFaultClear (bFlagSet named) (serving (.frame ⟨81#8, tag, bFlagSet named⟩) s) = _ :=
      actFaultClear_bytes named _
    refine ⟨fun store => ?_, fun store => ?_⟩
    · rw [if_pos store] at part
      exact request_answered part (by simp [bFlagSet]) rfl ready
    · rw [if_neg (by simp [store])] at part
      have set (f : Flag) : isSet f u = isSet f s := by rw [uEq]; rfl
      have present (f : Flag) : conditionPresent u f = conditionPresent s f := by rw [uEq]; rfl
      have heavy : offeredTooHeavy u = offeredTooHeavy s := by rw [uEq]; rfl
      have released := monitored_releaseNamed named u
      obtain ⟨lambda, lampOn⟩ := faultClear_kept named u
      have kept : (Machine.faultClear named u).1.flt.masks = s.flt.masks ∧ (Machine.faultClear named u).1.flt.lineState = s.flt.lineState
          ∧ (Machine.faultClear named u).1.ptb.queue = s.ptb.queue ∧ (Machine.faultClear named u).1.rss = s.rss
          ∧ (Machine.faultClear named u).1.dry.clock = s.dry.clock ∧ (Machine.faultClear named u).1.lnk.tx = s.lnk.tx := by
        simp [uEq, serving]
      obtain ⟨masks, line, queue, rss, clock, tx⟩ := kept
      have run := request_served part (by rw [← uEq, line]; exact ready.2.1) (by simp [bFlagSet]) rfl ready
      rw [← uEq] at run
      refine ⟨_, run, ?_, ?_, ?_, ?_, ?_, masks, line, queue, rss, ?_, clock, ?_, ?_⟩
      · intro f names other lasting
        refine (isSet_faultClear other).trans ?_
        rw [names, released.conditions lasting, set, present]
        rfl
      · intro names limit
        refine (isSet_faultClear_limit ((set _).trans limit)).trans ?_
        rw [names, heavy]
        rfl
      · intro f unnamed other
        refine (isSet_faultClear other).trans ?_
        rw [unnamed, set]
        simp
      · intro unnamed limit
        refine (isSet_faultClear_limit ((set _).trans limit)).trans ?_
        rw [unnamed]
        rfl
      · intro c names
        obtain ⟨clear, latch⟩ := faultClear_latch (s := u) names
        exact ⟨clear, fun flagged => latch ((set _).trans flagged)⟩
      · exact lambda.trans (by rw [uEq]; rfl)
      · exact lampOn.trans (by rw [uEq]; rfl)
      · refine ⟨(Machine.faultClear named u).2, ?_, fun f other => ?_⟩
        · exact congrArg (· ++ _) tx
        · exact ((monitored_reportCleared _ _).flags f other).symm
  · intro s
    refine ⟨rfl, ?_, rfl, ?_, fun _ => rfl, rfl, offeredTooHeavy_iff, ?_, rfl, ?_, ?_, ?_⟩
    · exact Option.isNone_iff_eq_none
    · simp only [conditionPresent, anyLampPast, List.any_eq_true, mem_lampChannels, true_and, lampPast_iff]
    · exact beq_iff_eq
    · exact beq_iff_eq
    · exact beq_iff_eq
    · simp [conditionPresent]
  · intro tag a b c d e s out ready
    refine request_answered ?_ (by simp) rfl ready
    have none : flagSetOfBytes a b c d e = none := if_neg (by omega)
    simp only [actFaultClear, none]
    rfl

end Sys2Proof.Machine
end


section
/-! SUPPORT. LINE_RESET: with the table emptied and the channels idle the blocks' tests leave the records, the integrator
and the dryer as they are (R178). -/
namespace Sys2Proof.Machine
variable {s t u : State}

/-! ### The emptied table -/

/-- No record, and no run on any lamp channel. -/
structure Emptied (s : State) : Prop where
  plates : ∀ k, plateAt s k = none
  channels : ∀ c, channelAt s c = .idle

/-- From `s` to `t` the records, the integrator, the dryer and the lamps stand. -/
structure Bare (s t : State) : Prop where
  ptb : t.ptb = s.ptb := by simp
  din : t.din = s.din := by simp
  dry : t.dry = s.dry := by simp
  lamps : t.lio.lamps = s.lio.lamps := by simp

namespace Bare

theorem refl (s : State) : Bare s s := {}

theorem trans (h : Bare s t) (g : Bare t u) : Bare s u :=
  ⟨g.ptb.trans h.ptb, g.din.trans h.din, g.dry.trans h.dry, g.lamps.trans h.lamps⟩

theorem emptied (h : Bare s t) (empty : Emptied s) : Emptied t where
  plates k := (plateAt_congr (congrArg (·.plates) h.ptb) k).trans (empty.plates k)
  channels c := (channelAt_congr (congrArg (·.channels) h.din) c).trans (empty.channels c)

/-- A step of an emptied line goes on to the next. -/
theorem andThen (h : Bare s t) (empty : Emptied s) (next : Emptied t → Bare t u) : Bare s u := h.trans (next (h.emptied empty))

end Bare

section Empty
variable (empty : Emptied s)
include empty

theorem holdPlate_emptied (k : Slot) (at_ : Station) (reason : HoldReason) : holdPlate k at_ reason s = s := by
  simp [holdPlate, empty.plates k]

theorem continueRun_emptied (c : LampChannel) (k : Slot) (extension : Nat) :
    continueRun c k extension s = (s, .notTaken) := by
  simp [continueRun, empty.channels c]

theorem askFresh_emptied (c : LampChannel) (k : Slot) : askFresh c k s = (s, .waits) := by
  simp [askFresh, empty.channels c, askStart, startRun, empty.plates k]

theorem bare_exuRequest (c : LampChannel) (k : Slot) : Bare s (exuAnswer k (exuRequest c k s))
    ∧ (exuRequest c k s).2 ≠ .skipped := by
  unfold exuRequest
  split
  · rw [continueRun_emptied empty]
    refine ⟨?_, nofun⟩
    show Bare s (exuEnterHeld k s.exu.resumeReason s)
    rw [exuEnterHeld, holdPlate_emptied empty]
    exact {}
  · rw [askFresh_emptied empty]
    exact ⟨.refl s, nofun⟩

theorem bare_askExposure : Bare s (askExposure s) := by
  have main : Bare s (askMain s) := by
    unfold askMain
    split
    · split
      · exact (bare_exuRequest empty _ _).1
      · exact .refl s
    · exact .refl s
  unfold askExposure
  split
  · exact main
  · split
    · split
      next k _ =>
        obtain ⟨bare, run⟩ := bare_exuRequest empty .back k
        split
        next skipped =>
          rw [skipped] at run
          exact absurd rfl run
        next => exact bare
      next => exact .refl s
    · exact .refl s
  · exact .refl s

theorem bare_evalAdmission : Bare s (evalAdmission s) := by
  unfold evalAdmission
  split
  · exact {}
  next k _ =>
    rw [empty.plates k]
    exact .refl s

theorem bare_askFinisherChannel (c : FinisherLamp) : Bare s (askFinisherChannel c s) := by
  have fresh (k : Slot) : Bare s (lfnWaits c k s) := {}
  unfold askFinisherChannel
  split
  · exact .refl s
  next k _ =>
    split
    · split
      next =>
        rw [askFresh_emptied empty]
        exact fresh k
      next =>
        rw [askFresh_emptied empty]
        exact fresh k
      next =>
        rw [continueRun_emptied empty]
        obtain ⟨v, vEq⟩ : ∃ v, v = setFinisherRun c { finisherRun c s.lfn with contPending := false } s := ⟨_, rfl⟩
        have answer : lfnAnswer c k (s, .notTaken) = lfnEnterHeld k s.lfn.resumeReason v := by rw [vEq]; rfl
        have set : Bare s v := by
          rw [vEq]
          exact {}
        show Bare s (lfnAnswer c k (s, .notTaken))
        rw [answer, lfnEnterHeld, holdPlate_emptied (set.emptied empty)]
        exact set.trans {}
      next => exact .refl s
    · exact .refl s

theorem bare_askFinisher : Bare s (askFinisher s) := by
  have tested (v : State) (none : Emptied v) : Bare v (testFinished v) := by
    unfold testFinished lfnFinished
    split
    next k _ =>
      split
      · have unmoved : movePlate k .finishing .finished id v = v := by simp [movePlate, none.plates k]
        rw [unmoved]
        exact {}
      · exact .refl v
    next => exact .refl v
  have uva := bare_askFinisherChannel empty .uva
  have uvc := uva.andThen empty fun none => bare_askFinisherChannel none .uvc
  exact uvc.andThen empty (tested _)

theorem bare_whenCleared {m : FlagSet} {l : List Flag} {act : State → State} (tests : Emptied s → Bare s (act s)) :
    Bare s (whenCleared m l act s) := by
  unfold whenCleared
  split
  · exact tests empty
  · exact .refl s

theorem bare_reportCleared (m : FlagSet) : Bare s (reportCleared m s) := by
  have reservations (v : State) (none : Emptied v) : Bare v (reportReservations v) := by
    unfold reportReservations
    split
    · exact bare_evalAdmission none
    · exact .refl v
  exact (((((((bare_whenCleared empty fun _ => {}).andThen empty fun e => bare_whenCleared e bare_askExposure).andThen
    empty fun e => bare_whenCleared e bare_evalAdmission).andThen empty fun e => bare_whenCleared e fun _ => {}).andThen
    empty fun e => bare_whenCleared e (reservations _)).andThen empty fun e => bare_whenCleared e fun _ => {}).andThen
    empty fun e => bare_whenCleared e fun _ => {}).andThen empty fun e => bare_whenCleared e bare_askFinisher

theorem bare_stationsHearLine : Bare s (stationsHearLine s) := by
  have replenish (v : State) : Bare v (startReplenish v) := {}
  have release (v : State) : Bare v (arbiter (tryRelease v)) := {}
  unfold stationsHearLine
  split
  · have intake : Bare s (tryIntake s) := {}
    exact ((((intake.andThen empty bare_askExposure).trans (replenish _)).andThen empty bare_evalAdmission).andThen
      empty bare_askFinisher).trans (release _)
  · have tried : Bare s (tryReplenish s) := by
      unfold tryReplenish
      dsimp only
      split
      · exact replenish s
      · exact (replenish s).andThen empty bare_evalAdmission
    exact tried.trans (release _)
  · exact .refl s
  · exact .refl s

end Empty

/-! ### The line's change (R178 step 6) -/

theorem monitored_tryRelease (s : State) : Monitored s (tryRelease s) := .of_steady (steady_tryRelease s) (.of_plates (by simp))

theorem monitored_stationsHearLine (s : State) : Monitored s (stationsHearLine s) := by
  unfold stationsHearLine
  split
  · exact ((((((monitored_tryIntake s).trans (monitored_askExposure _)).trans (monitored_startReplenish _)).trans
      (monitored_evalAdmission _)).trans (monitored_askFinisher _)).trans (monitored_tryRelease _)).trans
      (monitored_arbiter _)
  · exact ((monitored_tryReplenish s).trans (monitored_tryRelease _)).trans (monitored_arbiter _)
  · exact .refl s
  · exact .refl s

theorem resetLine_cases (s : State) : ∃ v, (resetLine s = v ∨ resetLine s = stationsHearLine v)
    ∧ Monitored s v ∧ Bare s v ∧ v.flt.lineState = (if inhibitActive s then .stopped else .run)
    ∧ v.flt.cause = .lineReset ∧ v.flt.masks = s.flt.masks := by
  obtain ⟨new, newEq⟩ : ∃ new, new = if inhibitActive s then LineState.stopped else LineState.run := ⟨_, rfl⟩
  rw [← newEq]
  by_cases same : s.flt.lineState = new
  · refine ⟨modFlt (fun t => { t with cause := .lineReset }) s, ?_, ?_, ?_, ?_, rfl, rfl⟩
    · exact .inl (by simp only [resetLine, ← newEq, same, if_true])
    · exact .of_steady {} (.of_plates rfl)
    · exact {}
    · exact same
  · refine ⟨raiseAttn .lineState (lineEntered new .lineReset s), ?_, ?_, ?_, ?_, ?_, ?_⟩
    · exact .inr (by simp only [resetLine, ← newEq, if_neg same, changeLine_eq])
    · have entered : Steady s (lineEntered new .lineReset s) := by
        unfold lineEntered
        exact {}
      exact .of_steady (entered.trans (steady_raiseAttn _ _)) (.of_plates (by simp))
        (inputs := by simp [lineEntered]) (rss := by simp [lineEntered])
    · exact {}
    · simp
    · simp
    · simp

/-! ### The reset (R178) -/

theorem resetAllowed_iff : resetAllowed s = true ↔
    ∀ k st, plateState s k = some st → st = .queued ∨ st = .done ∨ st = .scrapped := by
  have free (st : PlateState) : (!st.barsReset) = true ↔ st = .queued ∨ st = .done ∨ st = .scrapped := by
    cases st <;> simp [PlateState.barsReset]
  have slot (k : Slot) : k ∈ allSlots := List.mem_finRange k
  simp only [resetAllowed, List.all_eq_true, slot, true_imp_iff]
  refine forall_congr' fun k => ?_
  cases plateState s k with
  | none => simp
  | some st => simp only [free, Option.some.injEq, forall_eq']

theorem plateAt_resetTables (k : Slot) : plateAt (resetTables s) k = none := by
  simp [plateAt, resetTables, modLnk, modDin, modPtb]

theorem resetTables_emptied (s : State) : Emptied (resetTables s) where
  plates := plateAt_resetTables
  channels c := by cases c <;> rfl

theorem bare_resetFlags (s : State) : Bare s (resetFlags s) := {}

theorem isSet_resetFlags (s : State) (f : Flag) : isSet f (resetFlags s) = conditionPresent (clearAllFlags s) f := by
  rw [← flagHas_detected, isSet]
  refine congrArg (flagHas · f) ?_
  unfold resetFlags detectAnew
  dsimp only
  split
  · exact putFlags_flags _ _
  · simp [putFlags_flags]

/-- The conditions rest on these parts of the state alone (R180). -/
theorem conditionPresent_congr (rss : t.rss = s.rss) (lampOn : t.din.lampOn = s.din.lampOn)
    (inputs : t.lio.inputs = s.lio.inputs) (drives : t.lio.drives = s.lio.drives) (wou : t.wou = s.wou)
    (dry : t.dry = s.dry) (plates : t.ptb.plates = s.ptb.plates) (f : Flag) :
    conditionPresent t f = conditionPresent s f := by
  cases f with
  | driveFault c => exact driveFaulted_congr drives c
  | inhibit => exact inhibitActive_congr inputs (by rw [rss])
  | storeCheck => simp [conditionPresent, rss]
  | countersCheck => simp [conditionPresent, rss]
  | lampLife =>
    have past : lampPast t = lampPast s := funext fun ch => by
      unfold lampPast lampCal
      rw [rss, lampOn]
    simp only [conditionPresent, anyLampPast, past]
  | washTemp => simp [conditionPresent, wou]
  | solventLimit =>
    exact offeredTooHeavy_congr (by rw [wou]) (by rw [wou]) (by rw [wou]) rss (.of_plates plates)
  | replenishBlocked => simp [conditionPresent, wou]
  | transportStall => simp [conditionPresent, wou]
  | dryerOvertemp => simp [conditionPresent, dry]
  | dryerUndertemp => simp [conditionPresent, dry]
  | _ => rfl

/-- What the reset leaves, step by step. -/
theorem lineReset_resets (s : State) : ∃ t, lineReset s = t ∧ t.ptb = (resetTables s).ptb ∧ t.din = (resetTables s).din
    ∧ t.dry = s.dry ∧ t.lio.lamps = s.lio.lamps ∧ t.wou.lambda = s.wou.lambda ∧ t.flt.masks = s.flt.masks
    ∧ (∀ f, isSet f t = conditionPresent (clearAllFlags (resetTables s)) f)
    ∧ t.flt.lineState = (if inhibitActive s then .stopped else .run) ∧ t.flt.cause = .lineReset := by
  obtain ⟨s1, s1Eq⟩ : ∃ s1, s1 = resetTables s := ⟨_, rfl⟩
  obtain ⟨s2, s2Eq⟩ : ∃ s2, s2 = resetFlags s1 := ⟨_, rfl⟩
  obtain ⟨s3, s3Eq⟩ : ∃ s3, s3 = reportCleared (s1.flt.flags &&& ~~~s2.flt.flags) s2 := ⟨_, rfl⟩
  have eq : lineReset s = resetLine s3 := by rw [s3Eq, s2Eq, s1Eq]; rfl
  have empty1 : Emptied s1 := s1Eq ▸ resetTables_emptied s
  have bare2 : Bare s1 s2 := s2Eq ▸ bare_resetFlags s1
  have empty2 := bare2.emptied empty1
  have bare3 : Bare s2 s3 := s3Eq ▸ bare_reportCleared empty2 _
  have empty3 := bare3.emptied empty2
  obtain ⟨v, resets, monitoredV, bareV, lineV, causeV, masksV⟩ := resetLine_cases s3
  have emptyV := bareV.emptied empty3
  have heard : Bare v (resetLine s3) ∧ Monitored v (resetLine s3)
      ∧ (resetLine s3).flt.lineState = v.flt.lineState ∧ (resetLine s3).flt.cause = v.flt.cause
      ∧ (resetLine s3).flt.masks = v.flt.masks := by
    rcases resets with same | hears
    · rw [same]
      exact ⟨.refl v, .refl v, rfl, rfl, rfl⟩
    · rw [hears]
      exact ⟨bare_stationsHearLine emptyV, monitored_stationsHearLine v, by simp, by simp, by simp⟩
  obtain ⟨bareT, monitoredT, lineT, causeT, masksT⟩ := heard
  have bare := ((bare2.trans bare3).trans bareV).trans bareT
  have monitored : Monitored s2 (resetLine s3) := by
    refine .trans ?_ (monitoredV.trans monitoredT)
    rw [s3Eq]
    exact monitored_reportCleared _ s2
  have light : offeredTooHeavy s2 = false := by
    have none : s2.wou.offered.bind (plateAt s2) = none := by
      cases s2.wou.offered with
      | none => rfl
      | some k => exact empty2.plates k
    simp [offeredTooHeavy, none]
  have inhibit : inhibitActive s3 = inhibitActive s :=
    inhibitActive_congr (by simp [s3Eq, s2Eq, s1Eq, resetTables, modLnk, modDin, modPtb])
      (by simp [s3Eq, s2Eq, s1Eq, resetTables, modLnk, modDin, modPtb])
  refine ⟨resetLine s3, eq, ?_, ?_, ?_, ?_, ?_, ?_, fun f => ?_, ?_, ?_⟩
  · rw [bare.ptb, s1Eq]
  · rw [bare.din, s1Eq]
  · rw [bare.dry, s1Eq]
    rfl
  · rw [bare.lamps, s1Eq]
    rfl
  · rw [monitored.lambda, s2Eq, s1Eq]
    simp [resetTables, modLnk, modDin, modPtb]
  · rw [masksT, masksV, s3Eq, s2Eq, s1Eq]
    simp [resetTables, modLnk, modDin, modPtb]
  · rw [← s1Eq, ← isSet_resetFlags, ← s2Eq]
    by_cases limit : f = .solventLimit
    · rw [limit]
      exact monitored.light light
    · exact monitored.flags f limit
  · rw [lineT, lineV, inhibit]
  · rw [causeT, causeV]

/-- Settles O23: `lineReset_resets`, and the states that bar a reset. -/
theorem Requests.lineReset : Obligations.LineReset := by
  unfold Obligations.LineReset
  intro tag s ready
  refine ⟨fun free => ?_, fun k st at_ queued done scrapped => ?_⟩
  · obtain ⟨u, uEq⟩ : ∃ u, u = serving (.frame ⟨19#8, tag, []⟩) s := ⟨_, rfl⟩
    have allowed : resetAllowed u = true := by
      rw [uEq]
      exact resetAllowed_iff.2 free
    obtain ⟨t, eq, ptb, din, dry, lamps, lambda, masks, flags, line, cause⟩ := lineReset_resets u
    have part : actLineReset (serving (.frame ⟨19#8, tag, []⟩) s) = (t, okReply []) := by
      rw [← uEq, actLineReset, if_pos allowed, eq]
    have kept : t.rss = s.rss ∧ t.lio.inputs = s.lio.inputs ∧ t.lnk.tx = s.lnk.tx := by
      rw [← eq, uEq]
      simp [serving]
    obtain ⟨rss, inputs, tx⟩ := kept
    have running : t.flt.lineState ≠ .init := by
      rw [line]
      split <;> nofun
    have table : t.ptb = { plates := Vector.replicate 40 none, queue := [], lastUnmatched := none } := by
      rw [ptb]
      rfl
    refine ⟨_, request_served part running (by simp) rfl ready, fun k => ?_, ?_, ?_, ?_, fun f => ?_, ?_, cause, ?_, rss,
      ?_, ?_, inputs, ?_, ?_⟩
    · exact (plateAt_congr (congrArg (·.plates) ptb) k).trans (plateAt_resetTables k)
    · exact congrArg (·.queue) table
    · exact congrArg (·.lastUnmatched) table
    · refine din.trans ?_
      rw [uEq]
      rfl
    · refine (flags f).trans (conditionPresent_congr ?_ ?_ ?_ ?_ ?_ ?_ ?_ f)
      · simp [uEq, serving, resetTables, clearAllFlags, putFlags, modLnk, modDin, modPtb, modFlt]
      · simp [uEq, serving, resetTables, clearAllFlags, putFlags, modLnk, modDin, modPtb, modFlt]
      · simp [uEq, serving, resetTables, clearAllFlags, putFlags, modLnk, modDin, modPtb, modFlt]
      · simp [uEq, serving, resetTables, clearAllFlags, putFlags, modLnk, modDin, modPtb, modFlt]
      · simp [uEq, serving, resetTables, clearAllFlags, putFlags, modLnk, modDin, modPtb, modFlt]
      · simp [uEq, serving, resetTables, clearAllFlags, putFlags, modLnk, modDin, modPtb, modFlt]
      · refine .trans ?_ (congrArg (·.plates) ptb).symm
        simp
    · exact line.trans (by rw [uEq]; rfl)
    · exact masks.trans (by rw [uEq]; rfl)
    · exact lambda.trans (by rw [uEq]; rfl)
    · exact dry.trans (by rw [uEq]; rfl)
    · exact lamps.trans (by rw [uEq]; rfl)
    · exact (accepted_tx (u := t) rfl).trans (by rw [tx])
  · refine request_answered ?_ (by simp) rfl ready
    have barred : ¬ resetAllowed (serving (.frame ⟨19#8, tag, []⟩) s) = true := fun allowed => by
      rcases resetAllowed_iff.1 allowed k st at_ with eq | eq | eq
      · exact queued eq
      · exact done eq
      · exact scrapped eq
    exact if_neg barred

end Sys2Proof.Machine
end


section
/-! SUPPORT. The exposure unit at work: what it asks of the integrator, and what a started segment leaves of the records
(R46, R47, R55, R74). -/
namespace Sys2Proof.Machine
variable {s : State}

/-! ### A segment that starts (R47) -/

/-- A part of the record that neither the segment count of `ch` nor a notice touches stands. -/
theorem startSegment_record {α : Type} {ch : LampChannel} {F : PlateRecord → α}
    (segments : ∀ (p : PlateRecord) (f : RunResult → RunResult), (∀ x, (f x).outcome = x.outcome) →
      F { p with results := p.results.set ch (f (p.results.get ch)) } = F p)
    (notice : ∀ n p, F (appendNotice n p) = F p) (r : RunRecord) (s : State) (j : Slot) :
    (plateAt (startSegment ch r s).1 j).map F = (plateAt s j).map F := by
  have counted (n : Nat) (v : State) :
      (plateAt (modResult r.slot ch (fun x => { x with segments := n }) v) j).map F = (plateAt v j).map F := by
    rw [modResult, plateAt_modPlate]
    split
    next own =>
      rw [own, Option.map_map]
      exact Option.map_congr fun p _ => segments p (fun x => { x with segments := n }) fun _ => rfl
    next => rfl
  have resumes (b : Bool) (v : State) :
      plateAt (if b then modDin (fun d => { d with traceActive := true }) v else v) j = plateAt v j := by
    split
    · rfl
    · rfl
  have warned (v : State) : (plateAt (if lampPast v ch then addNotice r.slot .lampLife v else v) j).map F
      = (plateAt v j).map F := by
    split
    · rw [addNotice, plateAt_modPlate]
      split
      next own =>
        rw [own, Option.map_map]
        exact Option.map_congr fun p _ => notice _ p
      next => rfl
    · rfl
  cases allowed : segmentAllowed ch s with
  | false =>
    have refused : startSegment ch r s = (setChannel ch (.paused r) s, false) := by simp [startSegment, allowed]
    rw [refused]
    rfl
  | true =>
    obtain ⟨v, before, started⟩ : ∃ v, (plateAt v j).map F = (plateAt s j).map F ∧ startSegment ch r s =
        (if lampIsOn ch (lampOn ch r.level v) then
          (setChannel ch (.integrating (freshSegment (recordingResumes s) r)) (lampOn ch r.level v), true)
        else (setChannel ch (.paused { freshSegment (recordingResumes s) r with segment := r.segment })
          (modResult r.slot ch (fun x => { x with segments := r.segment }) (lampOn ch r.level v)), false)) := by
      unfold startSegment
      rw [if_pos allowed]
      refine ⟨_, ?_, rfl⟩
      rw [warned, resumes, counted]
    have lit : (plateAt (lampOn ch r.level v) j).map F = (plateAt s j).map F := by
      rw [plateAt_congr (s := v) (by simp), before]
    rw [started]
    split
    · exact lit
    · exact (counted _ _).trans lit

theorem startSegment_state (ch : LampChannel) (r : RunRecord) (s : State) (j : Slot) :
    plateState (startSegment ch r s).1 j = plateState s j :=
  startSegment_record (F := (·.state)) (fun _ _ _ => rfl) (fun n p => (appendNotice_kept n p).1) r s j

theorem startSegment_outcome (ch : LampChannel) (r : RunRecord) (s : State) (j : Slot) :
    (plateAt (startSegment ch r s).1 j).map (fun p => (p.results.get ch).outcome)
      = (plateAt s j).map (fun p => (p.results.get ch).outcome) := by
  refine startSegment_record (F := fun p => (p.results.get ch).outcome) (fun p f kept => ?_) (fun n p => ?_) r s j
  · simp [kept]
  · rw [appendNotice_results]

theorem startSegment_started {ch : LampChannel} {r : RunRecord} (allowed : lampRefused ch s = false) :
    startSegment ch r s = ((startSegment ch r s).1, true) := by
  rw [← (startSegment_allowed (r := r) allowed).1]

/-! ### What the unit asks for (R74) -/

theorem exuMayWork_iff : exuMayWork s = true ↔ s.exu.state = .exposing ∧ s.exu.paused = true ∧ s.flt.lineState = .run
    ∧ inputActive .exuLid s = false ∧ isSet (.lampFail .back) s = false ∧ isSet (.lampFail .main) s = false := by
  simp [exuMayWork, exuLampFailed, and_assoc]

theorem askExposure_waits (idle : exuMayWork s = false) : askExposure s = s := by
  unfold askExposure askMain
  simp only [idle, Bool.false_eq_true, if_false]
  (repeat' split) <;> rfl

theorem askExposure_starts {st : Substage} {k : Slot} {v : State} (may : exuMayWork s = true)
    (substage : s.exu.substage = some st) (plate : s.exu.plate = some k)
    (started : exuRequest st.channel k s = (v, .started)) : askExposure s = modExu (fun e => { e with paused := false }) v := by
  cases st with
  | main =>
    have request : exuRequest .main k s = (v, .started) := started
    simp [askExposure, askMain, substage, may, plate, request, exuAnswer]
  | back =>
    have request : exuRequest .back k s = (v, .started) := started
    simp [askExposure, substage, may, plate, request, exuAnswer]

theorem lampRefused_exposure {c : LampChannel} (exposure : c = .back ∨ c = .main) (inhibit : inhibitActive s = false)
    (lid : inputActive .exuLid s = false) : lampRefused c s = false := by
  rcases exposure with rfl | rfl
  · simp [lampRefused, inhibit, lid]
  · simp [lampRefused, inhibit, lid]

theorem Substage.channel_exposure (st : Substage) : st.channel = .back ∨ st.channel = .main := by
  cases st with
  | back => exact .inl rfl
  | main => exact .inr rfl

/-! ### The continuation of an ended run (R55) -/

theorem continueRun_continues {c : LampChannel} {k : Slot} {run : RunRecord} {how : RunEnding} {extension : Nat}
    (ended : channelAt s c = .ended run how) (may : continuable how = true) (own : run.slot = k)
    (allowed : lampRefused c s = false) : continueRun c k extension s = ((startSegment c
      { run with nCap := run.nCap + capRaise run.nNom extension }
      (modResult k c (fun x => { x with outcome := .notRun }) s)).1, .started) := by
  have still : lampRefused c (modResult k c (fun x => { x with outcome := .notRun }) s) = false :=
    (lampRefused_congr (inputActive_congr (by simp) (by simp)) c).trans allowed
  have opens := startSegment_started (r := { run with nCap := run.nCap + capRaise run.nNom extension }) still
  subst own
  simp only [continueRun, ended, may, and_self, if_true]
  rw [opens]

/-! ### PLATE_RESUME (R24, R80, R81, R135) -/

theorem actPlateResume_eq (how hi lo x : Byte) (s : State) : actPlateResume [how, hi, lo, x] s =
    if 10 ≤ x.toNat ∧ x.toNat ≤ 200 then withPlate (selectorOf how hi lo) (resumePlate x.toNat) s
    else (s, refusal .badField) := rfl

theorem unhold_held {k : Slot} {r : PlateRecord} (dst : PlateState) (at_ : plateAt s k = some r) (held : r.state = .held) :
    unhold k dst s = setPlate k (some { r with held := none, state := dst }) s := by
  simp [unhold, movePlate, at_, held]

section Resume
variable {r : PlateRecord} {reason : HoldReason}

theorem resumePlate_exu (extension : Nat) (k : Slot) (held : r.state = .held) (at_ : r.held = some (.exu, reason))
    (accepts : exuAcceptsResume reason s = true) : resumePlate extension k r s
      = (exuResume extension reason (unhold k .exposing s), okReply []) := by
  simp [resumePlate, held, at_, accepts]

theorem resumePlate_lfn (extension : Nat) (k : Slot) (held : r.state = .held) (at_ : r.held = some (.lfn, reason))
    (accepts : lfnAcceptsResume reason s = true) : resumePlate extension k r s
      = (lfnResume extension reason (unhold k .finishing s), okReply []) := by
  simp [resumePlate, held, at_, accepts]

theorem resumePlate_refused (extension : Nat) (k : Slot) (refuses : r.state ≠ .held
      ∨ (∃ reason, r.held = some (.exu, reason) ∧ exuAcceptsResume reason s = false)
      ∨ ∃ reason, r.held = some (.lfn, reason) ∧ lfnAcceptsResume reason s = false) :
    resumePlate extension k r s = (s, refusal .wrongState) := by
  unfold resumePlate
  split
  next reason held at_ =>
    rcases refuses with other | ⟨reason', own, no⟩ | ⟨reason', own, -⟩
    · exact absurd held other
    · rw [at_] at own
      cases own
      rw [no]
      rfl
    · rw [at_] at own
      cases own
  next reason held at_ =>
    rcases refuses with other | ⟨reason', own, -⟩ | ⟨reason', own, no⟩
    · exact absurd held other
    · rw [at_] at own
      cases own
    · rw [at_] at own
      cases own
      rw [no]
      rfl
  next => rfl

end Resume

/-- Outside RUN a resume accepted at the exposure unit leaves its continuation pending. -/
theorem exuResume_waits (extension : Nat) (reason : HoldReason) (line : s.flt.lineState ≠ .run) :
    exuResume extension reason s = modExu (fun e => { e with
      state := .exposing
      paused := true
      contPending := true
      extension := extension
      resumeReason := reason }) s := by
  refine askExposure_waits ?_
  simpa [exuMayWork] using fun eq => absurd eq line

/-- Outside RUN a resume accepted at the finisher, neither run begun, leaves the station RUNNING. -/
theorem lfnResume_waits (extension : Nat) (reason : HoldReason) (line : s.flt.lineState ≠ .run)
    (uva : s.lfn.uva = ⟨.waiting, false⟩) (uvc : s.lfn.uvc = ⟨.waiting, false⟩) :
    lfnResume extension reason s = modLfn (fun l => { l with
      state := .running
      extension := extension
      resumeReason := reason }) s := by
  obtain ⟨v, vEq⟩ : ∃ v, v = modLfn (fun l => { l with
      state := .running
      extension := extension
      resumeReason := reason }) s := ⟨_, rfl⟩
  have marked : modLfn (fun l => { l with
      state := .running
      uva := markContinuation l.uva
      uvc := markContinuation l.uvc
      extension := extension
      resumeReason := reason }) s = v := by
    simp [vEq, modLfn, markContinuation, uva, uvc]
  have idle : lfnMayWork v = false := by
    rw [vEq]
    simpa [lfnMayWork, modLfn] using fun eq => absurd eq line
  have channel (c : FinisherLamp) : askFinisherChannel c v = v := by
    unfold askFinisherChannel
    simp only [idle, Bool.false_eq_true, if_false]
    split <;> rfl
  have waiting : v.lfn.uva.status ≠ .done := by
    rw [vEq]
    simp [modLfn, uva]
  have unfinished : testFinished v = v := by
    unfold testFinished
    split
    · exact if_neg fun h => waiting h.2.1
    · rfl
  rw [lfnResume, marked, askFinisher, channel, channel, unfinished, vEq]

/-- Settles O34: the refusals of `resumePlate`, the resumes that wait, and the one that starts a segment. -/
theorem Requests.plateResume : Obligations.PlateResume := by
  unfold Obligations.PlateResume
  refine ⟨?_, ?_⟩
  · intro tag how hi lo x s ready answers
    obtain ⟨u, uEq⟩ : ∃ u, u = serving (.frame ⟨38#8, tag, [how, hi, lo, x]⟩) s := ⟨_, rfl⟩
    have refused {st : Status} (same : actPlateResume [how, hi, lo, x] u = (u, refusal st)) : answers st :=
      request_answered (uEq ▸ same) (by simp) rfl ready
    have named : selected how hi lo u = selected how hi lo s := by rw [uEq]; rfl
    refine ⟨fun bad => refused ?_, fun low high selector missing => refused ?_, fun k r low high found at_ => ?_⟩
    · rw [actPlateResume_eq]
      split
      next range =>
        rcases bad with low | high | none
        · omega
        · omega
        · exact withPlate_badField _ none
      next => rfl
    · rw [actPlateResume_eq, if_pos ⟨low, high⟩]
      exact withPlate_notFound _ selector (named.trans missing)
    · have atU : plateAt u k = some r := by rw [uEq]; exact at_
      have part : actPlateResume [how, hi, lo, x] u = resumePlate x.toNat k r u := by
        rw [actPlateResume_eq, if_pos ⟨low, high⟩]
        exact withPlate_found _ (named.trans found) atU
      have set (f : Flag) : isSet f u = isSet f s := by rw [uEq]; rfl
      refine ⟨fun other => ?_, fun held by_ => ?_, fun st held by_ substage flag => ?_, fun held by_ failed flag => ?_,
        fun held line by_ => ?_, fun held line by_ uva uvc => ?_⟩
      · exact refused (part.trans (resumePlate_refused _ _ (.inl other)))
      · exact refused (part.trans (resumePlate_refused _ _ (.inr (.inl ⟨_, by_, rfl⟩))))
      · refine refused (part.trans (resumePlate_refused _ _ (.inr (.inl ⟨_, by_, ?_⟩))))
        have substageU : u.exu.substage = some st := by rw [uEq]; exact substage
        simp [exuAcceptsResume, substageU, set, flag]
      · refine refused (part.trans (resumePlate_refused _ _ (.inr (.inr ⟨_, by_, ?_⟩))))
        have failedU : u.lfn.uva.status = .failed := by rw [uEq]; exact failed
        simp [lfnAcceptsResume, failedAndFlagged, finisherRun, failedU, FinisherLamp.channel, set, flag]
      · obtain ⟨reason, own, accepts⟩ : ∃ reason, r.held = some (.exu, reason) ∧ exuAcceptsResume reason u = true := by
          rcases by_ with underdose | ⟨lampFail, st, substage, clear⟩
          · exact ⟨_, underdose, rfl⟩
          · have substageU : u.exu.substage = some st := by rw [uEq]; exact substage
            exact ⟨_, lampFail, by simp [exuAcceptsResume, substageU, set, clear]⟩
        have waits := part.trans (resumePlate_exu x.toNat k held own accepts)
        rw [unhold_held .exposing atU held, exuResume_waits _ _ (by rw [uEq]; exact line), uEq] at waits
        exact ⟨reason, own, request_served waits ready.2.1 (by simp) rfl ready⟩
      · have waits := part.trans (resumePlate_lfn x.toNat k held by_ rfl)
        rw [unhold_held .finishing atU held, lfnResume_waits _ _ (by rw [uEq]; exact line) (by rw [uEq]; exact uva)
          (by rw [uEq]; exact uvc), uEq] at waits
        exact request_served waits ready.2.1 (by simp) rfl ready
  · intro tag how hi lo x k r st run s ready low high found at_ held by_ line plate substage ended own inhibit lid back main
    obtain ⟨u, uEq⟩ : ∃ u, u = serving (.frame ⟨38#8, tag, [how, hi, lo, x]⟩) s := ⟨_, rfl⟩
    obtain ⟨w, wEq⟩ : ∃ w, w = modExu (fun e => { e with
        state := .exposing
        paused := true
        contPending := true
        extension := x.toNat
        resumeReason := .underdose }) (setPlate k (some { r with held := none, state := .exposing }) u) := ⟨_, rfl⟩
    have atU : plateAt u k = some r := by rw [uEq]; exact at_
    have part : actPlateResume [how, hi, lo, x] u = (askExposure w, okReply []) := by
      have named : selected how hi lo u = some k := by rw [uEq]; exact found
      rw [actPlateResume_eq, if_pos ⟨low, high⟩, withPlate_found _ named atU, resumePlate_exu x.toNat k held by_ rfl,
        unhold_held .exposing atU held, wEq]
      rfl
    have lidW : inputActive .exuLid w = false := by rw [wEq, uEq]; exact lid
    have inhibitW : inhibitActive w = false := by rw [wEq, uEq]; exact inhibit
    have may : exuMayWork w = true := by
      refine exuMayWork_iff.2 ⟨by rw [wEq]; rfl, by rw [wEq]; rfl, ?_, lidW, ?_, ?_⟩
      · rw [wEq, uEq]
        exact line
      · rw [wEq, uEq]
        exact back
      · rw [wEq, uEq]
        exact main
    have allowed := lampRefused_exposure st.channel_exposure inhibitW lidW
    have endedW : channelAt w st.channel = .ended run .underdose := by rw [wEq, uEq]; exact ended
    have atW : plateAt w k = some { r with held := none, state := .exposing } := by
      rw [wEq]
      exact plateAt_setPlate_self k _ u
    obtain ⟨w1, w1Eq⟩ : ∃ w1, w1 = modResult k st.channel (fun x => { x with outcome := .notRun }) w := ⟨_, rfl⟩
    obtain ⟨run1, run1Eq⟩ : ∃ run1 : RunRecord, run1 = { run with nCap := run.nCap + capRaise run.nNom x.toNat } := ⟨_, rfl⟩
    have continued : continueRun st.channel k x.toNat w = ((startSegment st.channel run1 w1).1, .started) := by
      rw [continueRun_continues endedW rfl own allowed, w1Eq, run1Eq]
    have request : exuRequest st.channel k w
        = (modExu (fun e => { e with contPending := false }) (startSegment st.channel run1 w1).1, .started) := by
      have pending : w.exu.contPending = true := by rw [wEq]; rfl
      have extension : w.exu.extension = x.toNat := by rw [wEq]; rfl
      simp [exuRequest, pending, extension, continued]
    have starts := askExposure_starts may (by rw [wEq, uEq]; exact substage) (by rw [wEq, uEq]; exact plate) request
    have allowed1 : lampRefused st.channel w1 = false :=
      (lampRefused_congr (inputActive_congr (by simp [w1Eq]) (by simp [w1Eq])) _).trans allowed
    obtain ⟨-, channel, level⟩ := startSegment_allowed (r := run1) allowed1
    have frame : w1.exu = w.exu ∧ w1.ptb.queue = s.ptb.queue ∧ w1.rss = s.rss ∧ w1.wou = s.wou ∧ w1.dry = s.dry
        ∧ w1.lfn = s.lfn ∧ w1.trc = s.trc ∧ w1.lio.drives = s.lio.drives ∧ w1.flt = s.flt ∧ w1.din = s.din
        ∧ w1.lnk.tx = s.lnk.tx := by
      simp [w1Eq, wEq, uEq, serving]
    obtain ⟨exu, queue, rss, wou, dry, lfn, trc, drives, flt, din, tx⟩ := frame
    have goes := goesOn_startSegment st.channel run1 w1
    have stateV := startSegment_state st.channel run1 w1 k
    have outcomeV := startSegment_outcome st.channel run1 w1 k
    obtain ⟨-, -, queueV, -, rssV, exuV, wouV, dryV, lfnV, trcV, -, drivesV, fltV, lnkV⟩ :=
      startSegment_frame st.channel run1 w1
    rw [starts, uEq] at part
    generalize (startSegment st.channel run1 w1).1 = v at *
    have runs := request_served part (show v.flt.lineState ≠ .init by rw [fltV, flt]; exact ready.2.1) (by simp) rfl ready
    refine ⟨_, freshSegment (recordingResumes w1) run1, runs, channel, ?_, ?_, ?_, rfl, rfl, ?_, ?_, ?_, ?_⟩
    · rw [run1Eq]
      rfl
    · exact level.trans (by rw [run1Eq])
    · show v.exu.state = .exposing
      rw [exuV, exu, wEq]
      rfl
    · refine stateV.trans ?_
      rw [w1Eq, plateState, modResult, plateAt_modPlate, if_pos rfl, atW]
      rfl
    · refine outcomeV.trans ?_
      rw [w1Eq, modResult, plateAt_modPlate, if_pos rfl, atW]
      simp
    · exact congrArg (· ++ _) ((congrArg (·.tx) lnkV).trans tx)
    · exact ⟨queueV.trans queue, rssV.trans rss, wouV.trans wou, dryV.trans dry, lfnV.trans lfn, trcV.trans trc,
        drivesV.trans drives, fltV.trans flt, goes.lampOn.trans (by rw [din]), goes.trace.trans (by rw [din])⟩

end Sys2Proof.Machine
end


section
/-! SUPPORT. The intake and the load: tags, the table's sensor, and the back run that a completed load starts (R20, R21,
R68 to R74, R83, R84). -/
namespace Sys2Proof.Machine
variable {s t u : State} {k : Slot}

theorem setPlate_plates (k : Slot) (r : Option PlateRecord) (s : State) :
    (setPlate k r s).ptb.plates = s.ptb.plates.set k.val r k.isLt := rfl

/-! ### Work on one plate leaves the others -/

/-- From `s` to `t` no record but that in slot `k` changes. -/
def OnlyPlate (k : Slot) (s t : State) : Prop := ∀ j, j ≠ k → plateAt t j = plateAt s j

namespace OnlyPlate

theorem of_plates (h : t.ptb.plates = s.ptb.plates) : OnlyPlate k s t := fun j _ => plateAt_congr h j

theorem refl (s : State) : OnlyPlate k s s := fun _ _ => rfl

theorem trans (h : OnlyPlate k s t) (g : OnlyPlate k t u) : OnlyPlate k s u := fun j other => (g j other).trans (h j other)

theorem of_answer {α : Type} {x : State × α} {a : α} (eq : x = (t, a)) (h : OnlyPlate k s x.1) : OnlyPlate k s t := by
  rw [eq] at h
  exact h

theorem modPlate (f : PlateRecord → PlateRecord) (s : State) : OnlyPlate k s (modPlate k f s) := fun j other => by
  rw [plateAt_modPlate, if_neg other]

theorem modResult (ch : LampChannel) (f : RunResult → RunResult) (s : State) : OnlyPlate k s (modResult k ch f s) :=
  OnlyPlate.modPlate _ s

theorem holdPlate (at_ : Station) (reason : HoldReason) (s : State) : OnlyPlate k s (holdPlate k at_ reason s) :=
  fun j other => by rw [plateAt_holdPlate, if_neg other]

end OnlyPlate

theorem onlyPlate_startSegment (ch : LampChannel) {r : RunRecord} (own : r.slot = k) (s : State) :
    OnlyPlate k s (startSegment ch r s).1 := by
  subst own
  have warned (v : State) : OnlyPlate r.slot v (if lampPast v ch then addNotice r.slot .lampLife v else v) := by
    split
    · exact .modPlate _ v
    · exact .refl v
  have resumes (b : Bool) (v : State) :
      OnlyPlate r.slot v (if b then modDin (fun d => { d with traceActive := true }) v else v) := by
    split
    · exact .of_plates rfl
    · exact .refl v
  cases allowed : segmentAllowed ch s with
  | false =>
    have refused : startSegment ch r s = (setChannel ch (.paused r) s, false) := by simp [startSegment, allowed]
    rw [refused]
    exact .of_plates rfl
  | true =>
    obtain ⟨v, before, started⟩ : ∃ v, OnlyPlate r.slot s v ∧ startSegment ch r s =
        (if lampIsOn ch (lampOn ch r.level v) then
          (setChannel ch (.integrating (freshSegment (recordingResumes s) r)) (lampOn ch r.level v), true)
        else (setChannel ch (.paused { freshSegment (recordingResumes s) r with segment := r.segment })
          (modResult r.slot ch (fun x => { x with segments := r.segment }) (lampOn ch r.level v)), false)) := by
      unfold startSegment
      rw [if_pos allowed]
      exact ⟨_, ((OnlyPlate.modResult _ _ _).trans (resumes _ _)).trans (warned _), rfl⟩
    have lit : OnlyPlate r.slot s (lampOn ch r.level v) := before.trans (.of_plates (by simp))
    rw [started]
    split
    · exact lit.trans (.of_plates rfl)
    · exact (lit.trans (.modResult _ _ _)).trans (.of_plates rfl)

theorem onlyPlate_startRun (ch : LampChannel) (k : Slot) (s : State) : OnlyPlate k s (startRun ch k s).1 := by
  unfold startRun
  split
  · exact .refl s
  next p _ =>
    split
    · split
      · exact (OnlyPlate.modResult ch _ s).trans (.of_plates rfl)
      · have started := onlyPlate_startSegment (k := k) ch (r := openRun k p ch (lampCal s ch).eNom) rfl s
        split
        next eq => exact .of_answer eq started
        next eq => exact .of_answer eq started
    · exact .refl s

theorem onlyPlate_exuRequest (ch : LampChannel) (k : Slot) (s : State) : OnlyPlate k s (exuRequest ch k s).1 := by
  have continued : OnlyPlate k s (continueRun ch k s.exu.extension s).1 := by
    unfold continueRun
    split
    next r ending _ =>
      split
      next own =>
        have started := (OnlyPlate.modResult (k := k) ch (fun x => { x with outcome := .notRun }) s).trans
          (onlyPlate_startSegment ch (r := { r with nCap := r.nCap + capRaise r.nNom s.exu.extension }) own.2 _)
        split
        next eq => exact .of_answer eq started
        next eq => exact .of_answer eq started
      next => exact .refl s
    next => exact .refl s
  have starts : OnlyPlate k s (askStart ch k s).1 := by
    have run := onlyPlate_startRun ch k s
    unfold askStart
    split
    next eq => exact .of_answer eq run
    next eq => exact .of_answer eq run
    next eq => exact .of_answer eq run
    next eq => exact .of_answer eq run
  unfold exuRequest
  split
  · split
    next eq => exact (OnlyPlate.of_answer eq continued).trans (.of_plates rfl)
    next eq => exact (OnlyPlate.of_answer eq continued).trans (.of_plates rfl)
    next eq => exact .of_answer eq continued
  · unfold askFresh
    split
    next r _ =>
      split
      next own =>
        have segment := onlyPlate_startSegment ch own s
        unfold askSegment
        split
        next eq => exact .of_answer eq segment
        next eq => exact .of_answer eq segment
      next => exact starts
    next => exact starts

theorem onlyPlate_exuAnswer (k : Slot) (x : State × WorkAnswer) : OnlyPlate k x.1 (exuAnswer k x) := by
  unfold exuAnswer
  split
  · exact .of_plates rfl
  · exact .refl _
  · exact .refl _
  · exact (OnlyPlate.holdPlate .exu _ _).trans (.of_plates rfl)

theorem onlyPlate_askMain (plate : s.exu.plate = some k) : OnlyPlate k s (askMain s) := by
  unfold askMain
  rw [plate]
  split
  · exact (onlyPlate_exuRequest .main k s).trans (onlyPlate_exuAnswer _ _)
  · exact .refl s

theorem exuRequest_plate (ch : LampChannel) (k : Slot) (s : State) : (exuRequest ch k s).1.exu.plate = s.exu.plate := by
  unfold exuRequest
  split
  · have kept : (continueRun ch k s.exu.extension s).1.exu = s.exu := by simp
    split
    next eq =>
      rw [eq] at kept
      exact congrArg (·.plate) kept
    next eq =>
      rw [eq] at kept
      exact congrArg (·.plate) kept
    next eq =>
      rw [eq] at kept
      exact congrArg (·.plate) kept
  · simp

theorem onlyPlate_askExposure (plate : s.exu.plate = some k) : OnlyPlate k s (askExposure s) := by
  unfold askExposure
  rw [plate]
  split
  · exact onlyPlate_askMain plate
  · split
    · have asked := onlyPlate_exuRequest .back k s
      have station := exuRequest_plate .back k s
      dsimp only
      split
      next skipped =>
        rw [skipped] at station
        exact ((OnlyPlate.of_answer skipped asked).trans (.of_plates rfl)).trans
          (onlyPlate_askMain (station.trans plate))
      next => exact asked.trans (onlyPlate_exuAnswer k _)
    · exact .refl s
  · exact .refl s

/-! ### Tags (R20, R21, R70) -/

theorem exec_intakeTag {n : Nat} (power : s.powered = true) (range : n ≤ 65534) :
    exec (.intakeTagArrival n) s = .next (takeIntakeTag n s) := by
  have ok : tagWellFormed n = true := decide_eq_true range
  exact (if_pos ok).trans (event_on power)

theorem matchTag_of_queued {n : Nat} {p : PlateRecord} (lawful : TableLawful s) (read : n ≠ 0) (at_ : plateAt s k = some p)
    (id : p.plateId = n) (queued : p.state = .queued) : matchTag n s = some k := by
  have found : slotOfId s n = some k := (slotOfId_eq_some_iff lawful n k).2 ⟨p, at_, id⟩
  simp [matchTag, read, found, plateState, at_, queued]

theorem matchTag_unmatched {n : Nat} (none_ : n = 0 ∨ ∀ k p, plateAt s k = some p → p.plateId = n → p.state ≠ .queued) :
    matchTag n s = none := by
  unfold matchTag
  split
  next => rfl
  next read =>
    split
    next => rfl
    next k found =>
      refine if_neg fun queued => ?_
      obtain ⟨p, at_, id⟩ := carriesId_iff.1 (List.find?_some found)
      rcases none_ with zero | other
      · exact read zero
      · rw [plateState, at_] at queued
        exact other k p at_ id (Option.some.inj queued)

theorem reportQueueEmpty_reports (s : State) :
    (s.ptb.queue = [] → attnHas (reportQueueEmpty s).lnk.attnPending .queueEmpty = true) := fun empty => by
  rw [reportQueueEmpty, if_pos empty, raiseAttn_pending, attnHas_or, attnHas_attnBit]
  simp

theorem driveState_updateRollers {c : DriveChannel} (other : c ≠ .intakeRollers) (s : State) :
    driveState c (updateRollers s) = driveState c s := by
  unfold updateRollers
  split
  · split
    · rw [driveState_driveOff, if_neg fun h => other h.1]
    · rw [driveState_driveOn, if_neg fun h => other h.1]
  · rfl

theorem updateRollers_runs (load : s.exu.state = .load) (lid : inputActive .exuLid s = false)
    (inhibit : inhibitActive s = false) (works : driveFaulted .intakeRollers s = false) :
    driveIsOn .intakeRollers (updateRollers s) = true := by
  have eq : updateRollers s = driveOn .intakeRollers .none s := by simp [updateRollers, load, lid, inhibit]
  rw [eq, driveIsOn, driveState_driveOn, if_pos ⟨rfl, works, .inr inhibit⟩]

/-- A matched tag draws its plate in (R20). -/
theorem takeIntakeTag_matched {n : Nat} {p : PlateRecord} (reading : s.exu.readInProgress = true)
    (match_ : matchTag n s = some k) (at_ : plateAt s k = some p) (queued : p.state = .queued) :
    ∃ v, takeIntakeTag n s = reportQueueEmpty (updateRollers v)
      ∧ v.ptb = { s.ptb with
          plates := s.ptb.plates.set k.val
            (some { p with state := .loading, intakePosition := some (s.ptb.queue.idxOf k + 1) }) k.isLt
          queue := s.ptb.queue.filter (· ≠ k) }
      ∧ v.exu = { s.exu with
          readInProgress := false
          state := .load
          plate := some k
          loadTimer := 0 }
      ∧ v.rss = s.rss ∧ v.din = s.din ∧ v.wou = s.wou ∧ v.dry = s.dry ∧ v.lfn = s.lfn ∧ v.trc = s.trc ∧ v.flt = s.flt
      ∧ v.lio = s.lio := by
  have found : matchTag n (modExu (fun e => { e with readInProgress := false }) s) = some k := match_
  have moved : movePlate k .queued .loading (fun r => { r with intakePosition := some (queuePosition s k) })
      (modExu (fun e => { e with readInProgress := false }) s) = setPlate k (some { p with
        intakePosition := some (queuePosition s k)
        state := .loading }) (modExu (fun e => { e with readInProgress := false }) s) := by
    have here : plateAt (modExu (fun e => { e with readInProgress := false }) s) k = some p := at_
    simp [movePlate, here, queued]
  have position : queuePosition (modExu (fun e => { e with readInProgress := false }) s) k = queuePosition s k := rfl
  refine ⟨modExu (fun e => { e with state := .load, plate := some k, loadTimer := 0 })
    (loadMatched k (modExu (fun e => { e with readInProgress := false }) s)), ?_, ?_⟩
  · simp only [takeIntakeTag, reading, if_true, found]
  · rw [loadMatched, position, moved]
    exact ⟨rfl, rfl, rfl, rfl, rfl, rfl, rfl, rfl, rfl, rfl⟩

/-- Any other tag is noted, and what stands on the table is waited for (R21, R83). -/
theorem takeIntakeTag_unmatched {n : Nat} (reading : s.exu.readInProgress = true) (none_ : matchTag n s = none) :
    ∃ v, takeIntakeTag n s = (if inputActive .exuPresent s then modExu (fun e => { e with
        state := .clearWait
        plate := none
        substage := none
        paused := false
        contPending := false }) v else v)
      ∧ v = unmatchedTag n (modExu (fun e => { e with readInProgress := false }) s) := by
  have missed : matchTag n (modExu (fun e => { e with readInProgress := false }) s) = none := none_
  obtain ⟨v, vEq⟩ : ∃ v, v = unmatchedTag n (modExu (fun e => { e with readInProgress := false }) s) := ⟨_, rfl⟩
  have present : inputActive .exuPresent v = inputActive .exuPresent s :=
    inputActive_congr (by simp [vEq]) (by simp [vEq]) .exuPresent
  refine ⟨v, ?_, vEq⟩
  simp only [takeIntakeTag, reading, if_true, missed, ← vEq, present]
  split
  next occupied =>
    have still : inputActive .exuPresent (modExu (fun e => { e with
        state := .clearWait
        plate := none
        substage := none
        paused := false
        contPending := false }) v) = true := present.trans occupied
    simp only [exuEnterClearWait, still, if_true]
  next => rfl

/-! ### The table's and the intake's sensors (R68, R69, R83, R84) -/

/-- The part of R69's conditions that the sensors do not give. -/
def MayRead (s : State) : Prop :=
  s.exu.readInProgress = false ∧ s.flt.lineState = .run ∧ isSet .storeCheck s = false
    ∧ isSet (.lampFail .back) s = false ∧ isSet (.lampFail .main) s = false ∧ isSet .loadTimeout s = false
    ∧ isSet (.driveFault .intakeRollers) s = false

theorem intakeReady_iff : intakeReady s = true ↔ MayRead s ∧ s.exu.state = .empty ∧ s.exu.armed = true
    ∧ inputActive .intakePresent s = true ∧ inputActive .exuPresent s = false := by
  simp only [intakeReady, intakeFlagged, MayRead, Bool.and_eq_true, Bool.not_eq_true', Bool.or_eq_false_iff, beq_iff_eq]
  tauto

theorem tryIntake_ready (ready : intakeReady s = true) :
    tryIntake s = modExu (fun e => { e with readInProgress := true, armed := false }) s := if_pos ready

theorem tryIntake_waits (ready : ¬ intakeReady s = true) : tryIntake s = s := if_neg ready

section Sensors
variable {i : Fin 12}

theorem exec_exuPresent {active : Bool} (h : Changes i .exuPresent active s) :
    exec (.debounceExpiry i) s = .next (exuPresentChange active (flipped i s)) := exec_debounce h

theorem exec_intakePresent {active : Bool} (h : Changes i .intakePresent active s) :
    exec (.debounceExpiry i) s = .next (intakePresentChange active (flipped i s)) := exec_debounce h

theorem mayRead_flipped : MayRead (flipped i s) ↔ MayRead s := .rfl

/-- The table clears (R84): the station is EMPTY, and the reader starts when R69 holds. -/
theorem exuCleared (state : s.exu.state = .empty ∨ s.exu.state = .clearWait) :
    exuPresentChange false (flipped i s) = tryIntake (modExu (fun e => { e with state := .empty }) (flipped i s)) := by
  rcases state with empty | waits
  · have same : modExu (fun e => { e with state := .empty }) (flipped i s) = flipped i s := by
      rw [modExu, ← empty]
      rfl
    have here : (flipped i s).exu.state = .empty := empty
    simp only [exuPresentChange, here, same, Bool.false_eq_true, if_false]
  · have here : (flipped i s).exu.state = .clearWait := waits
    simp only [exuPresentChange, here, Bool.false_eq_true, if_false, exuEnterEmpty]

end Sensors

/-- A plate nobody sent for takes the table to CLEAR_WAIT (R83). -/
theorem exuPresentChange_unknown (empty : s.exu.state = .empty) (quiet : s.exu.readInProgress = false)
    (present : inputActive .exuPresent s = true) : exuPresentChange true s = modExu (fun e => { e with
      state := .clearWait
      plate := none
      substage := none
      paused := false
      contPending := false }) s := by
  have still : inputActive .exuPresent (modExu (fun e => { e with
      state := .clearWait
      plate := none
      substage := none
      paused := false
      contPending := false }) s) = true := present
  simp only [exuPresentChange, empty, quiet, exuEnterClearWait, if_true, Bool.false_eq_true, if_false, still]

/-- While a reading is in progress the station waits for its tag (R21). -/
theorem exuPresentChange_reading (empty : s.exu.state = .empty) (reading : s.exu.readInProgress = true) :
    exuPresentChange true s = s := by
  simp only [exuPresentChange, empty, reading, if_true]

/-- Where the sensor's change says nothing to the station (R68, R72, R83, R84). -/
theorem exuPresentChange_idle {active : Bool}
    (h : s.exu.state = .exposing ∨ s.exu.state = .exposed ∨ s.exu.state = .held ∨ active = false ∧ s.exu.state = .load
      ∨ active = true ∧ s.exu.state = .clearWait) : exuPresentChange active s = s := by
  rcases h with h | h | h | ⟨rfl, h⟩ | ⟨rfl, h⟩ <;> simp [exuPresentChange, h]

/-! ### The load (R71 to R74) -/

theorem loadTimeout_expires (load : s.exu.state = .load) (on : driveIsOn .intakeRollers s = true)
    (plate : s.exu.plate = some k) : loadTimeout s = modExu (fun e => { e with substage := none })
      (exuEnterHeld k .loadTimeout (setFlag .loadTimeout (driveOff .intakeRollers s))) := by
  have runs : loadTimerRuns s = true := by simp [loadTimerRuns, load, on]
  simp [loadTimeout, runs, plate]

theorem loadTimeout_idle (h : s.exu.state ≠ .load ∨ driveIsOn .intakeRollers s = false) : loadTimeout s = s := by
  have idle : ¬ loadTimerRuns s = true := by
    simp only [loadTimerRuns, Bool.and_eq_true, beq_iff_eq]
    rintro ⟨load, on⟩
    rcases h with other | off
    · exact other load
    · rw [off] at on
      cases on
  exact if_neg idle

/-- The holding of a plate at a station (R9). -/
theorem holdPlate_holds {p : PlateRecord} (at_ : plateAt s k = some p) (may : p.state.holdable = true) (station : Station)
    (reason : HoldReason) : holdPlate k station reason s = raiseAttn .plateHeld
      (setPlate k (some (appendNotice reason.notice { p with state := .held, held := some (station, reason) })) s) := by
  simp [holdPlate, at_, may]

/-- A started back run, from a station that has just loaded its plate (R74, R46). -/
theorem askExposure_runs {p : PlateRecord} (may : exuMayWork s = true) (substage : s.exu.substage = some .back)
    (plate : s.exu.plate = some k) (fresh : s.exu.contPending = false) (at_ : plateAt s k = some p)
    (free : channelAt s .back = .idle ∨ ∃ r how, channelAt s .back = .ended r how) (target : 0 < p.working.back.target)
    (allowed : lampRefused .back s = false) :
    askExposure s = modExu (fun e => { e with paused := false })
      (startSegment .back (openRun k p .back (lampCal s .back).eNom) s).1 := by
  refine askExposure_starts may substage plate ?_
  have run : startRun .back k s = ((startSegment .back (openRun k p .back (lampCal s .back).eNom) s).1, .started) := by
    rw [startRun_target at_ free target, (startSegment_allowed allowed).1, if_pos rfl]
  have start : askStart .back k s = ((startSegment .back (openRun k p .back (lampCal s .back).eNom) s).1, .started) := by
    simp only [askStart, run]
  have asked : askFresh .back k s = askStart .back k s := by
    rcases free with idle | ⟨r, how, ended⟩
    · simp only [askFresh, idle]
    · simp only [askFresh, ended]
  have request : exuRequest .back k s = askFresh .back k s := by simp [exuRequest, fresh]
  rw [Substage.channel, request, asked, start]

/-- The station and its record when a load is complete, before the exposure is asked for (R74). -/
theorem loadComplete_asks {p : PlateRecord} (plate : s.exu.plate = some k) (at_ : plateAt s k = some p)
    (loading : p.state = .loading) : ∃ v, loadComplete s = askExposure v
      ∧ v = modExu (fun e => { e with
          state := .exposing
          substage := some .back
          paused := true
          contPending := false
          loadTimer := 0 })
        (setPlate k (some { p with state := .exposing }) (driveOff .intakeRollers s)) := by
  refine ⟨_, ?_, rfl⟩
  have here : plateAt (driveOff .intakeRollers s) k = some p := (plateAt_congr (by simp) k).trans at_
  have moved : movePlate k .loading .exposing id (driveOff .intakeRollers s)
      = setPlate k (some { p with state := .exposing }) (driveOff .intakeRollers s) := by
    simp [movePlate, here, loading]
  simp only [loadComplete, plate, moved]

/-! ### The statement, part by part -/

theorem tag_draws {n : Nat} {p : PlateRecord} (power : s.powered = true) (range : n ≤ 65534)
    (reading : s.exu.readInProgress = true) (lawful : TableLawful s) (read : n ≠ 0) (at_ : plateAt s k = some p)
    (id : p.plateId = n) (queued : p.state = .queued) : ∃ t, exec (.intakeTagArrival n) s = .next t
      ∧ t.ptb.plates = s.ptb.plates.set k.val
          (some { p with state := .loading, intakePosition := some (s.ptb.queue.idxOf k + 1) }) k.isLt
      ∧ t.ptb.queue = s.ptb.queue.filter (· ≠ k) ∧ t.ptb.lastUnmatched = s.ptb.lastUnmatched
      ∧ t.exu.state = .load ∧ t.exu.plate = some k ∧ t.exu.readInProgress = false ∧ t.exu.loadTimer = 0
      ∧ (inhibitActive s = false → inputActive .exuLid s = false → driveFaulted .intakeRollers s = false →
          driveIsOn .intakeRollers t = true)
      ∧ (t.ptb.queue = [] → attnHas t.lnk.attnPending .queueEmpty = true)
      ∧ (∀ c, c ≠ .intakeRollers → driveState c t = driveState c s)
      ∧ t.rss = s.rss ∧ t.din = s.din ∧ t.wou = s.wou ∧ t.dry = s.dry ∧ t.lfn = s.lfn ∧ t.trc = s.trc ∧ t.flt = s.flt
      ∧ t.lio.lamps = s.lio.lamps := by
  obtain ⟨v, eq, table, station, store, din, wou, dry, lfn, trc, flt, lines⟩ :=
    takeIntakeTag_matched reading (matchTag_of_queued lawful read at_ id queued) at_ queued
  have drives (c : DriveChannel) : driveState c v = driveState c s := driveState_congr (congrArg (·.drives) lines) c
  have runs (inhibit : inhibitActive s = false) (lid : inputActive .exuLid s = false)
      (works : driveFaulted .intakeRollers s = false) : driveIsOn .intakeRollers (updateRollers v) = true := by
    have senses (fn : InputFunction) : inputActive fn v = inputActive fn s :=
      inputActive_congr (congrArg (·.inputs) lines) (congrArg (·.working.cfg) store) fn
    exact updateRollers_runs (congrArg (·.state) station) ((senses _).trans lid) ((senses _).trans inhibit)
      ((driveFaulted_congr (congrArg (·.drives) lines) _).trans works)
  refine ⟨_, (exec_intakeTag power range).trans (congrArg Host.Outcome.next eq), ?_⟩
  refine ⟨by simp [table], by simp [table], by simp [table], by simp [station], by simp [station], by simp [station],
    by simp [station], fun inhibit lid works => ?_, fun empty => reportQueueEmpty_reports _ ?_, fun c other => ?_,
    by simp [store], by simp [din], by simp [wou], by simp [dry], by simp [lfn], by simp [trc], by simp [flt],
    by simp [lines]⟩
  · rw [driveIsOn_congr (s := updateRollers v) (by simp)]
    exact runs inhibit lid works
  · simpa using empty
  · rw [driveState_congr (s := updateRollers v) (by simp), driveState_updateRollers other, drives]

theorem tag_unknown {n : Nat} (power : s.powered = true) (range : n ≤ 65534) (reading : s.exu.readInProgress = true)
    (none_ : n = 0 ∨ ∀ k p, plateAt s k = some p → p.plateId = n → p.state ≠ .queued) :
    ∃ t, exec (.intakeTagArrival n) s = .next t
      ∧ t.ptb = { s.ptb with lastUnmatched := some n } ∧ t.flt.flags = s.flt.flags ||| flagBit .intakeUnknown
      ∧ t.exu.readInProgress = false ∧ t.exu.state = (if inputActive .exuPresent s then .clearWait else s.exu.state)
      ∧ t.rss = s.rss ∧ t.din = s.din ∧ t.wou = s.wou ∧ t.dry = s.dry ∧ t.lfn = s.lfn ∧ t.trc = s.trc
      ∧ t.lio.drives = s.lio.drives ∧ t.lio.lamps = s.lio.lamps ∧ t.flt.lineState = s.flt.lineState := by
  obtain ⟨v, eq, noted⟩ := takeIntakeTag_unmatched reading (matchTag_unmatched none_)
  refine ⟨_, (exec_intakeTag power range).trans (congrArg Host.Outcome.next eq), ?_⟩
  subst noted
  have table : (unmatchedTag n (modExu (fun e => { e with readInProgress := false }) s)).ptb
      = { s.ptb with lastUnmatched := some n } := by
    rw [unmatchedTag, (setFlag_frame .intakeUnknown _).2.2.1]
    rfl
  have flags : (unmatchedTag n (modExu (fun e => { e with readInProgress := false }) s)).flt.flags
      = s.flt.flags ||| flagBit .intakeUnknown := by
    rw [unmatchedTag, setFlag_flags]
    rfl
  split
  next => exact ⟨table, flags, by simp, rfl, by simp, by simp, by simp, by simp, by simp, by simp, by simp, by simp, by simp⟩
  next => exact ⟨table, flags, by simp, by simp, by simp, by simp, by simp, by simp, by simp, by simp, by simp, by simp,
    by simp⟩

theorem loadTimer_holds {p : PlateRecord} (power : s.powered = true) (load : s.exu.state = .load)
    (on : driveIsOn .intakeRollers s = true) (plate : s.exu.plate = some k) (at_ : plateAt s k = some p)
    (loading : p.state = .loading) : ∃ t, exec .loadTimerExpiry s = .next t
      ∧ t.ptb.plates = s.ptb.plates.set k.val
          (some (appendNotice .loadTimeout { p with state := .held, held := some (.exu, .loadTimeout) })) k.isLt
      ∧ t.ptb.queue = s.ptb.queue ∧ isSet .loadTimeout t = true ∧ attnHas t.lnk.attnPending .plateHeld = true
      ∧ driveState .intakeRollers t = .off ∧ t.exu.state = .held ∧ t.exu.plate = some k ∧ t.exu.substage = none
      ∧ (∀ c, c ≠ .intakeRollers → driveState c t = driveState c s)
      ∧ t.rss = s.rss ∧ t.din = s.din ∧ t.wou = s.wou ∧ t.dry = s.dry ∧ t.lfn = s.lfn ∧ t.trc = s.trc
      ∧ t.lio.lamps = s.lio.lamps ∧ t.flt.lineState = s.flt.lineState := by
  refine ⟨_, (event_on power).trans (congrArg Host.Outcome.next (loadTimeout_expires load on plate)), ?_⟩
  obtain ⟨v, vEq⟩ : ∃ v, v = setFlag .loadTimeout (driveOff .intakeRollers s) := ⟨_, rfl⟩
  have here : plateAt v k = some p := (plateAt_congr (by simp [vEq]) k).trans at_
  have drives (c : DriveChannel) : driveState c v = driveState c (driveOff .intakeRollers s) :=
    driveState_congr (by simp [vEq]) c
  have flagged : isSet .loadTimeout v = true := by simp [vEq, isSet_setFlag]
  have off : driveState .intakeRollers v = .off := by
    rw [drives, driveState_driveOff, if_pos ⟨rfl, on⟩]
  obtain ⟨w, wEq⟩ : ∃ w, w = raiseAttn .plateHeld (setPlate k
    (some (appendNotice HoldReason.loadTimeout.notice { p with state := .held, held := some (.exu, .loadTimeout) })) v) :=
    ⟨_, rfl⟩
  have plates : w.ptb.plates = s.ptb.plates.set k.val
      (some (appendNotice .loadTimeout { p with state := .held, held := some (.exu, .loadTimeout) })) k.isLt := by
    have table : v.ptb = s.ptb := by simp [vEq]
    rw [wEq, (raiseAttn_frame .plateHeld _).2.2.1, setPlate_plates, table]
    rfl
  have drivesHeld (c : DriveChannel) : driveState c w = driveState c v := driveState_congr (by simp [wEq]) c
  have report : attnHas w.lnk.attnPending .plateHeld = true := by
    rw [wEq, raiseAttn_pending, attnHas_or, attnHas_attnBit]
    simp
  rw [← vEq, exuEnterHeld, holdPlate_holds here (by rw [loading]; rfl), ← wEq]
  refine ⟨plates, by simp [wEq, vEq], (isSet_congr (by simp [wEq]) _).trans flagged, report, (drivesHeld _).trans off, rfl, ?_,
    rfl, fun c other => ?_, by simp [wEq, vEq], by simp [wEq, vEq], by simp [wEq, vEq], by simp [wEq, vEq],
    by simp [wEq, vEq], by simp [wEq, vEq], by simp [wEq, vEq], by simp [wEq, vEq]⟩
  · simp [wEq, vEq, plate]
  · exact ((drivesHeld c).trans (drives c)).trans (by rw [driveState_driveOff, if_neg fun h => other h.1])

theorem load_completes {i : Fin 12} {p : PlateRecord} (h : Changes i .exuPresent true s) (load : s.exu.state = .load)
    (plate : s.exu.plate = some k) (at_ : plateAt s k = some p) (loading : p.state = .loading) :
    let starts := s.flt.lineState = .run ∧ inputActive .exuLid s = false ∧ isSet (.lampFail .back) s = false
      ∧ isSet (.lampFail .main) s = false
    ∃ t, exec (.debounceExpiry i) s = .next t ∧ driveIsOn .intakeRollers t = false
      ∧ (∀ c, c ≠ .intakeRollers → driveState c t = driveState c s) ∧ t.lio.inputs = (flipped i s).lio.inputs
      ∧ (¬ starts → t.ptb.plates = s.ptb.plates.set k.val (some { p with state := .exposing }) k.isLt
        ∧ t.exu = { s.exu with state := .exposing, substage := some .back, paused := true, contPending := false,
                               loadTimer := 0 }
        ∧ t.din = s.din ∧ t.lio.lamps = s.lio.lamps)
      ∧ (starts → inhibitActive s = false → 0 < p.working.back.target →
        (channelAt s .back = .idle ∨ ∃ r how, channelAt s .back = .ended r how) →
        ∃ r, channelAt t .back = .integrating r ∧ r.slot = k ∧ r.target = p.working.back.target * 1000 ∧ r.segment = 1
          ∧ r.accumulator = 0 ∧ lampLevel .back t = some p.working.back.level ∧ plateState t k = some .exposing
          ∧ t.exu = { s.exu with state := .exposing, substage := some .back, paused := false, contPending := false,
                                 loadTimer := 0 }
          ∧ t.din.lampOn = s.din.lampOn)
      ∧ (∀ j, j ≠ k → plateAt t j = plateAt s j) ∧ t.ptb.queue = s.ptb.queue ∧ t.rss = s.rss ∧ t.wou = s.wou
      ∧ t.dry = s.dry ∧ t.lfn = s.lfn ∧ t.trc = s.trc ∧ t.flt = s.flt := by
  intro starts
  have run : exuPresentChange true (flipped i s) = loadComplete (flipped i s) := by
    have here : (flipped i s).exu.state = .load := load
    simp only [exuPresentChange, here, if_true]
  obtain ⟨v, eq, vEq⟩ := loadComplete_asks (s := flipped i s) plate at_ loading
  have station : v.exu = { s.exu with
      state := .exposing
      substage := some .back
      paused := true
      contPending := false
      loadTimer := 0 } := by simp [vEq, flipped]
  have record : plateAt v k = some { p with state := .exposing } := by
    rw [vEq]
    exact plateAt_setPlate_self k _ _
  have apart (j : Slot) (other : j ≠ k) : plateAt v j = plateAt s j := by
    rw [vEq]
    exact (plateAt_setPlate ..).trans ((if_neg other).trans (plateAt_congr (by simp [flipped]) j))
  have drives (c : DriveChannel) : driveState c v = driveState c (driveOff .intakeRollers (flipped i s)) :=
    driveState_congr (by simp [vEq]) c
  have senses (fn : InputFunction) (other : fn ≠ .exuPresent) : inputActive fn v = inputActive fn s :=
    (inputActive_congr (s := flipped i s) (by simp [vEq]) (by simp [vEq]) fn).trans (inputActive_flipped_other h other)
  have flags (f : Flag) : isSet f v = isSet f s := isSet_congr (by simp [vEq, flipped]) f
  have may : exuMayWork v = true ↔ starts := by
    rw [exuMayWork_iff, station, flags, flags, senses .exuLid (by simp)]
    have line : v.flt.lineState = s.flt.lineState := by simp [vEq, flipped]
    simp only [line, true_and]
    exact .rfl
  refine ⟨_, (exec_exuPresent h).trans (congrArg Host.Outcome.next (run.trans eq)), ?_, fun c other => ?_, by simp [vEq], fun stays => ?_,
    fun go inhibit target free => ?_, fun j other => ?_, by simp [vEq, flipped], by simp [vEq, flipped],
    by simp [vEq, flipped], by simp [vEq, flipped], by simp [vEq, flipped], by simp [vEq, flipped],
    by simp [vEq, flipped]⟩
  · rw [driveIsOn_congr (s := v) (by simp), driveIsOn, drives]
    exact driveOff_off _ _
  · rw [driveState_congr (s := v) (by simp), drives, driveState_driveOff, if_neg fun h => other h.1]
    rfl
  · have idle : exuMayWork v = false := Bool.eq_false_iff.2 fun works => stays (may.1 works)
    rw [askExposure_waits idle]
    exact ⟨by simp [vEq, setPlate_plates, flipped], station, by simp [vEq, flipped], by simp [vEq, flipped]⟩
  · have channel : channelAt v .back = channelAt s .back := channelAt_congr (by simp [vEq, flipped]) _
    have refused : lampRefused .back v = false :=
      lampRefused_exposure (.inl rfl) ((senses .inhibit (by simp)).trans inhibit) ((senses .exuLid (by simp)).trans go.2.1)
    rw [askExposure_runs (may.2 go) (by rw [station]) (by rw [station]; exact plate) (by rw [station]) record
      (by rw [channel]; exact free) target refused]
    obtain ⟨-, channelAfter, level⟩ := startSegment_allowed (ch := .back)
      (r := openRun k { p with state := .exposing } .back (lampCal v .back).eNom) refused
    refine ⟨_, channelAfter, rfl, rfl, rfl, rfl, level, ?_, ?_, ?_⟩
    · refine (startSegment_state _ _ _ k).trans ?_
      rw [plateState, record]
      rfl
    · simp [station]
    · exact (goesOn_startSegment _ _ _).lampOn.trans (by simp [vEq, flipped])
  · exact (onlyPlate_askExposure (by rw [station]; exact plate) j other).trans (apart j other)

/-- Settles O39: a tag is matched against the queue; the load ends at the sensor or at the timer; the sensors arm and
trigger the intake's reader. -/
theorem intakeTagsAndLoads : Obligations.IntakeTagsAndLoads := by
  unfold Obligations.IntakeTagsAndLoads
  refine ⟨fun n s power range => ⟨fun idle => ?_, fun k p reading lawful read at_ id queued =>
    tag_draws power range reading lawful read at_ id queued, tag_unknown power range⟩,
    fun s power => ⟨fun idle => event_same (loadTimeout_idle idle), fun k p load on plate at_ loading =>
      loadTimer_holds power load on plate at_ loading⟩, ?_, fun i k p s => load_completes⟩
  · exact (exec_intakeTag power range).trans (congrArg Host.Outcome.next (by simp [takeIntakeTag, idle]))
  intro i s mayRead u
  refine ⟨fun h => ⟨fun empty quiet => ?_, fun empty reading => ?_, fun notEmpty notLoad => ?_⟩,
    fun h => ⟨fun state => ⟨fun may armed intake => ?_, fun not => ?_⟩, fun notEmpty notClear => ?_⟩,
    fun h => ⟨fun may empty table => ?_, fun not => ?_⟩, fun h => exec_intakePresent h⟩
  · exact (exec_exuPresent h).trans (congrArg Host.Outcome.next
      (exuPresentChange_unknown empty quiet (inputActive_flipped_self h)))
  · exact (exec_exuPresent h).trans (congrArg Host.Outcome.next (exuPresentChange_reading empty reading))
  · refine (exec_exuPresent h).trans (congrArg Host.Outcome.next ?_)
    refine exuPresentChange_idle ?_
    have states (e : ExuState) (a : e ≠ .empty) (b : e ≠ .load) :
        e = .exposing ∨ e = .exposed ∨ e = .held ∨ e = .clearWait := by cases e <;> simp_all
    rcases states _ notEmpty notLoad with e | e | e | e
    · exact .inl e
    · exact .inr (.inl e)
    · exact .inr (.inr (.inl e))
    · exact .inr (.inr (.inr (.inr ⟨rfl, e⟩)))
  · have ready : intakeReady (modExu (fun e => { e with state := .empty }) u) = true :=
      intakeReady_iff.2 ⟨may, rfl, armed, (inputActive_flipped_other h (by simp)).trans intake, inputActive_flipped_self h⟩
    exact (exec_exuPresent h).trans (congrArg Host.Outcome.next ((exuCleared state).trans (tryIntake_ready ready)))
  · have waits : ¬ intakeReady (modExu (fun e => { e with state := .empty }) u) = true := by
      rw [intakeReady_iff]
      rintro ⟨may, -, armed, intake, -⟩
      have intake : inputActive .intakePresent s = true := (inputActive_flipped_other h (by simp)).symm.trans intake
      rcases not with unfit | unarmed | none_
      · exact unfit may
      · exact Bool.eq_false_iff.1 unarmed armed
      · exact Bool.eq_false_iff.1 none_ intake
    exact (exec_exuPresent h).trans (congrArg Host.Outcome.next ((exuCleared state).trans (tryIntake_waits waits)))
  · refine (exec_exuPresent h).trans (congrArg Host.Outcome.next ?_)
    refine exuPresentChange_idle ?_
    have states (e : ExuState) (a : e ≠ .empty) (b : e ≠ .clearWait) :
        e = .exposing ∨ e = .exposed ∨ e = .held ∨ e = .load := by cases e <;> simp_all
    rcases states _ notEmpty notClear with e | e | e | e
    · exact .inl e
    · exact .inr (.inl e)
    · exact .inr (.inr (.inl e))
    · exact .inr (.inr (.inr (.inl ⟨rfl, e⟩)))
  · have ready : intakeReady (modExu (fun e => { e with armed := true }) u) = true :=
      intakeReady_iff.2 ⟨may, empty, rfl, inputActive_flipped_self h, (inputActive_flipped_other h (by simp)).trans table⟩
    exact (exec_intakePresent h).trans (congrArg Host.Outcome.next (tryIntake_ready ready))
  · have waits : ¬ intakeReady (modExu (fun e => { e with armed := true }) u) = true := by
      rw [intakeReady_iff]
      rintro ⟨may, empty, -, -, table⟩
      have table : inputActive .exuPresent s = false := (inputActive_flipped_other h (by simp)).symm.trans table
      rcases not with unfit | other | occupied
      · exact unfit may
      · exact other empty
      · exact Bool.eq_false_iff.1 table occupied
    exact (exec_intakePresent h).trans (congrArg Host.Outcome.next (tryIntake_waits waits))

end Sys2Proof.Machine
end


section
/-! SUPPORT. The pause of a segment, and the lid (R54, R71, R74, R78, R168). -/
namespace Sys2Proof.Machine
variable {s t u : State} {ch c : LampChannel} {r : RunRecord}

/-! ### Channels while a segment ends -/

/-- The channel `b` is `a`, but for the recording of a run in its segment, which a full trace buffer suspends (R62). -/
inductive Rerecorded : Channel → Channel → Prop
  | refl (a : Channel) : Rerecorded a a
  | run (r : RunRecord) (recording : Bool) : Rerecorded (.integrating r) (.integrating { r with recording := recording })

namespace Rerecorded

theorem of_eq {a b : Channel} (h : b = a) : Rerecorded a b := h ▸ .refl a

theorem trans {a b d : Channel} (h : Rerecorded a b) (g : Rerecorded b d) : Rerecorded a d := by
  cases h with
  | refl => exact g
  | run r recording =>
    cases g with
    | refl => exact .run r recording
    | run _ recording' => exact .run r recording'

theorem integrating {b : Channel} (h : Rerecorded (.integrating r) b) :
    ∃ recording, b = .integrating { r with recording := recording } := by
  cases h with
  | refl => exact ⟨r.recording, rfl⟩
  | run _ recording => exact ⟨recording, rfl⟩

theorem paused {b : Channel} (h : Rerecorded (.paused r) b) : b = .paused r := by
  cases h
  rfl

end Rerecorded

theorem rerecorded_suspend (a : Channel) : Rerecorded a (suspendChannel a) := by
  cases a with
  | integrating r => exact .run r false
  | idle => exact .refl _
  | paused r => exact .refl _
  | ended r how => exact .refl _

theorem rerecorded_writeTrace (c ch : LampChannel) (r : RunRecord) (s : State) :
    Rerecorded (channelAt s c) (channelAt (writeTrace ch r s) c) := by
  cases recorded : r.recording with
  | false => exact .of_eq (channelAt_congr (congrArg (·.channels) (writeTrace_unrecorded recorded)) c)
  | true =>
    by_cases full : 512 ≤ s.din.trace.length
    · have suspended : channelAt (writeTrace ch r s) c = suspendChannel (channelAt s c) := by
        simp only [channelAt, (writeTrace_full recorded full).2.2.2]
        cases c <;> rfl
      rw [suspended]
      exact rerecorded_suspend _
    · exact .of_eq (channelAt_congr (by rw [writeTrace_room recorded (Nat.not_le.1 full)]) c)

theorem rerecorded_endSegment (c ch : LampChannel) (n : Nat) (s : State) :
    Rerecorded (channelAt s c) (channelAt (endSegment ch n s) c) := by
  have off : channelAt (lampOff ch s) c = channelAt s c := channelAt_congr (by simp) c
  have timed : channelAt (endSegment ch n s) c = channelAt (closeFinalWindow ch (lampOff ch s)) c :=
    channelAt_congr (by simp [endSegment]) c
  rw [timed, ← off, closeFinalWindow]
  split
  · split
    · exact rerecorded_writeTrace c ch _ _
    · exact .refl _
  · exact .refl _

theorem lampLevel_endSegment (c : LampChannel) (n : Nat) (s : State) :
    lampLevel c (endSegment ch n s) = if c = ch then none else lampLevel c s := by
  rw [← lampLevel_lampOff]
  exact lampLevel_congr (by simp [endSegment]) c

/-! ### The pause of a segment (R54) -/

theorem pauseSegment_idle (none_ : ∀ r, channelAt s ch ≠ .integrating r) : pauseSegment ch s = s := by
  unfold pauseSegment
  split
  next r run => exact absurd run (none_ r)
  next => rfl

/-- A segment in progress ends, and its run waits PAUSED. -/
theorem pauseSegment_run (run : channelAt s ch = .integrating r) : ∃ recording v,
    v.din.channels = (endSegment ch r.segSamples s).din.channels ∧ v.lio = (endSegment ch r.segSamples s).lio
    ∧ v.flt = (endSegment ch r.segSamples s).flt
    ∧ pauseSegment ch s = lfnPauseReport ch (exuPauseReport ch (setChannel ch (.paused { r with recording := recording }) v)) := by
  obtain ⟨recording, ended⟩ := (endSegment_ended run r.segSamples).channel
  refine ⟨recording, modPlate r.slot (fun p => { p with interruptions := satAdd 255 p.interruptions 1 })
    (endSegment ch r.segSamples s), by simp, by simp, by simp, ?_⟩
  have counted : channelAt (modPlate r.slot (fun p => { p with interruptions := satAdd 255 p.interruptions 1 })
      (endSegment ch r.segSamples s)) ch = .integrating { r with recording := recording } :=
    (channelAt_congr (by simp) ch).trans ended
  simp only [pauseSegment, run, pauseChannel, counted]

theorem pauseSegment_paused (run : channelAt s ch = .integrating r) :
    ∃ recording, channelAt (pauseSegment ch s) ch = .paused { r with recording := recording } := by
  obtain ⟨recording, v, -, -, -, eq⟩ := pauseSegment_run run
  refine ⟨recording, ?_⟩
  rw [eq]
  refine (channelAt_congr (s := setChannel ch (.paused { r with recording := recording }) v) (by simp) ch).trans ?_
  exact channelAt_setChannel_self _ _ _

theorem rerecorded_pauseSegment (other : c ≠ ch) (s : State) :
    Rerecorded (channelAt s c) (channelAt (pauseSegment ch s) c) := by
  by_cases run : ∃ r, channelAt s ch = .integrating r
  · obtain ⟨r, run⟩ := run
    obtain ⟨recording, v, channels, -, -, eq⟩ := pauseSegment_run run
    have kept : channelAt (pauseSegment ch s) c = channelAt (endSegment ch r.segSamples s) c := by
      rw [eq]
      refine (channelAt_congr (s := setChannel ch (.paused { r with recording := recording }) v) (by simp) c).trans ?_
      rw [channelAt_setChannel, if_neg other, channelAt_congr channels]
    rw [kept]
    exact rerecorded_endSegment c ch _ s
  · rw [pauseSegment_idle (not_exists.1 run)]
    exact .refl _

theorem lampLevel_pauseSegment_other (other : c ≠ ch) (s : State) : lampLevel c (pauseSegment ch s) = lampLevel c s := by
  by_cases run : ∃ r, channelAt s ch = .integrating r
  · obtain ⟨r, run⟩ := run
    obtain ⟨recording, v, -, lines, -, eq⟩ := pauseSegment_run run
    rw [eq]
    refine (lampLevel_congr (s := endSegment ch r.segSamples s) (by simp [lines]) c).trans ?_
    rw [lampLevel_endSegment, if_neg other]
  · rw [pauseSegment_idle (not_exists.1 run)]

theorem lampLevel_pauseSegment_dark (dark : lampLevel c s = none) : lampLevel c (pauseSegment ch s) = none := by
  by_cases other : c = ch
  · subst other
    by_cases run : ∃ r, channelAt s c = .integrating r
    · obtain ⟨r, run⟩ := run
      obtain ⟨recording, v, -, lines, -, eq⟩ := pauseSegment_run run
      rw [eq]
      refine (lampLevel_congr (s := endSegment c r.segSamples s) (by simp [lines]) c).trans ?_
      rw [lampLevel_endSegment, if_pos rfl]
    · rw [pauseSegment_idle (not_exists.1 run)]
      exact dark
  · rw [lampLevel_pauseSegment_other other]
    exact dark

theorem pauseSegment_flags (f : Flag) (set : isSet f s = true) : isSet f (pauseSegment ch s) = true := by
  by_cases run : ∃ r, channelAt s ch = .integrating r
  · obtain ⟨r, run⟩ := run
    obtain ⟨recording, v, -, -, flags, eq⟩ := pauseSegment_run run
    rw [eq]
    exact (isSet_congr (by simp [flags]) f).trans ((endSegment_ended run r.segSamples).flags f set)
  · rw [pauseSegment_idle (not_exists.1 run)]
    exact set

/-! ### The lid (R71, R74, R78, R168) -/

section Lid
variable {i : Fin 12}

theorem exec_lidOpened (power : s.powered = true) (carries : (inputCfg s i).function = .exuLid)
    (before : (inputAt s i).active = false) (timed : (inputAt s i).timer ≠ none) :
    exec (.debounceExpiry i) s = .next (lidOpened (flipped i s)) := by
  refine (event_on power).trans (congrArg Host.Outcome.next ?_)
  simp [debounceEnd, Option.isSome_iff_ne_none, timed, flipInput_eq, carries, before, deliver]

/-- Of two channels the lid pauses, each segment is paused once, before or after the other. -/
theorem pauseBoth_paused (exposure : c = .back ∨ c = .main) (run : channelAt s c = .integrating r) :
    ∃ recording, channelAt (pauseSegment .main (pauseSegment .back s)) c = .paused { r with recording := recording } := by
  rcases exposure with rfl | rfl
  · obtain ⟨recording, paused⟩ := pauseSegment_paused run
    have kept := rerecorded_pauseSegment (c := .back) (ch := .main) (by simp) (pauseSegment .back s)
    rw [paused] at kept
    exact ⟨recording, kept.paused⟩
  · have kept := rerecorded_pauseSegment (c := .main) (ch := .back) (by simp) s
    rw [run] at kept
    obtain ⟨recording, still⟩ := kept.integrating
    obtain ⟨recording', paused⟩ := pauseSegment_paused still
    exact ⟨recording', paused⟩

/-- With the lid open the rollers stand (R71). -/
theorem updateRollers_stops (load : s.exu.state = .load) (lid : inputActive .exuLid s = true) :
    driveIsOn .intakeRollers (updateRollers s) = false := by
  have eq : updateRollers s = driveOff .intakeRollers s := by simp [updateRollers, load, lid]
  rw [eq]
  exact driveOff_off _ _

theorem inputActive_flipped_on {fn : InputFunction} (carries : (inputCfg s i).function = fn)
    (before : (inputAt s i).active = false) : inputActive fn (flipped i s) = true := by
  refine inputActive_iff.2 ⟨i, carries, ?_⟩
  rw [inputAt_flipped, if_pos rfl]
  simpa using before

theorem lid_opens (power : s.powered = true) (carries : (inputCfg s i).function = .exuLid)
    (before : (inputAt s i).active = false) (timed : (inputAt s i).timer ≠ none) :
    ∃ t, exec (.debounceExpiry i) s = .next t
      ∧ lampLevel .back t = none ∧ lampLevel .main t = none
      ∧ lampLevel .uva t = lampLevel .uva s ∧ lampLevel .uvc t = lampLevel .uvc s
      ∧ (∀ c r, c = .back ∨ c = .main → channelAt s c = .integrating r →
          ∃ r2, channelAt t c = .paused r2 ∧ r2.accumulator = r.accumulator ∧ r2.lampSamples = r.lampSamples
            ∧ r2.slot = r.slot ∧ r2.level = r.level ∧ r2.nCap = r.nCap)
      ∧ (s.exu.state = .load → driveIsOn .intakeRollers t = false)
      ∧ (∀ c, c ≠ .intakeRollers → driveState c t = driveState c s)
      ∧ t.ptb.queue = s.ptb.queue ∧ t.rss.working = s.rss.working ∧ t.wou = s.wou ∧ t.dry = s.dry ∧ t.trc = s.trc
      ∧ t.flt.lineState = s.flt.lineState ∧ t.flt.masks = s.flt.masks := by
  refine ⟨_, exec_lidOpened power carries before timed, ?_⟩
  obtain ⟨v, vEq⟩ : ∃ v, v = lampOff .main (lampOff .back (flipped i s)) := ⟨_, rfl⟩
  obtain ⟨w, wEq⟩ : ∃ w, w = pauseSegment .main (pauseSegment .back v) := ⟨_, rfl⟩
  have opened : lidOpened (flipped i s) = updateRollers w := by rw [wEq, vEq]; rfl
  have dark (c : LampChannel) (exposure : c = .back ∨ c = .main) : lampLevel c (updateRollers w) = none := by
    have off : lampLevel c v = none := by
      rw [vEq, lampLevel_lampOff, lampLevel_lampOff]
      rcases exposure with rfl | rfl <;> simp
    rw [lampLevel_congr (s := w) (by simp), wEq]
    exact lampLevel_pauseSegment_dark (lampLevel_pauseSegment_dark off)
  have lit (c : LampChannel) (back : c ≠ .back) (main : c ≠ .main) : lampLevel c (updateRollers w) = lampLevel c s := by
    rw [lampLevel_congr (s := w) (by simp), wEq, lampLevel_pauseSegment_other main, lampLevel_pauseSegment_other back, vEq,
      lampLevel_lampOff, if_neg main, lampLevel_lampOff, if_neg back]
    rfl
  have lid : inputActive .exuLid w = true :=
    (inputActive_congr (s := flipped i s) (by simp [wEq, vEq]) (by simp [wEq, vEq]) .exuLid).trans
      (inputActive_flipped_on carries before)
  rw [opened]
  refine ⟨dark .back (.inl rfl), dark .main (.inr rfl), lit .uva (by simp) (by simp), lit .uvc (by simp) (by simp),
    fun c r exposure run => ?_, fun load => ?_, fun c other => ?_, by simp [wEq, vEq, flipped], by simp [wEq, vEq, flipped],
    by simp [wEq, vEq, flipped], by simp [wEq, vEq, flipped], by simp [wEq, vEq, flipped], by simp [wEq, vEq, flipped],
    by simp [wEq, vEq, flipped]⟩
  · have still : channelAt v c = .integrating r := (channelAt_congr (by simp [vEq, flipped]) c).trans run
    obtain ⟨recording, paused⟩ := pauseBoth_paused exposure still
    exact ⟨_, (channelAt_congr (by simp [wEq]) c).trans paused, rfl, rfl, rfl, rfl, rfl⟩
  · exact updateRollers_stops (by simpa [wEq, vEq, flipped] using load) lid
  · rw [driveState_updateRollers other]
    exact driveState_congr (by simp [wEq, vEq, flipped]) c

/-- In LOAD the rollers run exactly when nothing bars them (R71, R165). -/
theorem updateRollers_load (load : s.exu.state = .load) (lid : inputActive .exuLid s = false) :
    driveIsOn .intakeRollers (updateRollers s) = (!inhibitActive s && !driveFaulted .intakeRollers s) := by
  cases inhibit : inhibitActive s with
  | true =>
    have eq : updateRollers s = driveOff .intakeRollers s := by simp [updateRollers, load, inhibit]
    rw [eq, driveOff_off]
    rfl
  | false =>
    have eq : updateRollers s = driveOn .intakeRollers .none s := by simp [updateRollers, load, lid, inhibit]
    cases works : driveFaulted .intakeRollers s with
    | false =>
      rw [updateRollers_runs load lid inhibit works]
      rfl
    | true =>
      have off : driveIsOn .intakeRollers s = false :=
        Bool.eq_false_iff.2 fun on => Bool.eq_false_iff.1 (driveFaulted_of_isOn on) works
      rw [eq, driveIsOn, driveState_driveOn, if_neg fun h => Bool.eq_false_iff.1 h.2.1 works]
      exact off

/-- A paused run of the plate on the table goes on in a new segment (R47, R74). -/
theorem askExposure_goesOn {st : Substage} (may : exuMayWork s = true) (substage : s.exu.substage = some st)
    (plate : s.exu.plate = some k) (fresh : s.exu.contPending = false) (run : channelAt s st.channel = .paused r)
    (own : r.slot = k) (allowed : lampRefused st.channel s = false) :
    askExposure s = modExu (fun e => { e with paused := false }) (startSegment st.channel r s).1 := by
  refine askExposure_starts may substage plate ?_
  have request : exuRequest st.channel k s = askFresh st.channel k s := by simp [exuRequest, fresh]
  have asked : askFresh st.channel k s = askSegment st.channel r s := by simp only [askFresh, run, own, if_true]
  rw [request, asked, askSegment, startSegment_started allowed]

theorem lid_closes (h : Changes i .exuLid false s) :
    let asks := s.exu.paused = true ∧ s.flt.lineState = .run ∧ isSet (.lampFail .back) s = false
      ∧ isSet (.lampFail .main) s = false
    (s.exu.state = .load → ∃ t, exec (.debounceExpiry i) s = .next t
      ∧ driveIsOn .intakeRollers t = (!inhibitActive s && !driveFaulted .intakeRollers s)
      ∧ (∀ c, c ≠ .intakeRollers → driveState c t = driveState c s) ∧ t.lio.lamps = s.lio.lamps
      ∧ t.lio.inputs = (flipped i s).lio.inputs ∧ t.ptb = s.ptb ∧ t.rss = s.rss ∧ t.din = s.din ∧ t.exu = s.exu
      ∧ t.wou = s.wou ∧ t.dry = s.dry ∧ t.lfn = s.lfn ∧ t.trc = s.trc ∧ t.flt = s.flt ∧ t.lnk = s.lnk)
    ∧ (s.exu.state ≠ .load → (s.exu.state ≠ .exposing ∨ ¬ asks) → exec (.debounceExpiry i) s = .next (flipped i s))
    ∧ (∀ k st r, s.exu.state = .exposing → asks → inhibitActive s = false → s.exu.contPending = false →
      s.exu.plate = some k → s.exu.substage = some st → channelAt s st.channel = .paused r → r.slot = k →
      ∃ t r2, exec (.debounceExpiry i) s = .next t ∧ channelAt t st.channel = .integrating r2
        ∧ r2 = { r with segment := min 255 (r.segment + 1), segSamples := 0, dark := 0, windowCount := 0,
                        windowSum := 0, windowIndex := 1, recording := r2.recording }
        ∧ lampLevel st.channel t = some r.level ∧ t.exu = { s.exu with paused := false }
        ∧ (∀ c, c ≠ st.channel → channelAt t c = channelAt s c ∧ lampLevel c t = lampLevel c s)
        ∧ t.ptb.queue = s.ptb.queue ∧ t.rss = s.rss ∧ t.din.lampOn = s.din.lampOn ∧ t.wou = s.wou ∧ t.dry = s.dry
        ∧ t.lfn = s.lfn ∧ t.trc = s.trc ∧ t.flt = s.flt ∧ t.lio.drives = s.lio.drives) := by
  intro asks
  have lid : inputActive .exuLid (flipped i s) = false := inputActive_flipped_self h
  have inhibitKept : inhibitActive (flipped i s) = inhibitActive s := inhibitActive_flipped h (by simp)
  have run : exec (.debounceExpiry i) s = .next (askExposure (updateRollers (flipped i s))) := exec_debounce h
  have rollersStand (other : s.exu.state ≠ .load) : updateRollers (flipped i s) = flipped i s :=
    if_neg (show ¬ (flipped i s).exu.state = .load from other)
  have may : exuMayWork (flipped i s) = true ↔ s.exu.state = .exposing ∧ asks := by
    rw [exuMayWork_iff, lid]
    simp only [true_and]
    exact .rfl
  refine ⟨fun load => ?_, fun notLoad idle => ?_, fun k st r exposing go inhibit fresh plate substage paused own => ?_⟩
  · have waits : askExposure (updateRollers (flipped i s)) = updateRollers (flipped i s) := by
      refine askExposure_waits (Bool.eq_false_iff.2 fun works => ?_)
      have state := (exuMayWork_iff.1 works).1
      rw [(updateRollers_frame _).2.2.2.2.2.1] at state
      exact absurd (load.symm.trans state) (by simp)
    refine ⟨_, run.trans (congrArg Host.Outcome.next waits), ?_, fun c other => driveState_updateRollers other _,
      by simp [flipped], by simp, by simp [flipped], by simp [flipped], by simp [flipped], by simp [flipped],
      by simp [flipped], by simp [flipped], by simp [flipped], by simp [flipped], by simp [flipped], by simp [flipped]⟩
    rw [updateRollers_load (s := flipped i s) load lid, inhibitKept]
    rfl
  · refine run.trans (congrArg Host.Outcome.next ?_)
    rw [rollersStand notLoad]
    refine askExposure_waits (Bool.eq_false_iff.2 fun works => ?_)
    obtain ⟨exposing, go⟩ := may.1 works
    exact idle.elim (fun other => other exposing) (fun not => not go)
  · have notLoad : s.exu.state ≠ .load := by simp [exposing]
    have allowed : lampRefused st.channel (flipped i s) = false :=
      lampRefused_exposure st.channel_exposure (inhibitKept.trans inhibit) lid
    have goes := askExposure_goesOn (s := flipped i s) (may.2 ⟨exposing, go⟩) substage plate fresh paused own allowed
    obtain ⟨-, channel, level⟩ := startSegment_allowed (r := r) allowed
    refine ⟨_, _, run.trans (congrArg Host.Outcome.next ((congrArg askExposure (rollersStand notLoad)).trans goes)), channel, rfl,
      level, by simp [flipped], fun c other => ?_, by simp [flipped], by simp [flipped],
      (goesOn_startSegment _ _ _).lampOn, by simp [flipped], by simp [flipped], by simp [flipped], by simp [flipped],
      by simp [flipped], by simp [flipped]⟩
    have rests : Rests c (flipped i s) (startSegment st.channel r (flipped i s)).1 := rests_startSegment other r
    exact ⟨rests.channel, rests.lamp⟩

end Lid

/-- Settles O19: an opened lid darkens and pauses the exposure; a closed one lets the rollers or the paused run go on. -/
theorem lidOpens : Obligations.LidOpens := by
  unfold Obligations.LidOpens
  exact ⟨fun _ _ => lid_opens, fun _ _ => lid_closes⟩

end Sys2Proof.Machine
end


section
/-! SUPPORT. The overcurrent trip, and what its channel's owner does (R93, R108, R109, R147, R166). -/
namespace Sys2Proof.Machine
variable {s t u : State} {c : DriveChannel} {run : ReplenishRun}

/-! ### The transport under a fault (R93) -/

theorem transportStateOf_faulted (fault : driveFaulted .transport s = true ∨ driveFaulted .brushes s = true) :
    transportStateOf s ≠ .running := fun running => by
  obtain ⟨-, -, transport, brushes, -⟩ := transportStateOf_running.1 running
  rcases fault with h | h
  · exact Bool.eq_false_iff.1 transport h
  · exact Bool.eq_false_iff.1 brushes h

/-- An evaluation turns no drive while the transport stands under a fault. -/
theorem evalAdmission_faulted (fault : driveFaulted .transport s = true ∨ driveFaulted .brushes s = true)
    (stands : s.wou.transport ≠ .running) : (evalAdmission s).lio.drives = s.lio.drives := by
  rcases evalAdmission_cases s with none | ⟨k, p, d, v, -, -, -, -, granted, eq⟩
  · exact none.drives
  · obtain ⟨w, admitted, wou, -, -, -, drives, -⟩ := admitPlate_eq k p d v
    have grant := reserveDrawer_frame granted
    obtain ⟨x, xEq⟩ : ∃ x, x = exuHandOver k (modWou (fun w => { w with offered := none, blocker := .none }) w) := ⟨_, rfl⟩
    have lines : x.lio.drives = s.lio.drives := by simp [xEq, drives, grant]
    have before : x.wou.transport ≠ .running := by simpa [xEq, modWou, wou, grant] using stands
    have after : transportStateOf x ≠ .running :=
      transportStateOf_faulted (by simpa only [driveFaulted_congr lines] using fault)
    rw [eq, admitted, ← xEq, takeTransport_still before after]
    exact lines

/-- A fault of the transport or its brushes stops both. -/
theorem transportAnew_stops (fault : driveFaulted .transport s = true ∨ driveFaulted .brushes s = true)
    (before : s.wou.transport = .running) :
    driveIsOn .transport (transportAnew s) = false ∧ driveIsOn .brushes (transportAnew s) = false := by
  have stops := takeTransport_stops before (transportStateOf_faulted fault)
  have stands : (takeTransport s).wou.transport ≠ .running := by
    rw [takeTransport_wou]
    exact transportStateOf_faulted fault
  have still : driveFaulted .transport (takeTransport s) = true ∨ driveFaulted .brushes (takeTransport s) = true := by
    simpa only [(steady_takeTransport s).faults] using fault
  have anew : transportAnew s = evalAdmission (takeTransport s) := if_neg fun same => stands (same.trans before)
  have lines := evalAdmission_faulted still stands
  rw [anew, driveIsOn_congr lines, driveIsOn_congr lines]
  exact stops

/-! ### The replenishment under a fault of its pump (R108, R109) -/

theorem isSet_enterPending {f : Flag} (other : f ≠ .replenishBlocked) (s : State) : isSet f (enterPending s) = isSet f s := by
  unfold enterPending
  split
  · rw [isSet_setFlag, decide_eq_false other]
    rfl
  · exact isSet_congr (by simp) f

theorem driveFaulted_enterPending (c : DriveChannel) (s : State) : driveFaulted c (enterPending s) = driveFaulted c s := by
  unfold enterPending
  split
  · exact driveFaulted_congr (by simp) c
  · exact (steady_startReplenish _).faults c

theorem enterPending_stands (barred : ¬ replenishMayStart s) (run : ReplenishRun) :
    (enterPending s).wou.replenish ≠ .running run := by
  cases low : inputActive .freshLow s with
  | true => simp [(enterPending_blocked low).1]
  | false => simp [enterPending_waits low barred]

theorem stopReplenish_idle (none_ : ∀ run, s.wou.replenish ≠ .running run) (fault : Bool) : stopReplenish fault s = s := by
  unfold stopReplenish
  split
  next run running => exact absurd running (none_ run)
  next => rfl

/-- A run stopped early (R109). -/
theorem stopReplenish_early (running : s.wou.replenish = .running run) (early : run.pumped < run.runTime * 1000)
    (fault : Bool) : ∃ v, stopReplenish fault s = evalAdmission
        (if fault then setFlag .replenishAbort (enterPending v) else enterPending v)
      ∧ v.wou = { s.wou with
        lambda := lambdaAfterStop s.wou.lambda run.runTime (run.pumped / 1000) run.fraction
        replenish := .none }
      ∧ v.lio.drives = s.lio.drives ∧ v.flt = s.flt ∧ v.dry = s.dry := by
  have short : pumpedOut run = false := by simp [pumpedOut, early]
  refine ⟨refreshOutputs (modWou (fun w => { w with replenish := .none }) (askCountersWrite
    (modWou (fun w => { w with lambda := lambdaAfterStop w.lambda run.runTime (run.pumped / 1000) run.fraction }) s))), ?_,
    by simp [modWou], by simp, by simp, by simp⟩
  simp only [stopReplenish, running, short, Bool.false_eq_true, if_false]

theorem stopReplenish_complete (running : s.wou.replenish = .running run) (pumped : run.runTime * 1000 ≤ run.pumped)
    (fault : Bool) : stopReplenish fault s = completeReplenish s := by
  have out : pumpedOut run = true := by simp [pumpedOut, pumped]
  simp only [stopReplenish, running, out, if_true]

theorem steady_askCountersWrite (s : State) : Steady s (askCountersWrite s) := {}

theorem steady_modWou (f : Washout → Washout) (s : State) : Steady s (modWou f s) := {}

theorem steady_refreshOutputs (s : State) : Steady s (refreshOutputs s) := {}

theorem steady_completeReplenish (s : State) : Steady s (completeReplenish s) := by
  unfold completeReplenish
  split
  · exact ((((steady_driveOff _ s).trans (steady_modWou _ _)).trans (steady_askCountersWrite _)).trans
      ((steady_modWou _ _).trans (steady_refreshOutputs _))).trans (steady_evalAdmission _)
  · exact .refl s

/-- What a stop of the replenishment under a fault of its pump leaves. -/
structure PumpStopped (s t : State) : Prop where
  faults : ∀ c, driveFaulted c t = driveFaulted c s
  flags : ∀ f, f ≠ .solventLimit → f ≠ .replenishAbort → f ≠ .replenishBlocked → isSet f t = isSet f s
  stands : driveFaulted .pump s = true → ∀ run, t.wou.replenish ≠ .running run
  early : ∀ run, s.wou.replenish = .running run → run.pumped < run.runTime * 1000 → isSet .replenishAbort t = true
    ∧ t.wou.lambda = lambdaAfterStop s.wou.lambda run.runTime (run.pumped / 1000) run.fraction
  complete : ∀ run, s.wou.replenish = .running run → run.runTime * 1000 ≤ run.pumped →
    isSet .replenishAbort t = isSet .replenishAbort s ∧ t.wou.replenish = .none
      ∧ t.wou.lambda = lambdaAfterExchange s.wou.lambda run.fraction

theorem stopReplenish_stopped (s : State) : PumpStopped s (stopReplenish true s) := by
  by_cases runs : ∃ run, s.wou.replenish = .running run
  · obtain ⟨run, running⟩ := runs
    have only {r : ReplenishRun} (other : s.wou.replenish = .running r) : r = run :=
      Replenishment.running.inj (other.symm.trans running)
    rcases Nat.lt_or_ge run.pumped (run.runTime * 1000) with early | pumped
    · obtain ⟨v, eq, wou, drives, flt, -⟩ := stopReplenish_early running early true
      have eval := evalAdmission_evaluated (setFlag .replenishAbort (enterPending v))
      have steady := steady_evalAdmission (setFlag .replenishAbort (enterPending v))
      rw [if_pos rfl] at eq
      rw [eq]
      have faults (c : DriveChannel) : driveFaulted c (setFlag .replenishAbort (enterPending v)) = driveFaulted c s :=
        (driveFaulted_congr (by simp) c).trans ((driveFaulted_enterPending c v).trans (driveFaulted_congr drives c))
      refine ⟨fun c => (steady.faults c).trans (faults c), fun f limit abort blocked => ?_, fun fault r => ?_,
        fun r other _ => ⟨?_, ?_⟩, fun r other whole => ?_⟩
      · rw [steady.flags f limit, isSet_setFlag, decide_eq_false abort, Bool.false_or, isSet_enterPending blocked]
        exact isSet_congr (congrArg (·.flags) flt) f
      · rw [eval.replenish, (setFlag_frame .replenishAbort _).2.2.2.2.2.2.1]
        exact enterPending_stands (fun start => Bool.eq_false_iff.1 start.2.2.1 ((driveFaulted_congr drives .pump).trans fault)) r
      · rw [steady.flags _ (by simp), isSet_setFlag]
        simp
      · rw [eval.lambda]
        simp [wou, only other]
      · rw [only other] at whole
        omega
    · have eq := stopReplenish_complete running pumped true
      obtain ⟨v, left, wou, -⟩ := completeReplenish_left running
      have eval := evalAdmission_evaluated v
      have steady := steady_completeReplenish s
      rw [eq]
      refine ⟨steady.faults, fun f limit _ _ => steady.flags f limit, fun _ r => ?_, fun r other early => ?_,
        fun r other _ => ⟨steady.flags _ (by simp), ?_, ?_⟩⟩
      · rw [left, eval.replenish, wou]
        simp
      · rw [only other] at early
        omega
      · rw [left, eval.replenish, wou]
      · rw [left, eval.lambda, wou, only other]
  · have none_ := not_exists.1 runs
    rw [stopReplenish_idle none_]
    exact ⟨fun _ => rfl, fun _ _ _ _ => rfl, fun _ => none_, fun run running => absurd running (none_ run),
      fun run running => absurd running (none_ run)⟩

/-! ### The trip (R166) -/

/-- The state in which the channel's owner hears of the trip: the channel latched, its flag set. -/
def tripped (c : DriveChannel) (s : State) : State :=
  setFlag (.driveFault c) (setDrive c { s.lio.drives.get c with state := .fault } s)

theorem trip_on (on : driveIsOn c s = true) : trip c s = ownerHearsFault c (tripped c s) := if_pos on

theorem tripped_faulted (c : DriveChannel) (s : State) : driveFaulted c (tripped c s) = true := by
  rw [tripped, driveFaulted_congr (s := setDrive c { s.lio.drives.get c with state := .fault } s) (by simp),
    driveFaulted_setDrive, if_pos rfl]
  rfl

theorem isSet_tripped (f : Flag) (c : DriveChannel) (s : State) :
    isSet f (tripped c s) = (decide (f = .driveFault c) || isSet f s) := by
  rw [tripped, isSet_setFlag]
  rfl

@[simp] theorem tripped_frame (c : DriveChannel) (s : State) : (tripped c s).ptb = s.ptb ∧ (tripped c s).rss = s.rss
    ∧ (tripped c s).din = s.din ∧ (tripped c s).wou = s.wou ∧ (tripped c s).lfn = s.lfn ∧ (tripped c s).trc = s.trc
    ∧ (tripped c s).lio.inputs = s.lio.inputs ∧ (tripped c s).lio.lamps = s.lio.lamps
    ∧ (tripped c s).flt.lineState = s.flt.lineState ∧ (tripped c s).flt.masks = s.flt.masks := by
  simp [tripped, setDrive]

theorem driveState_fault (fault : driveFaulted c s = true) : driveState c s = .fault := by
  rw [driveFaulted_eq] at fault
  exact of_decide_eq_true fault

theorem updateHalted_halts (cause : haltCause s = true) :
    (updateHalted s).trc.halted = true ∧ (updateHalted s).lfn = s.lfn := by
  unfold updateHalted
  rw [if_pos cause]
  split
  next halted => exact ⟨halted, rfl⟩
  next =>
    unfold haltBegins
    dsimp only
    split <;> exact ⟨rfl, rfl⟩

/-- What every owner keeps of a trip: the latch and its flag, and what the trip does not touch. -/
structure Latched (c : DriveChannel) (s t : State) : Prop where
  faulted : driveState c t = .fault
  flagged : isSet (.driveFault c) t = true
  trc : c ≠ .elevator → t.trc = s.trc
  frame : t.lio.lamps = s.lio.lamps ∧ t.lio.inputs = s.lio.inputs ∧ t.din = s.din ∧ t.lfn = s.lfn
    ∧ t.ptb.queue = s.ptb.queue ∧ t.rss.working = s.rss.working ∧ t.flt.lineState = s.flt.lineState
    ∧ t.flt.masks = s.flt.masks

theorem tripped_latched (c : DriveChannel) (s : State) : Latched c s (tripped c s) where
  faulted := driveState_fault (tripped_faulted c s)
  flagged := by simp [isSet_tripped]
  trc _ := by simp
  frame := by simp

theorem trip_latched (on : driveIsOn c s = true) : Latched c s (trip c s) := by
  have latched := tripped_latched c s
  have kept {t : State} (steady : Steady (tripped c s) t) :
      driveState c t = .fault ∧ isSet (.driveFault c) t = true :=
    ⟨driveState_fault ((steady.faults c).trans (tripped_faulted c s)),
      (steady.flags _ (by simp)).trans latched.flagged⟩
  rw [trip_on on]
  cases c with
  | transport | brushes =>
    obtain ⟨faulted, flagged⟩ := kept (steady_transportAnew _)
    exact ⟨faulted, flagged, fun _ => by simp [ownerHearsFault], by simp [ownerHearsFault]⟩
  | pump =>
    have stopped := stopReplenish_stopped (tripped .pump s)
    exact ⟨driveState_fault ((stopped.faults _).trans (tripped_faulted _ s)),
      (stopped.flags _ (by simp) (by simp) (by simp)).trans latched.flagged, fun _ => by simp [ownerHearsFault],
      by simp [ownerHearsFault]⟩
  | elevator =>
    obtain ⟨faulted, flagged⟩ := kept (steady_updateHalted _)
    have cause : haltCause (tripped .elevator s) = true := by simp [haltCause, tripped_faulted]
    exact ⟨faulted, flagged, fun other => absurd rfl other, by simp [ownerHearsFault, (updateHalted_halts cause).2]⟩
  | intakeRollers | heater | outfeed | conveyor => exact latched

/-- Settles O21: a channel that is ON is latched, and its owner stops what it drives; any other trip is discarded. -/
theorem overcurrentTrips : Obligations.OvercurrentTrips := by
  unfold Obligations.OvercurrentTrips
  refine fun c s power => ⟨fun off => event_same (if_neg (by simp [off])), fun on => ?_⟩
  have latched := trip_latched on
  have eq := trip_on on
  refine ⟨_, event_on power, latched.faulted, latched.flagged, fun drives running => ?_, fun pump => ?_, fun elevator => ?_,
    latched.trc, latched.frame⟩
  · have before : (tripped c s).wou.transport = .running := by simpa using running
    have fault : driveFaulted .transport (tripped c s) = true ∨ driveFaulted .brushes (tripped c s) = true := by
      rcases drives with rfl | rfl
      · exact .inl (tripped_faulted _ s)
      · exact .inr (tripped_faulted _ s)
    have hears : ownerHearsFault c (tripped c s) = transportAnew (tripped c s) := by rcases drives with rfl | rfl <;> rfl
    rw [eq, hears]
    exact transportAnew_stops fault before
  · subst pump
    have stopped := stopReplenish_stopped (tripped .pump s)
    have wou : (tripped .pump s).wou = s.wou := by simp
    have abort : isSet .replenishAbort (tripped .pump s) = isSet .replenishAbort s := by simp [isSet_tripped]
    rw [eq]
    refine ⟨stopped.stands (tripped_faulted _ s), fun run running early => ?_, fun run running pumped => ?_⟩
    · obtain ⟨set, lambda⟩ := stopped.early run (by rw [wou]; exact running) early
      refine ⟨set, lambda.trans ?_⟩
      rw [wou, lambdaAfterStop, ceilDiv]
    · obtain ⟨same, none, lambda⟩ := stopped.complete run (by rw [wou]; exact running) pumped
      refine ⟨same.trans abort, none, lambda.trans ?_⟩
      rw [wou, lambdaAfterExchange, ceilDiv]
      rfl
  · subst elevator
    rw [eq]
    exact (updateHalted_halts (by simp [haltCause, tripped_faulted])).1

end Sys2Proof.Machine
end


section
/-! SUPPORT. The exit table: the release to it, the handoff's stages and its end (R137, R149 to R155). -/
namespace Sys2Proof.Machine
variable {s t u : State} {k : Slot} {p : PlateRecord} {c : DriveChannel}

/-! ### The release to the exit table (R137) -/

/-- What lets the finisher send its finished plate (R137). -/
def MayLeave (s : State) : Prop :=
  s.lfn.state = .finished ∧ s.lfn.moving = false ∧ exitTableFree s = true
    ∧ (s.flt.lineState = .run ∨ s.flt.lineState = .safeHold) ∧ driveFaulted .outfeed s = false

theorem exitTableFree_iff : exitTableFree s = true ↔
    s.trc.handoff = .empty ∧ inputActive .exitPresent s = false ∧ s.trc.incoming = none := by
  simp [exitTableFree, and_assoc]

theorem tryRelease_leaves (plate : s.lfn.plate = some k) (may : MayLeave s) : tryRelease s = driveOn .outfeed .none
    (modTrc (fun t => { t with incoming := some k }) (modLfn (fun l => { l with moving := true }) s)) := by
  unfold tryRelease
  rw [plate]
  exact if_pos may

theorem tryRelease_stays (h : s.lfn.plate = none ∨ ¬ MayLeave s) : tryRelease s = s := by
  unfold tryRelease
  split
  next k plate =>
    rcases h with none | not
    · rw [plate] at none
      cases none
    · exact if_neg not
  next => rfl

/-- TRC's report that its table is free is the finisher's own test (R149). -/
theorem reportExitFree_eq (s : State) : reportExitFree s = tryRelease s := by
  unfold reportExitFree
  split
  next => rfl
  next busy => exact (tryRelease_stays (.inr fun may => busy may.2.2.1)).symm

theorem tryRelease_trc (s : State) :
    (tryRelease s).trc = { s.trc with incoming := (tryRelease s).trc.incoming } := by
  unfold tryRelease
  split
  · split
    · simp
    · rfl
  · rfl

theorem driveState_tryRelease (other : c ≠ .outfeed) (s : State) : driveState c (tryRelease s) = driveState c s := by
  unfold tryRelease
  split
  · split
    · rw [driveState_driveOn, if_neg fun h => other h.1]
      rfl
    · rfl
  · rfl

/-! ### The end of a handoff (R155) -/

theorem closeDone_done (at_ : plateAt s k = some p) (atExit : p.state = .atExit) : closeDone k s = raiseAttn .plateClosed
    (setPlate k (some { p with state := .done, outcome := some (doneOutcome p) }) s) := by
  simp only [closeDone, at_, atExit, if_true]

theorem driveState_testExitClear (other : c ≠ .outfeed) (s : State) :
    driveState c (testExitClear s) = driveState c s := by
  unfold testExitClear
  split
  · rw [reportExitFree_eq, driveState_tryRelease other]
    rfl
  · rfl

theorem testExitClear_trc (waits : s.trc.handoff = .doneWaitClear) : (testExitClear s).trc.plate = s.trc.plate
    ∧ (testExitClear s).trc.handoffTimer = s.trc.handoffTimer
    ∧ (testExitClear s).trc.handoff = (if inputActive .exitPresent s then .doneWaitClear else .empty) := by
  cases present : inputActive .exitPresent s with
  | true =>
    have same : testExitClear s = s := if_neg (by simp [present])
    rw [same]
    exact ⟨rfl, rfl, waits⟩
  | false =>
    have cleared : testExitClear s = tryRelease (modTrc (fun t => { t with handoff := .empty }) s) :=
      (if_pos ⟨waits, present⟩).trans (reportExitFree_eq _)
    rw [cleared, tryRelease_trc]
    exact ⟨rfl, rfl, rfl⟩

theorem driveState_completeHandoff (other : c ≠ .outfeed) (s : State) :
    driveState c (completeHandoff s) = driveState c s := by
  unfold completeHandoff
  split
  · rfl
  · rw [driveState_testExitClear other]
    exact driveState_congr (by simp) c

theorem completeHandoff_hands (plate : s.trc.plate = some k) (at_ : plateAt s k = some p) (atExit : p.state = .atExit) :
    HandedOver k p s (completeHandoff s) := by
  obtain ⟨v, vEq⟩ : ∃ v, v = refreshOutputs (modTrc (fun t => { t with handoff := .doneWaitClear, handoffTimer := none }) s) :=
    ⟨_, rfl⟩
  have here : plateAt v k = some p := (plateAt_congr (by simp [vEq]) k).trans at_
  have closed := closeDone_done here atExit
  obtain ⟨w, wEq⟩ : ∃ w, w = modTrc (fun t => { t with plate := none }) (closeDone k v) := ⟨_, rfl⟩
  have eq : completeHandoff s = testExitClear w := by simp only [completeHandoff, plate, wEq, vEq]
  have waits : w.trc.handoff = .doneWaitClear := by simp [wEq, vEq]
  have present : inputActive .exitPresent w = inputActive .exitPresent s :=
    inputActive_congr (by simp [wEq, vEq]) (by simp [wEq, vEq]) _
  obtain ⟨table, timer, handoff⟩ := testExitClear_trc waits
  have report : attnHas w.lnk.attnPending .plateClosed = true := by
    rw [wEq, closed, modTrc_lnk, raiseAttn_pending, attnHas_or, attnHas_attnBit]
    simp
  rw [eq]
  refine ⟨?_, by simp [wEq, vEq], by simpa using report, ⟨table.trans (by simp [wEq]), timer.trans (by simp [wEq, vEq]),
    handoff.trans (by rw [present])⟩, by simp [wEq, vEq]⟩
  have plates : w.ptb.plates = (setPlate k (some { p with state := .done, outcome := some (doneOutcome p) }) v).ptb.plates := by
    rw [wEq, closed]
    simp
  rw [(testExitClear_frame w).2.2.1, plates, setPlate_plates]
  simp [vEq, doneOutcome]

theorem HandedOver.of_before (h : HandedOver k p u t) (plates : u.ptb = s.ptb) (stores : u.rss = s.rss)
    (rest : u.din = s.din ∧ u.exu = s.exu ∧ u.wou = s.wou ∧ u.dry = s.dry ∧ u.flt = s.flt ∧ u.lio.lamps = s.lio.lamps)
    (present : inputActive .exitPresent u = inputActive .exitPresent s) : HandedOver k p s t := by
  obtain ⟨din, exu, wou, dry, flt, lamps⟩ := rest
  obtain ⟨table, queue, closed, exit, kept⟩ := h
  rw [plates] at table queue
  rw [present] at exit
  rw [stores, din, exu, wou, dry, flt, lamps] at kept
  exact ⟨table, queue, closed, exit, kept⟩

/-! ### Setup, pushing and offering (R151, R152, R153) -/

theorem leaveSetup_pushes (push : s.trc.values.mode = .timed ∨ s.trc.values.pushFirst = true) :
    leaveSetup s = updateConveyor (modTrc (fun t => { t with handoff := .pushing, dwell := 0 }) s) := if_pos push

theorem leaveSetup_offers (offer : ¬ (s.trc.values.mode = .timed ∨ s.trc.values.pushFirst = true)) :
    leaveSetup s = refreshOutputs (modTrc (fun t => { t with
      handoff := .offered
      taken := false
      handoffTimer := some 0 }) s) := if_neg offer

theorem driveState_updateConveyor (other : c ≠ .conveyor) (s : State) : driveState c (updateConveyor s) = driveState c s := by
  unfold updateConveyor
  split
  · split
    · rw [driveState_driveOff, if_neg fun h => other h.1]
    · rw [driveState_driveOn, if_neg fun h => other h.1]
  · rfl

theorem driveState_leaveSetup (other : c ≠ .conveyor) (s : State) : driveState c (leaveSetup s) = driveState c s := by
  unfold leaveSetup
  split
  · exact (driveState_updateConveyor other _).trans rfl
  · exact driveState_congr (by simp) c

/-- In PUSHING, with no inhibit and no fault, the conveyor runs (R152). -/
theorem updateConveyor_runs (pushing : s.trc.handoff = .pushing) (inhibit : inhibitActive s = false)
    (works : driveFaulted .conveyor s = false) : driveIsOn .conveyor (updateConveyor s) = true := by
  have eq : updateConveyor s = driveOn .conveyor .none s := by simp [updateConveyor, pushing, inhibit]
  rw [eq, driveIsOn, driveState_driveOn, if_pos ⟨rfl, works, .inr inhibit⟩]

/-- What entering SETUP leaves of the handoff: with a delay of 0 and no inhibit the state that follows (R151). -/
theorem enterSetup_trc (s : State) : (enterSetup s).trc.plate = s.trc.plate ∧ (enterSetup s).trc.incoming = s.trc.incoming
    ∧ (enterSetup s).trc.values = s.rss.working.cfg.exit
    ∧ (enterSetup s).trc.halted = s.trc.halted
    ∧ (enterSetup s).trc.handoff = (if s.rss.working.cfg.exit.setupDelay ≠ 0 ∨ inhibitActive s = true then .setup
        else if s.rss.working.cfg.exit.mode = .timed ∨ s.rss.working.cfg.exit.pushFirst = true then .pushing
        else .offered) := by
  obtain ⟨v, vEq⟩ : ∃ v, v = refreshOutputs (modTrc (fun t => { t with
    handoff := .setup, values := s.rss.working.cfg.exit, setupRun := 0, dwell := 0, taken := false,
    handoffTimer := none }) s) := ⟨_, rfl⟩
  have trc : v.trc = { s.trc with
    handoff := .setup, values := s.rss.working.cfg.exit, setupRun := 0, dwell := 0, taken := false,
    handoffTimer := none } := by simp [vEq]
  have inhibit : inhibitActive v = inhibitActive s := inhibitActive_congr (by simp [vEq]) (by simp [vEq])
  have enters : enterSetup s = setupAtOnce v := by rw [vEq]; rfl
  rw [enters]
  by_cases stays : s.rss.working.cfg.exit.setupDelay ≠ 0 ∨ inhibitActive s = true
  · have same : setupAtOnce v = v := by
      rcases stays with delay | active
      · exact if_neg (by rw [trc]; exact delay)
      · simp [setupAtOnce, setupEnd, inhibit, active]
    rw [same, if_pos stays, trc]
    exact ⟨rfl, rfl, rfl, rfl, rfl⟩
  · obtain ⟨none, quiet⟩ : s.rss.working.cfg.exit.setupDelay = 0 ∧ inhibitActive s = false := by simpa using stays
    have ends : setupAtOnce v = leaveSetup v := by
      simp [setupAtOnce, setupEnd, inhibit, quiet, trc, none]
    rw [ends, if_neg stays]
    split
    next push =>
      rw [leaveSetup_pushes (by rw [trc]; exact push)]
      simp [trc]
    next offer =>
      rw [leaveSetup_offers (by rw [trc]; exact offer)]
      simp [trc]

theorem driveState_enterSetup (other : c ≠ .conveyor) (s : State) : driveState c (enterSetup s) = driveState c s := by
  have atOnce (v : State) : driveState c (setupAtOnce v) = driveState c v := by
    unfold setupAtOnce setupEnd
    split
    · split
      · exact driveState_leaveSetup other v
      · rfl
    · rfl
  exact (atOnce _).trans (driveState_congr (by simp) c)

/-! ### The ends of the delays (R151, R152, R154) -/

theorem setupDelay_pushes (power : s.powered = true) (setup : s.trc.handoff = .setup) (inhibit : inhibitActive s = false)
    (push : s.trc.values.mode = .timed ∨ s.trc.values.pushFirst = true) : ∃ t, exec .setupDelayEnd s = .next t
      ∧ t.trc = { s.trc with handoff := .pushing, dwell := 0 }
      ∧ (driveFaulted .conveyor s = false → driveIsOn .conveyor t = true)
      ∧ (∀ c, c ≠ .conveyor → driveState c t = driveState c s) ∧ t.ptb = s.ptb ∧ t.flt = s.flt ∧ t.lnk = s.lnk
      ∧ t.lfn = s.lfn ∧ t.lio.lamps = s.lio.lamps := by
  have ends : setupEnd s = leaveSetup s := if_pos ⟨setup, inhibit⟩
  refine ⟨_, (event_on power).trans (congrArg Host.Outcome.next (ends.trans (leaveSetup_pushes push))), by simp,
    updateConveyor_runs (s := modTrc (fun t => { t with handoff := .pushing, dwell := 0 }) s) rfl inhibit,
    fun c other => (driveState_updateConveyor other _).trans rfl, by simp, by simp, by simp, by simp, by simp⟩

theorem setupDelay_offers (power : s.powered = true) (setup : s.trc.handoff = .setup) (inhibit : inhibitActive s = false)
    (timed : s.trc.values.mode ≠ .timed) (push : s.trc.values.pushFirst = false) : ∃ t, exec .setupDelayEnd s = .next t
      ∧ t.trc = { s.trc with handoff := .offered, taken := false, handoffTimer := some 0 }
      ∧ t.lio.drives = s.lio.drives ∧ t.ptb = s.ptb ∧ t.flt = s.flt ∧ t.lnk = s.lnk ∧ t.lfn = s.lfn := by
  have ends : setupEnd s = leaveSetup s := if_pos ⟨setup, inhibit⟩
  have offers := leaveSetup_offers (s := s) (by simp [timed, push])
  exact ⟨_, (event_on power).trans (congrArg Host.Outcome.next (ends.trans offers)), by simp, by simp, by simp, by simp,
    by simp, by simp⟩

theorem dwell_offers (power : s.powered = true) (pushing : s.trc.handoff = .pushing) (on : driveIsOn .conveyor s = true)
    (timed : s.trc.values.mode ≠ .timed) : ∃ t, exec .pushDwellEnd s = .next t
      ∧ t.trc = { s.trc with handoff := .offered, taken := false, handoffTimer := some 0 }
      ∧ driveState .conveyor t = .off ∧ (∀ c, c ≠ .conveyor → driveState c t = driveState c s)
      ∧ t.ptb = s.ptb ∧ t.flt = s.flt ∧ t.lnk = s.lnk ∧ t.lfn = s.lfn := by
  have ends : dwellEnd s = enterOffered (driveOff .conveyor s) := by
    simp only [dwellEnd, pushing, on, timed, true_and, if_true, if_false]
  have drives (c : DriveChannel) : driveState c (enterOffered (driveOff .conveyor s)) = driveState c (driveOff .conveyor s) :=
    driveState_congr (by simp) c
  refine ⟨_, (event_on power).trans (congrArg Host.Outcome.next ends), by simp [enterOffered], ?_, fun c other => ?_, by simp,
    by simp, by simp, by simp⟩
  · rw [drives, driveState_driveOff, if_pos ⟨rfl, on⟩]
  · rw [drives, driveState_driveOff, if_neg fun h => other h.1]

theorem dwell_hands (power : s.powered = true) (pushing : s.trc.handoff = .pushing) (timed : s.trc.values.mode = .timed)
    (on : driveIsOn .conveyor s = true) (plate : s.trc.plate = some k) (at_ : plateAt s k = some p)
    (atExit : p.state = .atExit) :
    ∃ t, exec .pushDwellEnd s = .next t ∧ HandedOver k p s t ∧ driveState .conveyor t = .off := by
  have ends : dwellEnd s = completeHandoff (driveOff .conveyor s) := by
    simp only [dwellEnd, pushing, on, timed, true_and, if_true]
  refine ⟨_, (event_on power).trans (congrArg Host.Outcome.next ends), ?_, ?_⟩
  · refine (completeHandoff_hands (p := p) (by simpa using plate) ((plateAt_congr (by simp) k).trans at_) atExit).of_before
      (by simp) (by simp) (by simp) (inputActive_congr (by simp) (by simp) _)
  · rw [driveState_completeHandoff (by simp), driveState_driveOff, if_pos ⟨rfl, on⟩]

theorem timeout_reports (power : s.powered = true) (offered : s.trc.handoff = .offered) (runs : s.trc.handoffTimer ≠ none) :
    ∃ t, exec .handoffTimeout s = .next t
      ∧ t.trc = { s.trc with handoffTimer := none } ∧ t.flt.flags = s.flt.flags ||| flagBit .exitTimeout
      ∧ t.ptb = s.ptb ∧ t.rss = s.rss ∧ t.lfn = s.lfn ∧ t.lio.drives = s.lio.drives
      ∧ t.flt.lineState = s.flt.lineState := by
  have expires : handoffExpiry s = setFlag .exitTimeout (modTrc (fun t => { t with handoffTimer := none }) s) :=
    if_pos ⟨offered, Option.isSome_iff_ne_none.2 runs⟩
  refine ⟨_, (event_on power).trans (congrArg Host.Outcome.next expires), by simp, ?_, by simp, by simp, by simp, by simp,
    by simp⟩
  rw [setFlag_flags]
  rfl

theorem timeout_idle (idle : s.trc.handoff ≠ .offered ∨ s.trc.handoffTimer = none) : exec .handoffTimeout s = .next s := by
  refine event_same (if_neg ?_)
  rintro ⟨offered, runs⟩
  rcases idle with other | stopped
  · exact other offered
  · rw [stopped] at runs
    cases runs

/-! ### The changes of EXIT_PRESENT (R149, R151, R155) -/

theorem lfnEnterClearWait_moving (s : State) : (lfnEnterClearWait s).lfn.moving = s.lfn.moving := by
  have decided (v : State) : (arbiter v).lfn.moving = v.lfn.moving := by
    unfold arbiter
    split
    · split
      · simp
      · split
        · split
          · simp [beginTake, modLfn]
          · rfl
        · rfl
    · rfl
  unfold lfnEnterClearWait
  dsimp only
  split
  · rfl
  · exact (decided _).trans rfl

theorem driveState_lfnEnterClearWait (other : c ≠ .elevator) (s : State) :
    driveState c (lfnEnterClearWait s) = driveState c s := by
  unfold lfnEnterClearWait
  dsimp only
  split
  · rfl
  · exact (driveState_arbiter other _).trans rfl

/-- The finisher after its plate has left it (R137). -/
theorem lfnReleaseEnd_lfn (s : State) : (lfnReleaseEnd s).lfn.plate = none ∧ (lfnReleaseEnd s).lfn.tagRead = none
    ∧ (lfnReleaseEnd s).lfn.moving = false ∧ (lfnReleaseEnd s).lfn.uva = ⟨.waiting, false⟩
    ∧ (lfnReleaseEnd s).lfn.uvc = ⟨.waiting, false⟩
    ∧ (lfnReleaseEnd s).lfn.state = (if inputActive .lfnPresent s then .clearWait else .empty)
    ∧ driveIsOn .outfeed (lfnReleaseEnd s) = false := by
  obtain ⟨v, vEq⟩ : ∃ v, v = modLfn (fun l => { lfnClear l with moving := false }) (driveOff .outfeed s) := ⟨_, rfl⟩
  have eq : lfnReleaseEnd s = lfnEnterClearWait v := by rw [vEq]; rfl
  have station : v.lfn = { lfnClear s.lfn with moving := false } := by simp [vEq]
  have present : inputActive .lfnPresent v = inputActive .lfnPresent s := inputActive_congr (by simp [vEq]) (by simp [vEq]) _
  have off : driveIsOn .outfeed v = false :=
    (driveIsOn_congr (s := driveOff .outfeed s) (by simp [vEq]) _).trans (driveOff_off _ _)
  obtain ⟨plate, state, uva, uvc, tag⟩ := lfnEnterClearWait_lfn v
  have moving := lfnEnterClearWait_moving v
  rw [station] at plate uva uvc tag moving
  rw [present] at state
  rw [eq]
  refine ⟨plate, tag, moving, uva, uvc, state, ?_⟩
  rw [driveIsOn, driveState_lfnEnterClearWait (by simp)]
  exact off

section Sensor
variable {i : Fin 12}

theorem exec_exitPresent {active : Bool} (h : Changes i .exitPresent active s) :
    exec (.debounceExpiry i) s = .next (exitPresentChange active (flipped i s)) := exec_debounce h

theorem exit_arrives (h : Changes i .exitPresent true s) (empty : s.trc.handoff = .empty) (sent : s.trc.incoming = some k)
    (at_ : plateAt s k = some p) (finished : p.state = .finished) :
    let x := s.rss.working.cfg.exit
    ∃ t, exec (.debounceExpiry i) s = .next t
      ∧ t.ptb.plates = s.ptb.plates.set k.val (some { p with state := .atExit }) k.isLt
      ∧ t.trc.plate = some k ∧ t.trc.incoming = none ∧ t.trc.values = x
      ∧ t.trc.handoff = (if x.setupDelay ≠ 0 ∨ inhibitActive s = true then .setup
          else if x.mode = .timed ∨ x.pushFirst = true then .pushing else .offered)
      ∧ t.lfn.plate = none ∧ t.lfn.tagRead = none ∧ t.lfn.moving = false ∧ t.lfn.uva = ⟨.waiting, false⟩
      ∧ t.lfn.uvc = ⟨.waiting, false⟩ ∧ t.lfn.state = (if inputActive .lfnPresent s then .clearWait else .empty)
      ∧ driveIsOn .outfeed t = false ∧ t.lio.inputs = (flipped i s).lio.inputs ∧ t.lio.lamps = s.lio.lamps
      ∧ t.ptb.queue = s.ptb.queue ∧ t.rss = s.rss ∧ t.din = s.din ∧ t.exu = s.exu ∧ t.wou = s.wou ∧ t.dry = s.dry
      ∧ t.flt = s.flt := by
  intro x
  obtain ⟨v, vEq⟩ : ∃ v, v = setPlate k (some { p with state := .atExit }) (flipped i s) := ⟨_, rfl⟩
  obtain ⟨w, wEq⟩ : ∃ w, w = modTrc (fun t => { t with incoming := none, plate := some k }) (lfnReleaseEnd v) := ⟨_, rfl⟩
  have enters : exitPresentChange true (flipped i s) = enterSetup w := by
    have state : (flipped i s).trc.handoff = .empty := empty
    have incoming : (flipped i s).trc.incoming = some k := sent
    have here : plateAt (flipped i s) k = some p := at_
    have moved : movePlate k .finished .atExit id (flipped i s) = v := by simp [movePlate, here, finished, vEq]
    simp only [exitPresentChange, state, if_true, incoming, moved, ← wEq]
  obtain ⟨plate, incoming, values, -, handoff⟩ := enterSetup_trc w
  obtain ⟨lfnPlate, tag, moving, uva, uvc, state, off⟩ := lfnReleaseEnd_lfn v
  have station : (enterSetup w).lfn = (lfnReleaseEnd v).lfn := by simp [wEq]
  have store : w.rss = s.rss := by simp [wEq, vEq, flipped]
  have senses (fn : InputFunction) (other : fn ≠ .exitPresent) : inputActive fn v = inputActive fn s :=
    (inputActive_congr (s := flipped i s) (by simp [vEq]) (by simp [vEq]) fn).trans (inputActive_flipped_other h other)
  have inhibit : inhibitActive w = inhibitActive s :=
    (inhibitActive_congr (s := v) (by simp [wEq]) (by simp [wEq])).trans (senses .inhibit (by simp))
  rw [store] at values handoff
  rw [inhibit] at handoff
  rw [senses .lfnPresent (by simp)] at state
  refine ⟨_, (exec_exitPresent h).trans (congrArg Host.Outcome.next enters), by simp [wEq, vEq, setPlate_plates, flipped],
    plate.trans (by simp [wEq]), incoming.trans (by simp [wEq]), values, handoff, ?_⟩
  rw [station]
  refine ⟨lfnPlate, tag, moving, uva, uvc, state, ?_, by simp [wEq, vEq], by simp [wEq, vEq, flipped],
    by simp [wEq, vEq, flipped], by simp [wEq, vEq, flipped], by simp [wEq, vEq, flipped], by simp [wEq, vEq, flipped],
    by simp [wEq, vEq, flipped], by simp [wEq, vEq, flipped], by simp [wEq, vEq, flipped]⟩
  rw [driveIsOn, driveState_enterSetup (by simp)]
  exact (driveIsOn_congr (s := lfnReleaseEnd v) (by simp [wEq]) _).trans off

/-- EXIT_PRESENT clearing with no handoff in hand empties the table, and the finisher tests its release. -/
theorem exitCleared (h : Changes i .exitPresent false s) (free : s.trc.handoff = .empty ∨ s.trc.handoff = .doneWaitClear) :
    exitPresentChange false (flipped i s) = tryRelease (modTrc (fun t => { t with handoff := .empty }) (flipped i s)) := by
  have present : inputActive .exitPresent (flipped i s) = false := inputActive_flipped_self h
  rcases free with empty | waits
  · have same : modTrc (fun t => { t with handoff := .empty }) (flipped i s) = flipped i s := by
      rw [modTrc, ← empty]
      rfl
    have here : (flipped i s).trc.handoff = .empty := empty
    simp only [exitPresentChange, here, same, Bool.false_eq_true, if_false, reportExitFree_eq]
  · have here : (flipped i s).trc.handoff = .doneWaitClear := waits
    simp only [exitPresentChange, here, testExitClear, present, true_and, if_true, reportExitFree_eq]

theorem exitPresentChange_busy {active : Bool} (busy : s.trc.handoff ≠ .empty ∧ s.trc.handoff ≠ .doneWaitClear) :
    exitPresentChange active s = s := by
  obtain ⟨notEmpty, notWaiting⟩ := busy
  unfold exitPresentChange
  split
  next empty => exact absurd empty notEmpty
  next waits => exact absurd waits notWaiting
  all_goals rfl

theorem exit_rises (h : Changes i .exitPresent true s) :
    (s.trc.handoff = .empty → s.trc.incoming = none →
      exec (.debounceExpiry i) s = .next { flipped i s with trc := { s.trc with handoff := .doneWaitClear } })
    ∧ (s.trc.handoff ≠ .empty → exec (.debounceExpiry i) s = .next (flipped i s)) := by
  refine ⟨fun empty none_ => ?_, fun busy => ?_⟩
  · have here : (flipped i s).trc.handoff = .empty := empty
    have incoming : (flipped i s).trc.incoming = none := none_
    refine (exec_exitPresent h).trans (congrArg Host.Outcome.next ?_)
    have unknown : exitPresentChange true (flipped i s)
        = modTrc (fun t => { t with handoff := .doneWaitClear }) (flipped i s) := by
      simp only [exitPresentChange, here, incoming, if_true]
    exact unknown
  · refine (exec_exitPresent h).trans (congrArg Host.Outcome.next ?_)
    by_cases waits : s.trc.handoff = .doneWaitClear
    · have here : (flipped i s).trc.handoff = .doneWaitClear := waits
      have present : inputActive .exitPresent (flipped i s) = true := inputActive_flipped_self h
      simp [exitPresentChange, here, testExitClear, present]
    · exact exitPresentChange_busy ⟨busy, waits⟩

theorem exit_falls (h : Changes i .exitPresent false s) :
    let free := s.trc.handoff = .empty ∨ s.trc.handoff = .doneWaitClear
    let leaves := s.trc.incoming = none ∧ s.lfn.state = .finished ∧ s.lfn.moving = false
      ∧ (s.flt.lineState = .run ∨ s.flt.lineState = .safeHold) ∧ driveFaulted .outfeed s = false
    (¬ free → exec (.debounceExpiry i) s = .next (flipped i s))
    ∧ (free → ¬ leaves ∨ s.lfn.plate = none →
      exec (.debounceExpiry i) s = .next { flipped i s with trc := { s.trc with handoff := .empty } })
    ∧ (∀ k, free → leaves → s.lfn.plate = some k → ∃ t, exec (.debounceExpiry i) s = .next t
      ∧ t.trc = { s.trc with handoff := .empty, incoming := some k } ∧ t.lfn = { s.lfn with moving := true }
      ∧ (inhibitActive s = false → driveIsOn .outfeed t = true)
      ∧ (∀ c, c ≠ .outfeed → driveState c t = driveState c s) ∧ t.lio.lamps = s.lio.lamps
      ∧ t.ptb = s.ptb ∧ t.rss = s.rss ∧ t.din = s.din ∧ t.exu = s.exu ∧ t.wou = s.wou ∧ t.dry = s.dry
      ∧ t.flt = s.flt ∧ t.lnk = s.lnk) := by
  intro free leaves
  have present : inputActive .exitPresent (modTrc (fun t => { t with handoff := .empty }) (flipped i s)) = false :=
    inputActive_flipped_self h
  have may : MayLeave (modTrc (fun t => { t with handoff := .empty }) (flipped i s)) ↔ leaves := by
    unfold MayLeave
    rw [exitTableFree_iff, present]
    simp only [modTrc_trc, true_and]
    constructor
    · exact fun ⟨finished, still, incoming, line, outfeed⟩ => ⟨incoming, finished, still, line, outfeed⟩
    · exact fun ⟨incoming, finished, still, line, outfeed⟩ => ⟨finished, still, incoming, line, outfeed⟩
  refine ⟨fun busy => ?_, fun isFree stays => ?_, fun k isFree go plate => ?_⟩
  · exact (exec_exitPresent h).trans (congrArg Host.Outcome.next (exitPresentChange_busy (not_or.1 busy)))
  · refine (exec_exitPresent h).trans (congrArg Host.Outcome.next ((exitCleared h isFree).trans (tryRelease_stays ?_)))
    exact stays.symm.imp_right (may.not.2)
  · have goes := tryRelease_leaves (s := modTrc (fun t => { t with handoff := .empty }) (flipped i s)) plate (may.2 go)
    refine ⟨_, (exec_exitPresent h).trans (congrArg Host.Outcome.next ((exitCleared h isFree).trans goes)), by simp [flipped],
      by simp [flipped], fun inhibit => ?_, fun c other => ?_, by simp [flipped], by simp [flipped], by simp [flipped],
      by simp [flipped], by simp [flipped], by simp [flipped], by simp [flipped], by simp [flipped], by simp [flipped]⟩
    · have quiet := (inhibitActive_flipped h (by simp)).trans inhibit
      rw [driveIsOn, driveState_driveOn, if_pos ⟨rfl, go.2.2.2.2, .inr quiet⟩]
    · rw [driveState_driveOn, if_neg fun h => other h.1]
      rfl

end Sensor

/-! ### The stacker's signals and the button (R153) -/

section Signals
variable {i : Fin 12} {fn : InputFunction} {active : Bool}

/-- A handoff that a signal completes, whatever the signal has noted before. -/
theorem signal_completes {v : State} (h : Changes i fn active s) (other : fn ≠ .exitPresent)
    (ends : deliver fn active (flipped i s) = completeHandoff v) (noted : ∃ taken, v = { flipped i s with
      trc := { s.trc with taken := taken } }) (k : Slot) (p : PlateRecord) (plate : s.trc.plate = some k)
    (at_ : plateAt s k = some p) (atExit : p.state = .atExit) :
    ∃ t, exec (.debounceExpiry i) s = .next t ∧ HandedOver k p s t := by
  obtain ⟨taken, rfl⟩ := noted
  refine ⟨_, (exec_debounce h).trans (congrArg Host.Outcome.next ends), ?_⟩
  exact (completeHandoff_hands (s := { flipped i s with trc := { s.trc with taken := taken } }) plate at_ atExit).of_before
    rfl rfl ⟨rfl, rfl, rfl, rfl, rfl, rfl⟩
    (inputActive_flipped_other h (Ne.symm other))

theorem stkBusyChange_idle (h : ¬ (s.trc.handoff = .offered ∧ s.trc.values.mode = .idleOnly)
    ∧ ¬ (s.trc.handoff = .offered ∧ s.trc.values.mode = .takenThenIdle)) : stkBusyChange active s = s := by
  unfold stkBusyChange
  split
  next offered =>
    split
    next mode => exact absurd ⟨offered, mode⟩ h.2
    next mode => exact absurd ⟨offered, mode⟩ h.1
    all_goals rfl
  next => rfl

/-- STK_BUSY going active is noted in IDLE_ONLY, and only there. -/
theorem stkBusy_rises (h : Changes i .stkBusy true s) :
    ((s.trc.handoff = .offered ∧ s.trc.values.mode = .idleOnly) →
      exec (.debounceExpiry i) s = .next { flipped i s with trc := { s.trc with taken := true } })
    ∧ (¬ (s.trc.handoff = .offered ∧ s.trc.values.mode = .idleOnly) →
      exec (.debounceExpiry i) s = .next (flipped i s)) := by
  refine ⟨fun ⟨offered, mode⟩ => ?_, fun not => ?_⟩
  · have noted : stkBusyChange true (flipped i s) = setTaken (flipped i s) := by
      have here : (flipped i s).trc.handoff = .offered := offered
      have idleOnly : (flipped i s).trc.values.mode = .idleOnly := mode
      simp only [stkBusyChange, here, idleOnly, if_true]
    exact (exec_debounce h).trans (congrArg Host.Outcome.next noted)
  · refine (exec_debounce h).trans (congrArg Host.Outcome.next ?_)
    by_cases tti : s.trc.handoff = .offered ∧ s.trc.values.mode = .takenThenIdle
    · have here : (flipped i s).trc.handoff = .offered := tti.1
      have mode : (flipped i s).trc.values.mode = .takenThenIdle := tti.2
      have unmoved : stkBusyChange true (flipped i s) = flipped i s := by simp [stkBusyChange, here, mode]
      exact unmoved
    · exact stkBusyChange_idle (s := flipped i s) ⟨not, tti⟩

/-- STK_BUSY going inactive completes a handoff whose plate has been taken. -/
theorem stkBusy_falls (h : Changes i .stkBusy false s) :
    ((s.trc.handoff = .offered ∧ s.trc.values.mode = .idleOnly) ∨ (s.trc.handoff = .offered ∧ s.trc.values.mode = .takenThenIdle) →
      s.trc.taken = true → ∀ k p, s.trc.plate = some k → plateAt s k = some p → p.state = .atExit →
      ∃ t, exec (.debounceExpiry i) s = .next t ∧ HandedOver k p s t)
    ∧ ((¬ (s.trc.handoff = .offered ∧ s.trc.values.mode = .idleOnly)
        ∧ ¬ (s.trc.handoff = .offered ∧ s.trc.values.mode = .takenThenIdle)) ∨ s.trc.taken = false →
      exec (.debounceExpiry i) s = .next (flipped i s)) := by
  have offeredKept : (flipped i s).trc = s.trc := rfl
  refine ⟨fun modes taken => signal_completes (v := flipped i s) h (by simp) ?_ ⟨s.trc.taken, rfl⟩, fun idle => ?_⟩
  · have completes : stkBusyChange false (flipped i s) = completeHandoff (flipped i s) := by
      rcases modes with ⟨offered, mode⟩ | ⟨offered, mode⟩
      · simp [stkBusyChange, offeredKept, offered, mode, taken]
      · simp [stkBusyChange, offeredKept, offered, mode, taken]
    exact completes
  · refine (exec_debounce h).trans (congrArg Host.Outcome.next ?_)
    rcases idle with not | waits
    · exact stkBusyChange_idle (s := flipped i s) not
    · have unmoved : stkBusyChange false (flipped i s) = flipped i s := by
        unfold stkBusyChange
        rw [offeredKept]
        split
        · split <;> simp [waits]
        · rfl
      exact unmoved

/-- STK_TAKEN going active, in TAKEN_THEN_IDLE, completes the handoff unless the stacker is busy. -/
theorem stkTaken_rises (h : Changes i .stkTaken true s) :
    ((s.trc.handoff = .offered ∧ s.trc.values.mode = .takenThenIdle) → inputActive .stkBusy s = false →
      ∀ k p, s.trc.plate = some k → plateAt s k = some p → p.state = .atExit →
      ∃ t, exec (.debounceExpiry i) s = .next t ∧ HandedOver k p s t)
    ∧ ((s.trc.handoff = .offered ∧ s.trc.values.mode = .takenThenIdle) → inputActive .stkBusy s = true →
      exec (.debounceExpiry i) s = .next { flipped i s with trc := { s.trc with taken := true } })
    ∧ (¬ (s.trc.handoff = .offered ∧ s.trc.values.mode = .takenThenIdle) →
      exec (.debounceExpiry i) s = .next (flipped i s)) := by
  have busyKept : inputActive .stkBusy (setTaken (flipped i s)) = inputActive .stkBusy s :=
    inputActive_flipped_other h (by simp)
  have taken (offered : s.trc.handoff = .offered) (mode : s.trc.values.mode = .takenThenIdle) :
      stkTakenChange true (flipped i s) = (if inputActive .stkBusy s = true then setTaken (flipped i s)
        else completeHandoff (setTaken (flipped i s))) := by
    have here : (flipped i s).trc.handoff = .offered ∧ true = true ∧ (flipped i s).trc.values.mode = .takenThenIdle :=
      ⟨offered, rfl, mode⟩
    unfold stkTakenChange
    rw [if_pos here]
    dsimp only
    rw [busyKept]
  refine ⟨fun ⟨offered, mode⟩ idle => ?_, fun ⟨offered, mode⟩ busy => ?_, fun not => ?_⟩
  · refine signal_completes (v := setTaken (flipped i s)) h (by simp) ?_ ⟨true, rfl⟩
    exact (taken offered mode).trans (if_neg (Bool.eq_false_iff.1 idle))
  · exact (exec_debounce h).trans (congrArg Host.Outcome.next ((taken offered mode).trans (if_pos busy)))
  · refine (exec_debounce h).trans (congrArg Host.Outcome.next ?_)
    exact if_neg fun all => not ⟨all.1, all.2.2⟩

theorem operatorTake_rises (h : Changes i .operatorTake true s) :
    (s.trc.handoff = .offered → ∀ k p, s.trc.plate = some k → plateAt s k = some p → p.state = .atExit →
      ∃ t, exec (.debounceExpiry i) s = .next t ∧ HandedOver k p s t)
    ∧ (s.trc.handoff ≠ .offered → exec (.debounceExpiry i) s = .next (flipped i s)) := by
  refine ⟨fun offered => signal_completes (v := flipped i s) h (by simp) ?_ ⟨s.trc.taken, rfl⟩, fun other => ?_⟩
  · exact if_pos ⟨offered, rfl⟩
  · exact (exec_debounce h).trans (congrArg Host.Outcome.next (if_neg fun all => other all.1))

theorem signal_falls (h : Changes i .stkTaken false s ∨ Changes i .operatorTake false s) :
    exec (.debounceExpiry i) s = .next (flipped i s) := by
  rcases h with h | h
  · exact (exec_debounce h).trans (congrArg Host.Outcome.next (if_neg (by simp)))
  · exact (exec_debounce h).trans (congrArg Host.Outcome.next (if_neg (by simp)))

end Signals

/-- Settles O55: the delays, the sensor and the signals, each by the stage the handoff is in. -/
theorem handoffEnds : Obligations.HandoffEnds := by
  unfold Obligations.HandoffEnds
  refine ⟨fun s power => ⟨fun setup inhibit => ⟨setupDelay_pushes power setup inhibit, setupDelay_offers power setup inhibit⟩,
      dwell_offers power, timeout_reports power, timeout_idle⟩,
    fun _ _ _ => dwell_hands, fun _ _ _ _ => exit_arrives, fun i s => ⟨exit_rises, exit_falls⟩, fun i s => ?_⟩
  exact ⟨stkBusy_rises, stkBusy_falls, stkTaken_rises, operatorTake_rises, signal_falls⟩

end Sys2Proof.Machine
end


section
/-! SUPPORT. The finisher: its tag check, its two runs and their endings, its sensor and the take the arbiter begins for it
(R130 to R133, R137, R138, R144). -/
namespace Sys2Proof.Machine
variable {s t u v : State} {k : Slot} {p : PlateRecord}

/-! ### The arbiter's choice of a take (R144) -/

section Choice
variable {d : DrawerNo} {id done : Nat}

/-- The drawer `d` is done since `done`, no later than any other, and of those done then it has the lowest number. -/
def DoneFirst (s : State) (d : DrawerNo) (k : Slot) (done : Nat) : Prop :=
  doneDrawer s d = some (done, k)
    ∧ ∀ e x, doneDrawer s e = some x → done < x.1 ∨ done = x.1 ∧ d ≤ e

theorem doneFirst_of (at_ : drawerAt s d = .dryDone k id done)
    (first : ∀ e k2 id2 done2, drawerAt s e = .dryDone k2 id2 done2 → done < done2 ∨ done = done2 ∧ d ≤ e) :
    DoneFirst s d k done := by
  refine ⟨by simp [doneDrawer, at_], fun e x found => ?_⟩
  unfold doneDrawer at found
  split at found
  next k2 id2 t at_e =>
    obtain rfl := Option.some.inj found
    exact first e k2 id2 t at_e
  next => cases found

theorem betterTake_keeps (first : DoneFirst s d k done) (e : DrawerNo) :
    betterTake s (some (d, done, k)) e = some (d, done, k) := by
  unfold betterTake
  split
  next => rfl
  next h => cases h
  next x d0 t0 k0 found h =>
    obtain ⟨rfl, rfl, rfl⟩ : d = d0 ∧ done = t0 ∧ k = k0 := by simpa using h
    refine if_neg ?_
    rcases first.2 e x found with less | ⟨same, -⟩
    · omega
    · omega

/-- Best so far before drawer `d` is looked at: a drawer done later, or none. -/
theorem foldl_betterTake (first : DoneFirst s d k done) : ∀ (l : List DrawerNo) (best : Option (DrawerNo × Nat × Slot)),
    l.Pairwise (· < ·) → d ∈ l → (∀ x ∈ best, done < x.2.1) → l.foldl (betterTake s) best = some (d, done, k)
  | [], _, _, mem, _ => by cases mem
  | e :: l, best, sorted, mem, worse => by
    obtain ⟨before, sorted⟩ := List.pairwise_cons.1 sorted
    rw [List.foldl_cons]
    by_cases own : e = d
    · have taken : betterTake s best e = some (d, done, k) := by
        rw [own]
        unfold betterTake
        rw [first.1]
        cases best with
        | none => rfl
        | some x => exact if_pos (worse x rfl)
      rw [taken, List.foldl_fixed' (betterTake_keeps first)]
    · have rest : d ∈ l := (List.mem_cons.1 mem).resolve_left (Ne.symm own)
      have less : e < d := before d rest
      refine foldl_betterTake first l _ sorted rest fun x found => ?_
      unfold betterTake at found
      split at found
      next => exact worse x found
      next y none_ =>
        obtain rfl := Option.some.inj found
        rcases first.2 e y none_ with later | ⟨-, le⟩
        · exact later
        · exact absurd less (not_lt.2 le)
      next y d0 t0 k0 some_ =>
        split at found
        next =>
          obtain rfl := Option.some.inj found
          rcases first.2 e y some_ with later | ⟨-, le⟩
          · exact later
          · exact absurd less (not_lt.2 le)
        next => exact worse x found

/-- R144: the arbiter takes the plate dried longest ago, of two the one in the lower drawer. -/
theorem takeChoice_first (first : DoneFirst s d k done) : takeChoice s = some (d, done, k) :=
  foldl_betterTake first _ _ (List.pairwise_lt_finRange 6) (List.mem_finRange d) (by simp)

end Choice

/-! ### The finisher's sensor (R130, R138, R144) -/

section Sensor
variable {i : Fin 12} {d : DrawerNo} {id done : Nat}

theorem exec_lfnPresent {active : Bool} (h : Changes i .lfnPresent active s) :
    exec (.debounceExpiry i) s = .next (lfnPresentChange active (flipped i s)) := exec_debounce h

theorem lfn_rises (h : Changes i .lfnPresent true s) :
    (s.lfn.state = .empty → s.lfn.incoming = false →
      exec (.debounceExpiry i) s = .next { flipped i s with lfn := { s.lfn with state := .clearWait } })
    ∧ (s.lfn.state ≠ .empty ∨ s.lfn.incoming = true → exec (.debounceExpiry i) s = .next (flipped i s)) := by
  refine ⟨fun empty unsent => ?_, fun known => ?_⟩
  · have here : (flipped i s).lfn = s.lfn := rfl
    have present : inputActive .lfnPresent (modLfn (fun l => { l with state := .clearWait }) (flipped i s)) = true :=
      inputActive_flipped_self h
    have waits : lfnPresentChange true (flipped i s) = modLfn (fun l => { l with state := .clearWait }) (flipped i s) := by
      simp [lfnPresentChange, here, empty, unsent, lfnEnterClearWait, present]
    exact (exec_lfnPresent h).trans (congrArg Host.Outcome.next waits)
  · have stands : lfnPresentChange true (flipped i s) = flipped i s := by
      have here : (flipped i s).lfn = s.lfn := rfl
      unfold lfnPresentChange
      rw [here]
      split
      next empty =>
        have sent : s.lfn.incoming = true := known.resolve_left fun other => other empty
        simp [sent]
      all_goals rfl
    exact (exec_lfnPresent h).trans (congrArg Host.Outcome.next stands)

theorem lfnPresentChange_clears (waits : s.lfn.state = .clearWait) :
    lfnPresentChange false s = arbiter (modLfn (fun l => { l with state := .empty }) s) := by
  simp only [lfnPresentChange, waits, Bool.false_eq_true, if_false, lfnEnterEmpty]

theorem lfn_falls (h : Changes i .lfnPresent false s) :
    (s.lfn.state ≠ .clearWait → exec (.debounceExpiry i) s = .next (flipped i s))
    ∧ (s.lfn.state = .clearWait → s.trc.elevator ≠ .idle →
      exec (.debounceExpiry i) s = .next { flipped i s with lfn := { s.lfn with state := .empty } }) := by
  refine ⟨fun other => ?_, fun waits busy => ?_⟩
  · have stands : lfnPresentChange false (flipped i s) = flipped i s := by
      have here : (flipped i s).lfn = s.lfn := rfl
      unfold lfnPresentChange
      rw [here]
      split
      next => rfl
      next waits => exact absurd waits other
      next => rfl
    exact (exec_lfnPresent h).trans (congrArg Host.Outcome.next stands)
  · have notReady : arbiterReady (modLfn (fun l => { l with state := .empty }) (flipped i s)) = false := by
      have moves : ((flipped i s).trc.elevator == .idle) = false := beq_eq_false_iff_ne.2 busy
      simp only [arbiterReady, modLfn_trc, moves, Bool.false_and]
    have rests : arbiter (modLfn (fun l => { l with state := .empty }) (flipped i s))
        = modLfn (fun l => { l with state := .empty }) (flipped i s) := by
      unfold arbiter
      rw [notReady]
      rfl
    exact (exec_lfnPresent h).trans (congrArg Host.Outcome.next ((lfnPresentChange_clears (s := flipped i s) waits).trans rests))

/-- R144: the arbiter begins a take for the EMPTY finisher. -/
theorem arbiter_takes (ready : arbiterReady s = true) (put : s.trc.pendingPut = none) (allowed : takeAllowed s = true)
    (first : DoneFirst s d k done) : arbiter s = beginTake d k s := by
  simp [arbiter, ready, put, allowed, takeChoice_first first]

theorem beginTake_trc (d : DrawerNo) (k : Slot) (s : State) : (beginTake d k s).trc.request = some (.take d k)
    ∧ (beginTake d k s).trc.level = s.trc.level
    ∧ (beginTake d k s).trc.elevator = .inPhase (if s.trc.level.val = d.val + 1 then .pick else .travel (drawerLevel d)) := by
  obtain ⟨v, vEq⟩ : ∃ v, v = modLfn (fun l => { l with incoming := true })
    (modTrc (fun t => { t with request := some (.take d k) }) s) := ⟨_, rfl⟩
  have eq : beginTake d k s = travelThen (drawerLevel d) .pick v := by rw [vEq]; rfl
  have level : v.trc.level = s.trc.level := by rw [vEq]; rfl
  have request : v.trc.request = some (.take d k) := by rw [vEq]; rfl
  have same : s.trc.level = drawerLevel d ↔ s.trc.level.val = d.val + 1 := Fin.ext_iff
  rw [eq]
  by_cases there : v.trc.level = drawerLevel d
  · rw [travelThen_there _ there, commandPhase_trc, if_pos (same.1 (level ▸ there))]
    exact ⟨request, level, rfl⟩
  · rw [travelThen_away _ there, commandPhase_trc, if_neg fun h => there (level.trans (same.2 h))]
    exact ⟨request, level, rfl⟩

theorem lfn_takes (h : Changes i .lfnPresent false s) (waits : s.lfn.state = .clearWait) (unsent : s.lfn.incoming = false)
    (idle : s.trc.elevator = .idle) (free : s.trc.request = none) (put : s.trc.pendingPut = none)
    (moving : s.trc.halted = false) (line : s.flt.lineState = .run) (uva : isSet (.lampFail .uva) s = false)
    (uvc : isSet (.lampFail .uvc) s = false) (order : isSet .orderMismatch s = false)
    (outfeed : isSet (.driveFault .outfeed) s = false) (at_ : drawerAt s d = .dryDone k id done)
    (first : ∀ e k2 id2 done2, drawerAt s e = .dryDone k2 id2 done2 → done < done2 ∨ done = done2 ∧ d ≤ e) :
    ∃ t, exec (.debounceExpiry i) s = .next t ∧ t.lfn = { s.lfn with state := .empty, incoming := true }
      ∧ t.trc.request = some (.take d k) ∧ t.trc.level = s.trc.level
      ∧ t.trc.elevator = .inPhase (if s.trc.level.val = d.val + 1 then .pick else .travel (drawerLevel d))
      ∧ (∀ c, c ≠ .elevator → driveState c t = driveState c s) ∧ t.lio.lamps = s.lio.lamps
      ∧ t.ptb = s.ptb ∧ t.rss = s.rss ∧ t.din = s.din ∧ t.exu = s.exu ∧ t.wou = s.wou ∧ t.dry = s.dry
      ∧ t.flt = s.flt ∧ t.lnk = s.lnk := by
  obtain ⟨v, vEq⟩ : ∃ v, v = modLfn (fun l => { l with state := .empty }) (flipped i s) := ⟨_, rfl⟩
  have trc : v.trc = s.trc := by rw [vEq]; rfl
  have lfn : v.lfn = { s.lfn with state := .empty } := by rw [vEq]; rfl
  have flt : v.flt = s.flt := by rw [vEq]; rfl
  have flags (f : Flag) : isSet f v = isSet f s := isSet_congr (congrArg (·.flags) flt) f
  have ready : arbiterReady v = true := by simp [arbiterReady, trc, idle, free, moving, flt, line]
  have allowed : takeAllowed v = true := by
    simp [takeAllowed, lfn, unsent, flt, line, lfnFlagged, lfnLampFailed, flags, uva, uvc, order, outfeed]
  have chosen : DoneFirst v d k done := by
    rw [vEq]
    exact doneFirst_of at_ first
  have begins := arbiter_takes ready (by rw [trc]; exact put) allowed chosen
  obtain ⟨request, level, elevator⟩ := beginTake_trc d k v
  rw [trc] at level elevator
  refine ⟨_, (exec_lfnPresent h).trans (congrArg Host.Outcome.next ((lfnPresentChange_clears (s := flipped i s) waits).trans
    ((congrArg arbiter vEq.symm).trans begins))), ?_, request, level, elevator, fun c other => ?_, ?_⟩
  · simp [beginTake, lfn, modLfn]
  · refine (driveState_travelThen other _ _ _).trans ?_
    rw [vEq]
    rfl
  · simp [beginTake, vEq, flipped]

end Sensor

/-! ### The finished plate (R133, R137) -/

/-- From `s` to `t` the plate in slot `k`, whose record was `p`, is FINISHED, and its release has started if it may. -/
structure FinishedAt (k : Slot) (p : PlateRecord) (s t : State) : Prop where
  station : t.lfn.state = .finished ∧ t.lfn.plate = s.lfn.plate ∧ t.lfn.tagRead = s.lfn.tagRead
    ∧ t.lfn.uva = s.lfn.uva ∧ t.lfn.uvc = s.lfn.uvc
  record : plateAt t k = some { p with state := .finished }
  others : OnlyPlate k s t
  leaves : s.trc.handoff = .empty → inputActive .exitPresent s = false → s.trc.incoming = none →
    (s.flt.lineState = .run ∨ s.flt.lineState = .safeHold) → driveFaulted .outfeed s = false →
    t.lfn.moving = true ∧ t.trc = { s.trc with incoming := some k } ∧ (inhibitActive s = false → driveIsOn .outfeed t = true)
  drives : ∀ c, c ≠ .outfeed → driveState c t = driveState c s
  frame : t.ptb.queue = s.ptb.queue ∧ t.rss = s.rss ∧ t.din = s.din ∧ t.exu = s.exu ∧ t.wou = s.wou ∧ t.dry = s.dry
    ∧ t.flt = s.flt ∧ t.lio.lamps = s.lio.lamps

theorem tryRelease_station (s : State) : (tryRelease s).lfn.tagRead = s.lfn.tagRead ∧ (tryRelease s).lfn.uva = s.lfn.uva
    ∧ (tryRelease s).lfn.uvc = s.lfn.uvc := by
  unfold tryRelease
  split
  · split
    · simp
    · exact ⟨rfl, rfl, rfl⟩
  · exact ⟨rfl, rfl, rfl⟩

theorem lfnFinished_finished (plate : s.lfn.plate = some k) (at_ : plateAt s k = some p) (finishing : p.state = .finishing) :
    FinishedAt k p s (lfnFinished k s) := by
  obtain ⟨v, vEq⟩ : ∃ v, v = modLfn (fun l => { l with state := .finished, moving := false })
    (setPlate k (some { p with state := .finished }) s) := ⟨_, rfl⟩
  have eq : lfnFinished k s = tryRelease v := by
    have moved : movePlate k .finishing .finished id s = setPlate k (some { p with state := .finished }) s := by
      simp [movePlate, at_, finishing]
    rw [lfnFinished, moved, vEq]
  have station : v.lfn = { s.lfn with state := .finished, moving := false } := by rw [vEq]; rfl
  have trc : v.trc = s.trc := by rw [vEq]; rfl
  have lines : v.lio = s.lio := by rw [vEq]; rfl
  have flt : v.flt = s.flt := by rw [vEq]; rfl
  have senses (fn : InputFunction) : inputActive fn v = inputActive fn s := by rw [vEq]; rfl
  have faults (c : DriveChannel) : driveFaulted c v = driveFaulted c s := driveFaulted_congr (congrArg (·.drives) lines) c
  obtain ⟨tag, uva, uvc⟩ := tryRelease_station v
  rw [station] at tag uva uvc
  rw [eq]
  refine ⟨⟨by simp [station], by simp [station], tag, uva, uvc⟩, ?_, fun j other => ?_, fun handoff exit incoming line outfeed => ?_,
    fun c other => ?_, by simp [vEq]⟩
  · refine (plateAt_congr (s := v) (by simp) k).trans ?_
    rw [vEq]
    exact plateAt_setPlate_self k _ _
  · refine (plateAt_congr (s := v) (by simp) j).trans ?_
    rw [vEq]
    exact (plateAt_setPlate ..).trans (if_neg other)
  · have may : MayLeave v := by
      refine ⟨by rw [station], by rw [station], exitTableFree_iff.2 ?_, by rw [flt]; exact line, (faults _).trans outfeed⟩
      rw [trc, senses]
      exact ⟨handoff, exit, incoming⟩
    have goes := tryRelease_leaves (s := v) (by rw [station]; exact plate) may
    rw [goes]
    refine ⟨by simp, by simp [trc], fun inhibit => ?_⟩
    rw [driveIsOn, driveState_driveOn, if_pos ⟨rfl, may.2.2.2.2, .inr ((senses .inhibit).trans inhibit)⟩]
  · rw [driveState_tryRelease other]
    exact driveState_congr (congrArg (·.drives) lines) c

theorem testFinished_finishes (plate : s.lfn.plate = some k) (running : s.lfn.state = .running)
    (uva : s.lfn.uva.status = .done) (uvc : s.lfn.uvc.status = .done) : testFinished s = lfnFinished k s := by
  simp only [testFinished, plate, running, uva, uvc, and_self, if_true]

theorem testFinished_waits (h : ¬ (s.lfn.state = .running ∧ s.lfn.uva.status = .done ∧ s.lfn.uvc.status = .done)) :
    testFinished s = s := by
  unfold testFinished
  split
  · exact if_neg h
  · rfl

/-! ### The tag check (R131) -/

theorem exec_finisherTag {n : Nat} (power : s.powered = true) (range : n ≤ 65534) :
    exec (.finisherTagArrival n) s = .next (takeFinisherTag n s) := by
  have ok : tagWellFormed n = true := decide_eq_true range
  exact (if_pos ok).trans (event_on power)

theorem tag_discarded {n : Nat} (power : s.powered = true) (range : n ≤ 65534) (other : s.lfn.state ≠ .check) :
    exec (.finisherTagArrival n) s = .next s := by
  refine (exec_finisherTag power range).trans (congrArg Host.Outcome.next ?_)
  unfold takeFinisherTag
  split
  next check _ => exact absurd check other
  next => rfl

section Check
variable {n : Nat} (check : s.lfn.state = .check) (plate : s.lfn.plate = some k) (at_ : plateAt s k = some p)
  (dried : p.state = .dryDone)
include check plate at_ dried

/-- The station and its record after a passed check, before the runs are asked for. -/
theorem takeFinisherTag_passes (read : n ≠ 0) (own : n = p.plateId) : takeFinisherTag n s = askFinisher { s with
    ptb := { s.ptb with plates := s.ptb.plates.set k.val (some { p with state := .finishing }) k.isLt }
    lfn := { s.lfn with state := .running, tagRead := some n } } := by
  have carried : plateIdAt s k = p.plateId := by simp [plateIdAt, at_]
  have here : plateAt (modLfn (fun l => { l with tagRead := some n }) s) k = some p := at_
  have moved : movePlate k .dryDone .finishing id (modLfn (fun l => { l with tagRead := some n }) s)
      = setPlate k (some { p with state := .finishing }) (modLfn (fun l => { l with tagRead := some n }) s) := by
    simp [movePlate, here, dried]
  have taken : takeFinisherTag n s = askFinisher (modLfn (fun l => { l with state := .running })
      (movePlate k .dryDone .finishing id (modLfn (fun l => { l with tagRead := some n }) s))) := by
    unfold takeFinisherTag
    rw [check, plate]
    exact if_pos ⟨read, own.trans carried.symm⟩
  rw [taken, moved]
  rfl

/-- In a line that is not RUN the runs wait (R132). -/
theorem tag_waits (power : s.powered = true) (range : n ≤ 65534) (read : n ≠ 0) (own : n = p.plateId)
    (line : s.flt.lineState ≠ .run) (uva : s.lfn.uva = ⟨.waiting, false⟩) :
    exec (.finisherTagArrival n) s = .next { s with
      ptb := { s.ptb with plates := s.ptb.plates.set k.val (some { p with state := .finishing }) k.isLt }
      lfn := { s.lfn with state := .running, tagRead := some n } } := by
  refine (exec_finisherTag power range).trans (congrArg Host.Outcome.next ?_)
  rw [takeFinisherTag_passes check plate at_ dried read own]
  obtain ⟨v, vEq⟩ : ∃ v : State, v = { s with
    ptb := { s.ptb with plates := s.ptb.plates.set k.val (some { p with state := .finishing }) k.isLt }
    lfn := { s.lfn with state := .running, tagRead := some n } } := ⟨_, rfl⟩
  have idle (c : FinisherLamp) : askFinisherChannel c v = v := by
    have refused : lfnMayWork v = false := by simp [lfnMayWork, vEq, line]
    unfold askFinisherChannel
    rw [refused]
    split
    · rfl
    · exact if_neg (by simp)
  have waits : testFinished v = v := testFinished_waits (by simp [vEq, uva])
  rw [← vEq, askFinisher, idle, idle, waits]

/-- Another id, or a no-read, holds the plate (R131, R9). -/
theorem tag_mismatch (power : s.powered = true) (range : n ≤ 65534) (other : n = 0 ∨ n ≠ p.plateId) :
    ∃ t, exec (.finisherTagArrival n) s = .next t
      ∧ t.ptb.plates = s.ptb.plates.set k.val
          (some (appendNotice .orderMismatch { p with state := .held, held := some (.lfn, .orderMismatch) })) k.isLt
      ∧ t.lfn = { s.lfn with state := .held, tagRead := some n }
      ∧ t.flt.flags = s.flt.flags ||| flagBit .orderMismatch ∧ attnHas t.lnk.attnPending .plateHeld = true
      ∧ t.ptb.queue = s.ptb.queue ∧ t.rss = s.rss ∧ t.din = s.din ∧ t.exu = s.exu ∧ t.wou = s.wou ∧ t.dry = s.dry
      ∧ t.trc = s.trc ∧ t.lio.drives = s.lio.drives ∧ t.lio.lamps = s.lio.lamps ∧ t.flt.lineState = s.flt.lineState := by
  obtain ⟨v, vEq⟩ : ∃ v, v = setFlag .orderMismatch (modLfn (fun l => { l with tagRead := some n }) s) := ⟨_, rfl⟩
  have carried : plateIdAt s k = p.plateId := by simp [plateIdAt, at_]
  have taken : takeFinisherTag n s = lfnEnterHeld k .orderMismatch v := by
    unfold takeFinisherTag
    rw [check, plate, vEq]
    refine if_neg fun both => ?_
    rcases other with zero | differs
    · exact both.1 zero
    · exact differs (both.2.trans carried)
  have here : plateAt v k = some p := (plateAt_congr (by simp [vEq]) k).trans at_
  obtain ⟨w, wEq⟩ : ∃ w, w = raiseAttn .plateHeld (setPlate k (some (appendNotice HoldReason.orderMismatch.notice { p with
    state := .held
    held := some (.lfn, .orderMismatch) })) v) := ⟨_, rfl⟩
  have held : holdPlate k .lfn .orderMismatch v = w := (holdPlate_holds here (by rw [dried]; rfl) .lfn _).trans wEq.symm
  have plates : w.ptb.plates = s.ptb.plates.set k.val
      (some (appendNotice .orderMismatch { p with state := .held, held := some (.lfn, .orderMismatch) })) k.isLt := by
    have table : v.ptb = s.ptb := by simp [vEq]
    rw [wEq, (raiseAttn_frame .plateHeld _).2.2.1, setPlate_plates, table]
    rfl
  have flags : v.flt.flags = s.flt.flags ||| flagBit .orderMismatch := by
    rw [vEq, setFlag_flags]
    rfl
  have report : attnHas w.lnk.attnPending .plateHeld = true := by
    rw [wEq, raiseAttn_pending, attnHas_or, attnHas_attnBit]
    simp
  refine ⟨_, (exec_finisherTag power range).trans (congrArg Host.Outcome.next taken), ?_⟩
  rw [lfnEnterHeld, held]
  exact ⟨plates, by simp [wEq, vEq, modLfn], by simpa [wEq] using flags, report, by simp [wEq, vEq], by simp [wEq, vEq],
    by simp [wEq, vEq], by simp [wEq, vEq], by simp [wEq, vEq], by simp [wEq, vEq], by simp [wEq, vEq], by simp [wEq, vEq],
    by simp [wEq, vEq], by simp [wEq, vEq]⟩

end Check

/-! ### The two runs (R132, R46) -/

theorem finisherRun_setFinisherRun (c d : FinisherLamp) (r : FinisherRun) (s : State) :
    finisherRun d (setFinisherRun c r s).lfn = if d = c then r else finisherRun d s.lfn := by
  cases c <;> cases d <;> rfl

@[simp] theorem setFinisherRun_lfn (c : FinisherLamp) (r : FinisherRun) (s : State) :
    (setFinisherRun c r s).lfn.state = s.lfn.state ∧ (setFinisherRun c r s).lfn.plate = s.lfn.plate
    ∧ (setFinisherRun c r s).lfn.tagRead = s.lfn.tagRead ∧ (setFinisherRun c r s).lfn.incoming = s.lfn.incoming
    ∧ (setFinisherRun c r s).lfn.moving = s.lfn.moving := by
  cases c <;> exact ⟨rfl, rfl, rfl, rfl, rfl⟩

theorem appendNotice_working (n : Notice) (r : PlateRecord) : (appendNotice n r).working = r.working
    ∧ (appendNotice n r).held = r.held := by
  unfold appendNotice
  (repeat' split) <;> exact ⟨rfl, rfl⟩

/-- What the station's request for a run of one lamp leaves, the lamp's channel free and nothing in the way. -/
structure RunAsked (fc : FinisherLamp) (k : Slot) (p : PlateRecord) (s t : State) : Prop where
  skipped : (p.working.lamp fc.channel).target = 0 → finisherRun fc t.lfn = ⟨.done, false⟩
    ∧ channelAt t fc.channel = .idle ∧ lampLevel fc.channel t = lampLevel fc.channel s
  started : 0 < (p.working.lamp fc.channel).target → finisherRun fc t.lfn = ⟨.active, false⟩
    ∧ lampLevel fc.channel t = some (p.working.lamp fc.channel).level
    ∧ ∃ r, channelAt t fc.channel = .integrating r ∧ r.slot = k
      ∧ r.target = (p.working.lamp fc.channel).target * 1000 ∧ r.segment = 1 ∧ r.accumulator = 0
  other : ∀ gc, gc ≠ fc → finisherRun gc t.lfn = finisherRun gc s.lfn ∧ channelAt t gc.channel = channelAt s gc.channel
    ∧ lampLevel gc.channel t = lampLevel gc.channel s
  record : ∃ q, plateAt t k = some q ∧ q.working = p.working ∧ q.state = p.state
  others : OnlyPlate k s t
  station : t.lfn.state = s.lfn.state ∧ t.lfn.plate = s.lfn.plate ∧ t.lfn.tagRead = s.lfn.tagRead
  frame : t.ptb.queue = s.ptb.queue ∧ t.rss = s.rss ∧ t.din.lampOn = s.din.lampOn ∧ t.exu = s.exu ∧ t.wou = s.wou
    ∧ t.dry = s.dry ∧ t.trc = s.trc ∧ t.flt = s.flt ∧ t.lio.inputs = s.lio.inputs ∧ t.lio.drives = s.lio.drives

theorem FinisherLamp.channel_injective {a b : FinisherLamp} (other : a ≠ b) : a.channel ≠ b.channel := by
  cases a <;> cases b <;> simp_all [FinisherLamp.channel]

/-- The part of `RunAsked` that no answer tells apart: the other lamp's run and channel, and the rest of the state. -/
theorem runAsked_of {fc : FinisherLamp} {w : State} {run : FinisherRun} (rests : ∀ c, c ≠ fc.channel → Rests c s w)
    (record : ∃ q, plateAt w k = some q ∧ q.working = p.working ∧ q.state = p.state) (others : OnlyPlate k s w)
    (lfn : w.lfn = s.lfn)
    (frame : w.ptb.queue = s.ptb.queue ∧ w.rss = s.rss ∧ w.din.lampOn = s.din.lampOn ∧ w.exu = s.exu ∧ w.wou = s.wou
      ∧ w.dry = s.dry ∧ w.trc = s.trc ∧ w.flt = s.flt ∧ w.lio.inputs = s.lio.inputs ∧ w.lio.drives = s.lio.drives)
    (skipped : (p.working.lamp fc.channel).target = 0 → run = ⟨.done, false⟩ ∧ channelAt w fc.channel = .idle
      ∧ lampLevel fc.channel w = lampLevel fc.channel s)
    (started : 0 < (p.working.lamp fc.channel).target → run = ⟨.active, false⟩
      ∧ lampLevel fc.channel w = some (p.working.lamp fc.channel).level
      ∧ ∃ r, channelAt w fc.channel = .integrating r ∧ r.slot = k
        ∧ r.target = (p.working.lamp fc.channel).target * 1000 ∧ r.segment = 1 ∧ r.accumulator = 0) :
    RunAsked fc k p s (setFinisherRun fc run w) where
  skipped zero := by
    obtain ⟨done, idle, dark⟩ := skipped zero
    rw [finisherRun_setFinisherRun, if_pos rfl]
    exact ⟨done, idle, dark⟩
  started some_ := by
    obtain ⟨active, lit, channel⟩ := started some_
    rw [finisherRun_setFinisherRun, if_pos rfl]
    exact ⟨active, lit, channel⟩
  other gc other := by
    rw [finisherRun_setFinisherRun, if_neg other, lfn]
    have rest := rests gc.channel (FinisherLamp.channel_injective other)
    exact ⟨rfl, rest.channel, rest.lamp⟩
  record := record
  others := others
  station := by simp [lfn]
  frame := frame

theorem askFinisherChannel_asked {fc : FinisherLamp} (may : lfnMayWork s = true) (plate : s.lfn.plate = some k)
    (at_ : plateAt s k = some p) (waiting : finisherRun fc s.lfn = ⟨.waiting, false⟩)
    (free : channelAt s fc.channel = .idle ∨ ∃ r how, channelAt s fc.channel = .ended r how)
    (allowed : lampRefused fc.channel s = false) : RunAsked fc k p s (askFinisherChannel fc s) := by
  have fresh : askFresh fc.channel k s = askStart fc.channel k s := by
    rcases free with idle | ⟨r, how, ended⟩
    · simp only [askFresh, idle]
    · simp only [askFresh, ended]
  have asks {x : State × WorkAnswer} (started : askStart fc.channel k s = x) (goes : x.2 ≠ .waits) :
      askFinisherChannel fc s = lfnAnswer fc k x := by
    unfold askFinisherChannel
    rw [plate]
    dsimp only
    rw [if_pos may, waiting]
    dsimp only
    rw [fresh, started]
    obtain ⟨v, a⟩ := x
    cases a with
    | waits => exact absurd rfl goes
    | started | skipped | notTaken => rfl
  rcases Nat.eq_zero_or_pos (p.working.lamp fc.channel).target with zero | some_
  · have start := startRun_skipped at_ free zero
    have asked := asks (x := (setChannel fc.channel .idle (modResult k fc.channel skippedResult s), .skipped))
      (by simp only [askStart, start]) (by simp)
    rw [asked]
    refine runAsked_of (fun c other => (rests_modResult other k skippedResult).trans (rests_setChannel other _)) ?_
      ((OnlyPlate.modResult _ _ s).trans (.of_plates rfl)) (by simp) (by simp) (fun _ => ?_) (fun some_ => by omega)
    · refine ⟨{ p with results := p.results.set fc.channel (skippedResult (p.results.get fc.channel)) }, ?_, rfl, rfl⟩
      refine (plateAt_congr (s := modResult k fc.channel skippedResult s) rfl k).trans ?_
      rw [modResult, plateAt_modPlate, if_pos rfl, at_]
      rfl
    · exact ⟨rfl, channelAt_setChannel_self _ _ _, lampLevel_congr (by simp) _⟩
  · have start := startRun_target at_ free some_
    obtain ⟨ok, channel, level⟩ := startSegment_allowed (r := openRun k p fc.channel (lampCal s fc.channel).eNom) allowed
    rw [ok, if_pos rfl] at start
    have asked := asks (x := ((startSegment fc.channel (openRun k p fc.channel (lampCal s fc.channel).eNom) s).1, .started))
      (by simp only [askStart, start]) (by simp)
    rw [asked]
    have kept := startSegment_record (ch := fc.channel) (F := fun q => (q.working, q.state)) (fun _ _ _ => rfl)
      (fun n q => by rw [(appendNotice_kept n q).1, (appendNotice_working n q).1])
      (openRun k p fc.channel (lampCal s fc.channel).eNom) s k
    refine runAsked_of (fun c other => rests_startSegment other _) ?_ (onlyPlate_startSegment fc.channel
      (r := openRun k p fc.channel (lampCal s fc.channel).eNom) rfl s) (by simp) ?_
      (fun zero => by omega) (fun _ => ⟨rfl, level, _, channel, rfl, rfl, rfl, rfl⟩)
    · rw [at_] at kept
      obtain ⟨q, found, same⟩ := Option.map_eq_some_iff.1 kept
      obtain ⟨working, state⟩ := Prod.mk.inj same
      exact ⟨q, found, working, state⟩
    · simp [(goesOn_startSegment fc.channel (openRun k p fc.channel (lampCal s fc.channel).eNom) s).lampOn]

/-- What both requests leave of a lamp, by its target. -/
def LampAsked (fc : FinisherLamp) (k : Slot) (p : PlateRecord) (s t : State) : Prop :=
  ((p.working.lamp fc.channel).target = 0 → finisherRun fc t.lfn = ⟨.done, false⟩ ∧ channelAt t fc.channel = .idle
    ∧ lampLevel fc.channel t = lampLevel fc.channel s)
  ∧ (0 < (p.working.lamp fc.channel).target → finisherRun fc t.lfn = ⟨.active, false⟩
    ∧ lampLevel fc.channel t = some (p.working.lamp fc.channel).level
    ∧ ∃ r, channelAt t fc.channel = .integrating r ∧ r.slot = k
      ∧ r.target = (p.working.lamp fc.channel).target * 1000 ∧ r.segment = 1 ∧ r.accumulator = 0)

theorem LampAsked.congr {fc : FinisherLamp} (h : LampAsked fc k p s t) (run : finisherRun fc u.lfn = finisherRun fc t.lfn)
    (channel : channelAt u fc.channel = channelAt t fc.channel) (lamp : lampLevel fc.channel u = lampLevel fc.channel t) :
    LampAsked fc k p s u := by
  unfold LampAsked
  rw [run, channel, lamp]
  exact h

theorem RunAsked.lamp {fc : FinisherLamp} (h : RunAsked fc k p s t) : LampAsked fc k p s t := ⟨h.skipped, h.started⟩

/-- Both requests, one after the other, before the test for a finished plate. -/
structure BothAsked (k : Slot) (p : PlateRecord) (s t : State) : Prop where
  lamps : ∀ fc, LampAsked fc k p s t
  record : ∃ q, plateAt t k = some q ∧ q.working = p.working ∧ q.state = p.state
  others : OnlyPlate k s t
  station : t.lfn.state = s.lfn.state ∧ t.lfn.plate = s.lfn.plate ∧ t.lfn.tagRead = s.lfn.tagRead
  frame : t.ptb.queue = s.ptb.queue ∧ t.rss = s.rss ∧ t.din.lampOn = s.din.lampOn ∧ t.exu = s.exu ∧ t.wou = s.wou
    ∧ t.dry = s.dry ∧ t.trc = s.trc ∧ t.flt = s.flt ∧ t.lio.inputs = s.lio.inputs ∧ t.lio.drives = s.lio.drives

theorem lfnMayWork_iff : lfnMayWork s = true ↔ s.lfn.state = .running ∧ s.flt.lineState = .run
    ∧ isSet (.lampFail .uva) s = false ∧ isSet (.lampFail .uvc) s = false := by
  simp [lfnMayWork, lfnLampFailed, and_assoc]

theorem lampRefused_finisher (fc : FinisherLamp) : lampRefused fc.channel s = inhibitActive s := by
  cases fc <;> simp [lampRefused, FinisherLamp.channel]

theorem bothAsked (may : lfnMayWork s = true) (plate : s.lfn.plate = some k) (at_ : plateAt s k = some p)
    (uva : s.lfn.uva = ⟨.waiting, false⟩) (uvc : s.lfn.uvc = ⟨.waiting, false⟩) (inhibit : inhibitActive s = false)
    (free : ∀ fc : FinisherLamp, channelAt s fc.channel = .idle ∨ ∃ r how, channelAt s fc.channel = .ended r how) :
    BothAsked k p s (askFinisherChannel .uvc (askFinisherChannel .uva s)) := by
  have first := askFinisherChannel_asked (fc := .uva) may plate at_ uva (free .uva) ((lampRefused_finisher _).trans inhibit)
  obtain ⟨t, tEq⟩ : ∃ t, t = askFinisherChannel .uva s := ⟨_, rfl⟩
  rw [← tEq] at first ⊢
  obtain ⟨running, plateT, tagT⟩ := first.station
  obtain ⟨queue, rss, lampOn, exu, wou, dry, trc, flt, inputs, drives⟩ := first.frame
  obtain ⟨q, found, working, state⟩ := first.record
  obtain ⟨uvcKept, channelKept, lampKept⟩ := first.other .uvc (by simp)
  have mayT : lfnMayWork t = true := by
    obtain ⟨runs, line, uvaWorks, uvcWorks⟩ := lfnMayWork_iff.1 may
    have flags (f : Flag) : isSet f t = isSet f s := isSet_congr (congrArg (·.flags) flt) f
    exact lfnMayWork_iff.2 ⟨running.trans runs, (congrArg (·.lineState) flt).trans line, (flags _).trans uvaWorks,
      (flags _).trans uvcWorks⟩
  have quiet : inhibitActive t = false :=
    (inhibitActive_congr inputs (congrArg (·.working.cfg) rss)).trans inhibit
  have second := askFinisherChannel_asked (fc := .uvc) mayT (plateT.trans plate) found (uvcKept.trans uvc)
    (by rw [channelKept]; exact free .uvc) ((lampRefused_finisher _).trans quiet)
  obtain ⟨u, uEq⟩ : ∃ u, u = askFinisherChannel .uvc t := ⟨_, rfl⟩
  rw [← uEq] at second ⊢
  obtain ⟨running', plateU, tagU⟩ := second.station
  obtain ⟨queue', rss', lampOn', exu', wou', dry', trc', flt', inputs', drives'⟩ := second.frame
  obtain ⟨q', found', working', state'⟩ := second.record
  refine ⟨fun fc => ?_, ⟨q', found', working'.trans working, state'.trans state⟩, first.others.trans second.others,
    ⟨running'.trans running, plateU.trans plateT, tagU.trans tagT⟩,
    ⟨queue'.trans queue, rss'.trans rss, lampOn'.trans lampOn, exu'.trans exu, wou'.trans wou, dry'.trans dry,
      trc'.trans trc, flt'.trans flt, inputs'.trans inputs, drives'.trans drives⟩⟩
  cases fc with
  | uva =>
    obtain ⟨run, channel, lamp⟩ := second.other .uva (by simp)
    exact first.lamp.congr run channel lamp
  | uvc =>
    have asked := second.lamp
    unfold LampAsked at asked
    rw [working, lampKept] at asked
    exact asked

/-- R132, R46, R137: a passed check in RUN, with nothing in the way, starts both runs. -/
theorem tag_starts (power : s.powered = true) (check : s.lfn.state = .check) (plate : s.lfn.plate = some k)
    (at_ : plateAt s k = some p) (dried : p.state = .dryDone) (low : 1 ≤ p.plateId) (high : p.plateId ≤ 65534)
    (line : s.flt.lineState = .run) (uva : s.lfn.uva = ⟨.waiting, false⟩) (uvc : s.lfn.uvc = ⟨.waiting, false⟩)
    (uvaWorks : isSet (.lampFail .uva) s = false) (uvcWorks : isSet (.lampFail .uvc) s = false)
    (inhibit : inhibitActive s = false)
    (free : ∀ fc : FinisherLamp, channelAt s fc.channel = .idle ∨ ∃ r how, channelAt s fc.channel = .ended r how) :
    let finished := p.working.uva.target = 0 ∧ p.working.uvc.target = 0
    ∃ t, exec (.finisherTagArrival p.plateId) s = .next t ∧ t.lfn.tagRead = some p.plateId ∧ t.lfn.plate = some k
      ∧ (∀ fc : FinisherLamp,
          ((p.working.lamp fc.channel).target = 0 → finisherRun fc t.lfn = ⟨.done, false⟩ ∧ channelAt t fc.channel = .idle
            ∧ lampLevel fc.channel t = lampLevel fc.channel s)
          ∧ (0 < (p.working.lamp fc.channel).target → finisherRun fc t.lfn = ⟨.active, false⟩
            ∧ lampLevel fc.channel t = some (p.working.lamp fc.channel).level
            ∧ ∃ r, channelAt t fc.channel = .integrating r ∧ r.slot = k
              ∧ r.target = (p.working.lamp fc.channel).target * 1000 ∧ r.segment = 1 ∧ r.accumulator = 0))
      ∧ (finished → t.lfn.state = .finished ∧ plateState t k = some .finished
        ∧ (s.trc.handoff = .empty → inputActive .exitPresent s = false → s.trc.incoming = none →
            driveFaulted .outfeed s = false →
            t.lfn.moving = true ∧ t.trc = { s.trc with incoming := some k } ∧ driveIsOn .outfeed t = true))
      ∧ (¬ finished → t.lfn.state = .running ∧ plateState t k = some .finishing ∧ t.trc = s.trc
        ∧ t.lio.drives = s.lio.drives)
      ∧ (∀ c, c ≠ .outfeed → driveState c t = driveState c s) ∧ (∀ j, j ≠ k → plateAt t j = plateAt s j)
      ∧ t.ptb.queue = s.ptb.queue ∧ t.rss = s.rss ∧ t.din.lampOn = s.din.lampOn ∧ t.exu = s.exu ∧ t.wou = s.wou
      ∧ t.dry = s.dry ∧ t.flt = s.flt := by
  intro finished
  obtain ⟨v, vEq⟩ : ∃ v : State, v = { s with
    ptb := { s.ptb with plates := s.ptb.plates.set k.val (some { p with state := .finishing }) k.isLt }
    lfn := { s.lfn with state := .running, tagRead := some p.plateId } } := ⟨_, rfl⟩
  have passes : takeFinisherTag p.plateId s = askFinisher v := by
    rw [vEq]
    exact takeFinisherTag_passes check plate at_ dried (by omega) rfl
  have may : lfnMayWork v = true := by
    have flags (f : Flag) : isSet f v = isSet f s := by rw [vEq]; rfl
    exact lfnMayWork_iff.2 ⟨by rw [vEq], by rw [vEq]; exact line, (flags _).trans uvaWorks, (flags _).trans uvcWorks⟩
  have both : BothAsked k { p with state := .finishing } v (askFinisherChannel .uvc (askFinisherChannel .uva v)) := by
    refine bothAsked may (by rw [vEq]; exact plate) ?_ (by rw [vEq]; exact uva) (by rw [vEq]; exact uvc)
      (by rw [vEq]; exact inhibit) (by rw [vEq]; exact free)
    rw [vEq]
    exact plateAt_setPlate_self k _ s
  obtain ⟨w, wEq⟩ : ∃ w, w = askFinisherChannel .uvc (askFinisherChannel .uva v) := ⟨_, rfl⟩
  rw [← wEq] at both
  have tested : takeFinisherTag p.plateId s = testFinished w := by rw [passes, askFinisher, wEq]
  obtain ⟨running, plateW, tagW⟩ := both.station
  obtain ⟨queue, rss, lampOn, exu, wou, dry, trc, flt, inputs, drives⟩ := both.frame
  obtain ⟨q, found, -, state⟩ := both.record
  have lamps (fc : FinisherLamp) : LampAsked fc k p s w := by
    have asked := both.lamps fc
    rw [vEq] at asked
    exact asked
  have apart (j : Slot) (other : j ≠ k) : plateAt w j = plateAt s j := by
    rw [both.others j other, vEq]
    exact (plateAt_setPlate ..).trans (if_neg other)
  rw [vEq] at running plateW tagW queue rss lampOn exu wou dry trc flt inputs drives
  have statusOf (fc : FinisherLamp) : (finisherRun fc w.lfn).status = .done ↔ (p.working.lamp fc.channel).target = 0 := by
    obtain ⟨skipped, started⟩ := lamps fc
    constructor
    · intro done
      by_contra some_
      rw [(started (Nat.pos_of_ne_zero some_)).1] at done
      cases done
    · exact fun zero => by rw [(skipped zero).1]
  have finishedIff : finished ↔ w.lfn.uva.status = .done ∧ w.lfn.uvc.status = .done :=
    (and_congr (statusOf .uva) (statusOf .uvc)).symm
  refine ⟨_, (exec_finisherTag power high).trans (congrArg Host.Outcome.next tested), ?_⟩
  by_cases isFinished : finished
  · obtain ⟨uvaDone, uvcDone⟩ := finishedIff.1 isFinished
    have at_w : FinishedAt k q w (lfnFinished k w) := lfnFinished_finished (plateW.trans plate) found state
    rw [testFinished_finishes (plateW.trans plate) running uvaDone uvcDone]
    obtain ⟨u, uEq⟩ : ∃ u, u = lfnFinished k w := ⟨_, rfl⟩
    rw [← uEq] at at_w ⊢
    obtain ⟨stateU, plateU, tagU, uvaU, uvcU⟩ := at_w.station
    obtain ⟨queue', rss', din', exu', wou', dry', flt', lampsU⟩ := at_w.frame
    refine ⟨tagU.trans tagW, plateU.trans (plateW.trans plate), fun fc => ?_, fun _ => ⟨stateU, ?_, fun handoff exit incoming outfeed => ?_⟩,
      fun not => absurd isFinished not, fun c other => ?_, fun j other => (at_w.others j other).trans (apart j other),
      queue'.trans queue, rss'.trans rss, (congrArg (·.lampOn) din').trans lampOn, exu'.trans exu, wou'.trans wou,
      dry'.trans dry, flt'.trans flt⟩
    · refine (lamps fc).congr ?_ (channelAt_congr (congrArg (·.channels) din') _) (lampLevel_congr lampsU _)
      cases fc with
      | uva => exact uvaU
      | uvc => exact uvcU
    · rw [plateState, at_w.record]
      rfl
    · have senses (fn : InputFunction) : inputActive fn w = inputActive fn s :=
        inputActive_congr inputs (congrArg (·.working.cfg) rss) fn
      obtain ⟨moving, sent, runs⟩ := at_w.leaves (by rw [trc]; exact handoff) ((senses _).trans exit)
        (by rw [trc]; exact incoming) (.inl ((congrArg (·.lineState) flt).trans line))
        ((driveFaulted_congr drives _).trans outfeed)
      exact ⟨moving, sent.trans (by rw [trc]), runs ((senses .inhibit).trans inhibit)⟩
    · exact (at_w.drives c other).trans (driveState_congr drives c)
  · have waits : testFinished w = w := testFinished_waits fun all => isFinished (finishedIff.2 all.2)
    rw [waits]
    refine ⟨tagW, plateW.trans plate, lamps, fun yes => absurd yes isFinished, fun _ => ⟨running, ?_, trc, drives⟩,
      fun c _ => driveState_congr drives c, apart, queue, rss, lampOn, exu, wou, dry, flt⟩
    rw [plateState, found]
    exact congrArg some state

/-! ### The endings of the runs (R133) -/

section Ending
variable {fc : FinisherLamp} {r : RunRecord} {raw : Nat} {how : RunEnding}

theorem retouched_endRun (ch : LampChannel) (how : RunEnding) (s : State) : Retouched s (endRun ch how s) := by
  unfold endRun
  split
  · dsimp only
    split
    · exact ((retouched_endSegment _ _ s).trans (retouched_modResult _ _ _ _)).trans (.of_eq rfl)
    · exact retouched_endSegment _ _ s
  · exact .refl s

theorem retouched_takeSample {ch : LampChannel} (run : channelAt s ch = .integrating r)
    (ends : sampleEnding (irradiance (lampCal s ch) raw) (addSample (irradiance (lampCal s ch) raw) r) = some how) :
    ∃ w, takeSample ch raw s = (w, some how) ∧ Retouched s w := by
  obtain ⟨r1, -, taken⟩ := takeSample_ends run ends
  have stored : Retouched s (storeSample ch r1 s) :=
    (Retouched.of_eq (t := setChannel ch (.integrating r1) s) rfl).trans (retouched_modResult _ _ _ _)
  refine ⟨_, taken, ?_⟩
  split
  · exact (stored.trans (.of_eq (by simp))).trans (retouched_endRun ch how _)
  · exact stored.trans (retouched_endRun ch how _)

/-- The station before its test for a finished plate: the lamp's run DONE, the record as it was but for its results and
notices. -/
structure RunDone (fc : FinisherLamp) (k : Slot) (p q : PlateRecord) (s t : State) : Prop where
  done : (finisherRun fc t.lfn).status = .done
  other : ∀ gc, gc ≠ fc → finisherRun gc t.lfn = finisherRun gc s.lfn
  station : t.lfn.state = s.lfn.state ∧ t.lfn.plate = some k
  record : plateAt t k = some q
  state : q.state = p.state
  frame : t.trc = s.trc ∧ t.lio.drives = s.lio.drives ∧ t.lio.inputs = s.lio.inputs ∧ t.ptb.queue = s.ptb.queue
    ∧ t.rss.working = s.rss.working ∧ t.exu = s.exu ∧ t.wou = s.wou ∧ t.dry = s.dry ∧ t.flt.lineState = s.flt.lineState

/-- The test for a finished plate, after a run that is DONE: finished exactly when both are, in RUNNING. -/
structure RunTested (fc : FinisherLamp) (k : Slot) (p q : PlateRecord) (s t : State) : Prop where
  done : (finisherRun fc t.lfn).status = .done
  other : ∀ gc, gc ≠ fc → finisherRun gc t.lfn = finisherRun gc s.lfn
  record : ∃ st, plateAt t k = some { q with state := st }
  waits : ¬ (s.lfn.state = .running ∧ ∀ gc, gc ≠ fc → (finisherRun gc s.lfn).status = .done) →
    t.lfn.state = s.lfn.state ∧ plateState t k = some p.state ∧ t.trc = s.trc ∧ t.lio.drives = s.lio.drives
  finishes : (∀ gc, gc ≠ fc → (finisherRun gc s.lfn).status = .done) → s.lfn.state = .running →
    t.lfn.state = .finished ∧ plateState t k = some .finished
      ∧ (s.trc.handoff = .empty → inputActive .exitPresent s = false → s.trc.incoming = none →
          s.flt.lineState = .run ∨ s.flt.lineState = .safeHold → driveFaulted .outfeed s = false →
          t.lfn.moving = true ∧ t.trc = { s.trc with incoming := some k }
          ∧ (inhibitActive s = false → driveIsOn .outfeed t = true))
  frame : t.ptb.queue = s.ptb.queue ∧ t.rss.working = s.rss.working ∧ t.exu = s.exu ∧ t.wou = s.wou ∧ t.dry = s.dry
    ∧ t.flt.lineState = s.flt.lineState

theorem runDone_tested {q : PlateRecord} (h : RunDone fc k p q s t)
    (running : s.lfn.state = .running → p.state = .finishing) : RunTested fc k p q s (testFinished t) := by
  obtain ⟨state, plate⟩ := h.station
  obtain ⟨trc, drives, inputs, queue, working, exu, wou, dry, line⟩ := h.frame
  have bothIff : (t.lfn.uva.status = .done ∧ t.lfn.uvc.status = .done)
      ↔ ∀ gc, gc ≠ fc → (finisherRun gc s.lfn).status = .done := by
    have done := h.done
    have other := h.other
    cases fc with
    | uva =>
      have kept : finisherRun .uvc t.lfn = finisherRun .uvc s.lfn := other .uvc (by simp)
      refine ⟨fun both gc ne => ?_, fun all => ⟨done, ?_⟩⟩
      · cases gc with
        | uva => exact absurd rfl ne
        | uvc => exact kept ▸ both.2
      · exact (congrArg (·.status) kept).trans (all .uvc (by simp))
    | uvc =>
      have kept : finisherRun .uva t.lfn = finisherRun .uva s.lfn := other .uva (by simp)
      refine ⟨fun both gc ne => ?_, fun all => ⟨?_, done⟩⟩
      · cases gc with
        | uva => exact kept ▸ both.1
        | uvc => exact absurd rfl ne
      · exact (congrArg (·.status) kept).trans (all .uva (by simp))
  by_cases finishes : s.lfn.state = .running ∧ ∀ gc, gc ≠ fc → (finisherRun gc s.lfn).status = .done
  · obtain ⟨runs, all⟩ := finishes
    obtain ⟨uva, uvc⟩ := bothIff.2 all
    have at_t : FinishedAt k q t (lfnFinished k t) :=
      lfnFinished_finished plate h.record (h.state.trans (running runs))
    rw [testFinished_finishes plate (state.trans runs) uva uvc]
    obtain ⟨stateU, -, -, uvaU, uvcU⟩ := at_t.station
    obtain ⟨queue', rss', -, exu', wou', dry', flt', -⟩ := at_t.frame
    have runKept (gc : FinisherLamp) : finisherRun gc (lfnFinished k t).lfn = finisherRun gc t.lfn := by
      cases gc with
      | uva => exact uvaU
      | uvc => exact uvcU
    refine ⟨(congrArg (·.status) (runKept fc)).trans h.done, fun gc ne => (runKept gc).trans (h.other gc ne),
      ⟨_, at_t.record⟩, fun not => absurd ⟨runs, all⟩ not, fun _ _ => ⟨stateU, ?_, fun handoff exit incoming lines outfeed => ?_⟩,
      queue'.trans queue, (congrArg (·.working) rss').trans working, exu'.trans exu, wou'.trans wou, dry'.trans dry,
      (congrArg (·.lineState) flt').trans line⟩
    · rw [plateState, at_t.record]
      rfl
    · have senses (fn : InputFunction) : inputActive fn t = inputActive fn s :=
        inputActive_congr inputs (congrArg (·.cfg) working) fn
      obtain ⟨moving, sent, on⟩ := at_t.leaves (by rw [trc]; exact handoff) ((senses _).trans exit)
        (by rw [trc]; exact incoming) (by rw [line]; exact lines) ((driveFaulted_congr drives _).trans outfeed)
      exact ⟨moving, sent.trans (by rw [trc]), fun inhibit => on ((senses .inhibit).trans inhibit)⟩
  · have waits : testFinished t = t := testFinished_waits fun all =>
      finishes ⟨state.symm.trans all.1, bothIff.1 all.2⟩
    rw [waits]
    refine ⟨h.done, h.other, ⟨q.state, h.record⟩, fun _ => ⟨state, ?_, trc, drives⟩, fun all runs => absurd ⟨runs, all⟩ finishes,
      queue, working, exu, wou, dry, line⟩
    rw [plateState, h.record]
    exact congrArg some h.state

/-- What a sample that ends a finisher's run leaves before the station hears of it. -/
structure SampleTaken (s w : State) : Prop where
  retouched : Retouched s w
  frame : w.lfn = s.lfn ∧ w.trc = s.trc ∧ w.lio.drives = s.lio.drives ∧ w.lio.inputs = s.lio.inputs
    ∧ w.ptb.queue = s.ptb.queue ∧ w.rss.working = s.rss.working ∧ w.exu = s.exu ∧ w.wou = s.wou ∧ w.dry = s.dry
    ∧ w.flt.lineState = s.flt.lineState

theorem exec_sample_ends (power : s.powered = true) (run : channelAt s fc.channel = .integrating r) {raw : BitVec 12}
    (ends : sampleEnding (irradiance (lampCal s fc.channel) raw.toNat)
      (addSample (irradiance (lampCal s fc.channel) raw.toNat) r) = some how) :
    ∃ w, SampleTaken s w ∧ exec (.sampleArrival fc.channel raw) s = .next (lfnRunEnding fc.channel how w) := by
  obtain ⟨w, taken, retouched⟩ := retouched_takeSample run ends
  have frame := takeSample_frame fc.channel raw.toNat s
  rw [taken] at frame
  obtain ⟨-, -, queue, -, working, -, -, -, -, exu, wou, dry, lfn, trc, inputs, drives, line, -⟩ := frame
  refine ⟨w, ⟨retouched, lfn, trc, drives, inputs, queue, working, exu, wou, dry, line⟩,
    (event_on power).trans (congrArg Host.Outcome.next ?_)⟩
  unfold sample
  rw [taken]
  cases fc <;> rfl

/-- A run that ends COMPLETE or in UNDERDOSE is DONE, its record with the notice of an underdose. -/
theorem lfnRunEnding_done {w : State} (taken : SampleTaken s w) (plate : s.lfn.plate = some k) (at_ : plateAt s k = some p)
    (works : s.lfn.state = .running ∨ s.lfn.state = .held) (notFailed : how ≠ .lampFail) : ∃ x q, RunDone fc k p q s x
      ∧ lfnRunEnding fc.channel how w = testFinished x
      ∧ (how = .underdose → .underdose ∈ q.notices ∨ q.moreNotices = true) := by
  obtain ⟨lfn, trc, drives, inputs, queue, working, exu, wou, dry, line⟩ := taken.frame
  obtain ⟨res, found⟩ := taken.retouched k p at_
  obtain ⟨v, vEq⟩ : ∃ v, v = setFinisherRun fc { finisherRun fc w.lfn with status := .done } w := ⟨_, rfl⟩
  have lamp : finisherLamp fc.channel = some fc := by cases fc <;> rfl
  have foundV : plateAt v k = some { p with results := res } := by
    rw [vEq]
    exact found
  have done {x : State} {q : PlateRecord} (lfnKept : x.lfn = v.lfn) (record : plateAt x k = some q) (state : q.state = p.state)
      (frame : x.trc = v.trc ∧ x.lio.drives = v.lio.drives ∧ x.lio.inputs = v.lio.inputs ∧ x.ptb.queue = v.ptb.queue
        ∧ x.rss.working = v.rss.working ∧ x.exu = v.exu ∧ x.wou = v.wou ∧ x.dry = v.dry
        ∧ x.flt.lineState = v.flt.lineState) : RunDone fc k p q s x := by
    obtain ⟨trcX, drivesX, inputsX, queueX, workingX, exuX, wouX, dryX, lineX⟩ := frame
    rw [vEq] at lfnKept trcX drivesX inputsX queueX workingX exuX wouX dryX lineX
    refine ⟨?_, fun gc ne => ?_, ?_, record, state, trcX.trans trc, drivesX.trans drives, inputsX.trans inputs,
      queueX.trans queue, workingX.trans working, exuX.trans exu, wouX.trans wou, dryX.trans dry, lineX.trans line⟩
    · rw [lfnKept, finisherRun_setFinisherRun, if_pos rfl]
    · rw [lfnKept, finisherRun_setFinisherRun, if_neg ne, lfn]
    · rw [lfnKept, (setFinisherRun_lfn _ _ _).1, (setFinisherRun_lfn _ _ _).2.1, lfn]
      exact ⟨rfl, plate⟩
  cases how with
  | complete =>
    have hears : lfnRunEnding fc.channel .complete w = testFinished v := by
      unfold lfnRunEnding
      rw [lamp, lfn, plate, vEq, lfn]
      exact if_pos works
    exact ⟨v, _, done rfl foundV rfl ⟨rfl, rfl, rfl, rfl, rfl, rfl, rfl, rfl, rfl⟩, hears, by simp⟩
  | underdose =>
    have hears : lfnRunEnding fc.channel .underdose w = testFinished (addNotice k .underdose v) := by
      unfold lfnRunEnding
      rw [lamp, lfn, plate, vEq, lfn]
      exact if_pos works
    refine ⟨addNotice k .underdose v, appendNotice .underdose { p with results := res }, done (by simp) ?_
      (appendNotice_kept _ _).1 (by simp), hears, fun _ => notice_or_more _ _⟩
    rw [addNotice, plateAt_modPlate, if_pos rfl, foundV]
    rfl
  | lampFail => exact absurd rfl notFailed

/-- A run that ends with a dark lamp is FAILED, and the plate held (R133, R9). -/
theorem lfnRunEnding_failed {w : State} (taken : SampleTaken s w) (plate : s.lfn.plate = some k)
    (at_ : plateAt s k = some p) (may : p.state.holdable = true) (works : s.lfn.state = .running ∨ s.lfn.state = .held) :
    ∃ t, lfnRunEnding fc.channel .lampFail w = t ∧ (finisherRun fc t.lfn).status = .failed
      ∧ (∀ gc, gc ≠ fc → finisherRun gc t.lfn = finisherRun gc s.lfn)
      ∧ t.lfn.state = .held ∧ attnHas t.lnk.attnPending .plateHeld = true
      ∧ (∃ q, plateAt t k = some q ∧ q.state = .held ∧ q.held = some (.lfn, .lampFail)
        ∧ (.lampFail ∈ q.notices ∨ q.moreNotices = true))
      ∧ t.trc = s.trc ∧ t.lio.drives = s.lio.drives
      ∧ t.ptb.queue = s.ptb.queue ∧ t.rss.working = s.rss.working ∧ t.exu = s.exu ∧ t.wou = s.wou ∧ t.dry = s.dry
      ∧ t.flt.lineState = s.flt.lineState := by
  obtain ⟨lfn, trc, drives, inputs, queue, working, exu, wou, dry, line⟩ := taken.frame
  obtain ⟨res, found⟩ := taken.retouched k p at_
  obtain ⟨v, vEq⟩ : ∃ v, v = setFinisherRun fc { finisherRun fc w.lfn with status := .failed } w := ⟨_, rfl⟩
  have lamp : finisherLamp fc.channel = some fc := by cases fc <;> rfl
  have hears : lfnRunEnding fc.channel .lampFail w = lfnEnterHeld k .lampFail v := by
    unfold lfnRunEnding
    rw [lamp, lfn, plate, vEq, lfn]
    exact if_pos works
  have foundV : plateAt v k = some { p with results := res } := by
    rw [vEq]
    exact found
  obtain ⟨x, xEq⟩ : ∃ x, x = raiseAttn .plateHeld (setPlate k (some (appendNotice HoldReason.lampFail.notice
    { p with results := res, state := .held, held := some (.lfn, .lampFail) })) v) := ⟨_, rfl⟩
  have held : holdPlate k .lfn .lampFail v = x := (holdPlate_holds foundV may .lfn _).trans xEq.symm
  have station : x.lfn = v.lfn := by simp [xEq]
  have record : plateAt x k = some (appendNotice HoldReason.lampFail.notice
      { p with results := res, state := .held, held := some (.lfn, .lampFail) }) := by
    rw [xEq, plateAt_raiseAttn]
    exact plateAt_setPlate_self k _ v
  have report : attnHas x.lnk.attnPending .plateHeld = true := by
    rw [xEq, raiseAttn_pending, attnHas_or, attnHas_attnBit]
    simp
  have runs (gc : FinisherLamp) : finisherRun gc (modLfn (fun l => { l with state := .held }) x).lfn
      = finisherRun gc v.lfn := by
    cases gc with
    | uva => exact congrArg (·.uva) station
    | uvc => exact congrArg (·.uvc) station
  refine ⟨_, hears, ?_⟩
  rw [lfnEnterHeld, held]
  refine ⟨?_, fun gc ne => ?_, rfl, report, ⟨_, record, (appendNotice_kept _ _).1, (appendNotice_working _ _).2,
    notice_or_more _ _⟩, ?_⟩
  · rw [runs, vEq, finisherRun_setFinisherRun, if_pos rfl]
  · rw [runs, vEq, finisherRun_setFinisherRun, if_neg ne, lfn]
  · simp [xEq, vEq, setFinisherRun_frame, trc, drives, queue, working, exu, wou, dry, line]

theorem run_ends {raw : BitVec 12} (power : s.powered = true) (run : channelAt s fc.channel = .integrating r)
    (plate : s.lfn.plate = some r.slot) (at_ : plateAt s r.slot = some p)
    (works : p.state = .finishing ∧ s.lfn.state = .running ∨ p.state = .held ∧ s.lfn.state = .held)
    (ends : let e := irradiance (s.rss.working.cal.lamps.get fc.channel) raw.toNat
      sampleEnding e (addSample e r) = some how) :
    let bothDone := how ≠ .lampFail ∧ ∀ gc, gc ≠ fc → (finisherRun gc s.lfn).status = .done
    ∃ t, exec (.sampleArrival fc.channel raw) s = .next t
      ∧ (finisherRun fc t.lfn).status = (if how = .lampFail then .failed else .done)
      ∧ (∀ gc, gc ≠ fc → finisherRun gc t.lfn = finisherRun gc s.lfn)
      ∧ (how = .lampFail → t.lfn.state = .held ∧ attnHas t.lnk.attnPending .plateHeld = true
        ∧ ∃ q, plateAt t r.slot = some q ∧ q.state = .held ∧ q.held = some (.lfn, .lampFail)
          ∧ (.lampFail ∈ q.notices ∨ q.moreNotices = true))
      ∧ (how = .underdose →
          ∃ q, plateAt t r.slot = some q ∧ (.underdose ∈ q.notices ∨ q.moreNotices = true))
      ∧ (how ≠ .lampFail → s.lfn.state = .held → t.lfn.state = .held ∧ plateState t r.slot = some .held)
      ∧ (¬ bothDone → t.trc = s.trc ∧ t.lio.drives = s.lio.drives
        ∧ (how ≠ .lampFail → t.lfn.state = s.lfn.state ∧ plateState t r.slot = some p.state))
      ∧ (bothDone → s.lfn.state = .running → t.lfn.state = .finished ∧ plateState t r.slot = some .finished
        ∧ (s.trc.handoff = .empty → inputActive .exitPresent s = false → s.trc.incoming = none →
            s.flt.lineState = .run ∨ s.flt.lineState = .safeHold → driveFaulted .outfeed s = false →
            t.lfn.moving = true ∧ t.trc = { s.trc with incoming := some r.slot }
            ∧ (inhibitActive s = false → driveIsOn .outfeed t = true)))
      ∧ t.ptb.queue = s.ptb.queue ∧ t.rss.working = s.rss.working ∧ t.exu = s.exu ∧ t.wou = s.wou ∧ t.dry = s.dry
      ∧ t.flt.lineState = s.flt.lineState := by
  intro bothDone
  obtain ⟨w, taken, step⟩ := exec_sample_ends power run ends
  have station : s.lfn.state = .running ∨ s.lfn.state = .held := works.imp And.right And.right
  have runningState (runs : s.lfn.state = .running) : p.state = .finishing := by
    rcases works with ⟨finishing, -⟩ | ⟨-, held⟩
    · exact finishing
    · exact absurd (runs.symm.trans held) (by simp)
  have heldState (held : s.lfn.state = .held) : p.state = .held := by
    rcases works with ⟨-, runs⟩ | ⟨held', -⟩
    · exact absurd (runs.symm.trans held) (by simp)
    · exact held'
  by_cases failed : how = .lampFail
  · subst failed
    have may : p.state.holdable = true := by
      rcases works with ⟨finishing, -⟩ | ⟨held, -⟩
      · rw [finishing]; rfl
      · rw [held]; rfl
    obtain ⟨t, eq, status, other, held, report, record, trc, drives, frame⟩ :=
      lfnRunEnding_failed (fc := fc) taken plate at_ may station
    exact ⟨t, step.trans (congrArg Host.Outcome.next eq), by rw [if_pos rfl]; exact status, other,
      fun _ => ⟨held, report, record⟩, fun dose => by simp at dose, fun not => absurd rfl not,
      fun _ => ⟨trc, drives, fun not => absurd rfl not⟩, fun both => absurd rfl both.1, frame⟩
  · obtain ⟨x, q, done, eq, underdose⟩ := lfnRunEnding_done (fc := fc) taken plate at_ station failed
    have tested := runDone_tested done runningState
    have still (h : ¬ (s.lfn.state = .running ∧ ∀ gc, gc ≠ fc → (finisherRun gc s.lfn).status = .done)) := tested.waits h
    refine ⟨_, step.trans (congrArg Host.Outcome.next eq), by rw [if_neg failed]; exact tested.done, tested.other,
      fun dark => absurd dark failed, fun dose => ?_, fun _ held => ?_, fun not => ?_, fun both => tested.finishes both.2,
      tested.frame⟩
    · obtain ⟨st, record⟩ := tested.record
      exact ⟨_, record, underdose dose⟩
    · obtain ⟨state, plateKept, -⟩ := still fun all => absurd (held.symm.trans all.1) (by simp)
      exact ⟨state.trans held, plateKept.trans (congrArg some (heldState held))⟩
    · obtain ⟨state, plateKept, trc, drives⟩ := still fun all => not ⟨failed, all.2⟩
      exact ⟨trc, drives, fun _ => ⟨state, plateKept⟩⟩

end Ending

/-- Settles O54: the tag check, the runs it starts, their endings, and the sensor's changes. -/
theorem finisherTagArrives : Obligations.FinisherTagArrives := by
  unfold Obligations.FinisherTagArrives
  refine ⟨fun n s power range => ⟨tag_discarded power range, fun k p check plate at_ dried =>
      ⟨fun read own line uva _ => tag_waits check plate at_ dried power range read own line uva,
        tag_mismatch check plate at_ dried power range⟩⟩,
    fun k p s => tag_starts, fun fc raw r p how s => run_ends,
    fun i s => ⟨lfn_rises, fun h => ⟨(lfn_falls h).1, (lfn_falls h).2, fun d k id done => lfn_takes h⟩⟩⟩

end Sys2Proof.Machine
end


section
/-! SUPPORT. The inhibit going active: the line stopped, the segments paused, and every owner stopped (R54, R93, R109, R147,
R156, R169, R173). -/
namespace Sys2Proof.Machine
variable {s t u v : State} {c : LampChannel} {r : RunRecord}

/-! ### The line stops (R173) -/

/-- What the line's stop leaves. -/
structure LineStopped (s t : State) : Prop where
  flags : ∀ f, isSet f t = (decide (f = .inhibit) || isSet f s)
  stops : s.flt.lineState = .run ∨ s.flt.lineState = .safeHold → t.flt.lineState = .stopped ∧ t.flt.cause = .inhibit
  stands : s.flt.lineState = .init ∨ s.flt.lineState = .stopped →
    t.flt.lineState = s.flt.lineState ∧ t.flt.cause = s.flt.cause
  masks : t.flt.masks = s.flt.masks
  frame : t.ptb = s.ptb ∧ t.rss = s.rss ∧ t.din = s.din ∧ t.exu = s.exu ∧ t.wou = s.wou ∧ t.dry = s.dry ∧ t.lfn = s.lfn
    ∧ t.trc = s.trc ∧ t.lio.inputs = s.lio.inputs ∧ t.lio.drives = s.lio.drives ∧ t.lio.lamps = s.lio.lamps

theorem stopLine_stopped (s : State) : LineStopped s (stopLine s) := by
  have line : (setFlag .inhibit s).flt.lineState = s.flt.lineState := by simp
  have flags (f : Flag) : isSet f (setFlag .inhibit s) = (decide (f = .inhibit) || isSet f s) := isSet_setFlag _ f s
  by_cases runs : s.flt.lineState = .run ∨ s.flt.lineState = .safeHold
  · obtain ⟨v, vEq⟩ : ∃ v, v = raiseAttn .lineState (lineEntered .stopped .inhibit (setFlag .inhibit s)) := ⟨_, rfl⟩
    have flt : v.flt = { (setFlag .inhibit s).flt with lineState := .stopped, cause := .inhibit } := by simp [vEq]
    have eq : stopLine s = v := by
      have changes : stopLine s = changeLine .stopped .inhibit (setFlag .inhibit s) := by
        unfold stopLine
        dsimp only
        rw [line]
        rcases runs with run | hold
        · rw [run]
        · rw [hold]
      have silent : stationsHearLine v = v := by
        unfold stationsHearLine
        rw [flt]
      rw [changes, changeLine_eq, ← vEq, silent]
    rw [eq]
    refine ⟨fun f => (isSet_congr (by rw [flt]) f).trans (flags f), fun _ => by rw [flt]; exact ⟨rfl, rfl⟩, fun still => ?_,
      by rw [flt]; simp, by simp [vEq, lineEntered]⟩
    rcases runs with run | hold
    · rw [run] at still
      simp at still
    · rw [hold] at still
      simp at still
  · have still : s.flt.lineState = .init ∨ s.flt.lineState = .stopped := by
      revert runs
      cases s.flt.lineState <;> simp
    have eq : stopLine s = setFlag .inhibit s := by
      unfold stopLine
      dsimp only
      rw [line]
      rcases still with init | stopped
      · rw [init]
      · rw [stopped]
    rw [eq]
    exact ⟨flags, fun run => absurd run runs, fun _ => by simp, by simp, by simp⟩

/-! ### The segments of the lamps forced off (R54) -/

/-- The run `r` is in the channel `c`, in its segment or PAUSED. -/
def InSegment (c : LampChannel) (r : RunRecord) (s : State) : Prop :=
  ∃ recording, channelAt s c = .integrating { r with recording := recording }
def Waits (c : LampChannel) (r : RunRecord) (s : State) : Prop :=
  ∃ recording, channelAt s c = .paused { r with recording := recording }

def LampForced (c : LampChannel) (s : State) : Prop := (s.lio.lamps.get c).forced = true

theorem forced_lampOff (d c : LampChannel) (s : State) :
    ((lampOff d s).lio.lamps.get c).forced = (s.lio.lamps.get c).forced := by
  unfold lampOff
  split
  · rw [(refreshOutputs_frame _).2.2.2.2.2.2.2.2.2.2.2.2.1, setLamp, modLio_lio, PerLamp.get_set]
    split
    next own => rw [own]
    next => rfl
  · rfl

theorem forced_pauseSegment (d c : LampChannel) (s : State) :
    ((pauseSegment d s).lio.lamps.get c).forced = (s.lio.lamps.get c).forced := by
  by_cases run : ∃ r, channelAt s d = .integrating r
  · obtain ⟨r, run⟩ := run
    obtain ⟨recording, v, -, lines, -, eq⟩ := pauseSegment_run run
    have lamps : (pauseSegment d s).lio.lamps = (lampOff d s).lio.lamps := by
      rw [eq]
      simp [lines, endSegment]
    rw [lamps, forced_lampOff]
  · rw [pauseSegment_idle (not_exists.1 run)]

theorem forced_pauseForced (d c : LampChannel) (s : State) :
    ((pauseForced s d).lio.lamps.get c).forced = (s.lio.lamps.get c).forced := by
  unfold pauseForced
  split
  · exact forced_pauseSegment d c s
  · rfl

theorem Waits.pauseForced (h : Waits c r s) (d : LampChannel) : Waits c r (pauseForced s d) := by
  obtain ⟨recording, paused⟩ := h
  unfold Machine.pauseForced
  split
  · by_cases other : c = d
    · subst other
      rw [pauseSegment_idle (by simp [paused])]
      exact ⟨recording, paused⟩
    · have kept := rerecorded_pauseSegment other s
      rw [paused] at kept
      exact ⟨recording, kept.paused⟩
  · exact ⟨recording, paused⟩

theorem InSegment.pauseForced_other (h : InSegment c r s) {d : LampChannel} (other : c ≠ d) :
    InSegment c r (pauseForced s d) := by
  obtain ⟨recording, run⟩ := h
  unfold Machine.pauseForced
  split
  · have kept := rerecorded_pauseSegment other s
    rw [run] at kept
    obtain ⟨recording', still⟩ := kept.integrating
    exact ⟨recording', still⟩
  · exact ⟨recording, run⟩

theorem InSegment.pauseForced_self (h : InSegment c r s) (forced : LampForced c s) : Waits c r (pauseForced s c) := by
  obtain ⟨recording, run⟩ := h
  obtain ⟨recording', paused⟩ := pauseSegment_paused run
  have eq : Machine.pauseForced s c = pauseSegment c s := if_pos forced
  rw [eq]
  exact ⟨recording', paused⟩

/-- Over the channels in turn, the run of a lamp forced off is paused at its own turn and stays so. -/
theorem foldl_pauseForced_waits : ∀ (l : List LampChannel) (s : State), LampForced c s →
    (Waits c r s ∨ InSegment c r s ∧ c ∈ l) → Waits c r (l.foldl pauseForced s)
  | [], _, _, .inl waits => waits
  | [], _, _, .inr ⟨_, mem⟩ => by cases mem
  | d :: l, s, forced, h => by
    rw [List.foldl_cons]
    refine foldl_pauseForced_waits l _ ((forced_pauseForced d c s).trans forced) ?_
    rcases h with waits | ⟨run, mem⟩
    · exact .inl (waits.pauseForced d)
    · by_cases own : c = d
      · subst own
        exact .inl (run.pauseForced_self forced)
      · exact .inr ⟨run.pauseForced_other own, (List.mem_cons.1 mem).resolve_left own⟩

theorem foldl_pauseForced_forced (l : List LampChannel) (s : State) :
    ((l.foldl pauseForced s).lio.lamps.get c).forced = (s.lio.lamps.get c).forced := by
  induction l generalizing s with
  | nil => rfl
  | cons d l ih => rw [List.foldl_cons, ih, forced_pauseForced]

theorem foldl_pauseForced_flags (f : Flag) (l : List LampChannel) (s : State) (set : isSet f s = true) :
    isSet f (l.foldl pauseForced s) = true := by
  induction l generalizing s with
  | nil => exact set
  | cons d l ih =>
    rw [List.foldl_cons]
    refine ih _ ?_
    unfold pauseForced
    split
    · exact pauseSegment_flags f set
    · exact set

/-! ### The owners under the inhibit (R93, R109, R147, R156) -/

/-- What every owner keeps: the marks of the drives forced off, and every flag but those an owner may report. -/
structure Silenced (s t : State) : Prop where
  forced : ∀ d, (t.lio.drives.get d).forced = (s.lio.drives.get d).forced
  flags : ∀ f, f ≠ .solventLimit → f ≠ .replenishBlocked → isSet f t = isSet f s
  dry : t.dry = s.dry
  list : t.wou.list = s.wou.list

theorem transportStateOf_inhibited (inhibit : inhibitActive s = true) :
    transportStateOf s = if s.wou.list = [] then .idle else .stoppedByInhibit := by
  simp [transportStateOf, inhibit, List.isEmpty_iff]

theorem transportAnew_inhibited (inhibit : inhibitActive s = true) (line : s.flt.lineState ≠ .run) :
    Silenced s (transportAnew s)
    ∧ (transportAnew s).wou.transport = (if s.wou.list = [] then .idle else .stoppedByInhibit) := by
  have steady := steady_transportAnew s
  have taken := takeTransport_wou s
  rw [transportStateOf_inhibited inhibit] at taken
  by_cases same : (takeTransport s).wou.transport = s.wou.transport
  · have eq : transportAnew s = takeTransport s := if_pos same
    rw [eq] at steady ⊢
    exact ⟨⟨steady.forced, fun f limit _ => steady.flags f limit, by simp, by rw [taken]⟩, by rw [taken]⟩
  · have eq : transportAnew s = evalAdmission (takeTransport s) := if_neg same
    have eval : Unadmitted (takeTransport s) (evalAdmission (takeTransport s)) := unadmitted_not_run (by simpa using line)
    obtain ⟨b, wou⟩ := eval.wou
    rw [eq] at steady ⊢
    exact ⟨⟨steady.forced, fun f limit _ => steady.flags f limit, eval.dry.trans (by simp), by rw [wou, taken]⟩,
      by rw [wou, taken]⟩

theorem completeReplenish_dry (line : s.flt.lineState ≠ .run) : (completeReplenish s).dry = s.dry := by
  unfold completeReplenish
  split
  · exact (unadmitted_not_run (by simpa using line)).dry.trans (by simp)
  · rfl

/-- A replenishment stopped by the inhibit: it cannot start again in a line that is neither RUN nor SAFE_HOLD. -/
theorem stopReplenish_inhibited (run_ : s.flt.lineState ≠ .run) (hold : s.flt.lineState ≠ .safeHold) :
    Silenced s (stopReplenish false s) ∧ (stopReplenish false s).wou.transport = s.wou.transport
    ∧ ∀ run, (stopReplenish false s).wou.replenish ≠ .running run := by
  by_cases runs : ∃ run, s.wou.replenish = .running run
  · obtain ⟨run, running⟩ := runs
    rcases Nat.lt_or_ge run.pumped (run.runTime * 1000) with early | pumped
    · obtain ⟨v, eq, wou, drives, flt, dry⟩ := stopReplenish_early running early false
      have line : (enterPending v).flt.lineState = s.flt.lineState := by simp [flt]
      have eval : Unadmitted (enterPending v) (evalAdmission (enterPending v)) :=
        unadmitted_not_run (by rw [line]; exact run_)
      have barred : ¬ replenishMayStart v := fun start => by
        have lines := start.2.2.2
        rw [flt] at lines
        exact lines.elim run_ hold
      have forced (d : DriveChannel) : ((enterPending v).lio.drives.get d).forced = (s.lio.drives.get d).forced := by
        unfold enterPending
        split
        · simp [drives]
        · rw [(steady_startReplenish _).forced]
          simp [drives]
      obtain ⟨b, after⟩ := eval.wou
      have steady := steady_evalAdmission (enterPending v)
      have stands := enterPending_stands barred
      rw [eq, if_neg (by simp)]
      refine ⟨⟨fun d => (steady.forced d).trans (forced d), fun f limit blocked => ?_, ?_, ?_⟩, ?_, fun run => ?_⟩
      · rw [steady.flags f limit, isSet_enterPending blocked]
        exact isSet_congr (congrArg (·.flags) flt) f
      · rw [eval.dry]
        simp [dry]
      · rw [after]
        simp [wou]
      · rw [after]
        simp [wou]
      · rw [after]
        exact stands run
    · have steady := steady_completeReplenish s
      obtain ⟨v, left, wou, -, -, -, -, -, -, -, line⟩ := completeReplenish_left running
      have eval : Unadmitted v (evalAdmission v) := unadmitted_not_run (by rw [line]; exact run_)
      obtain ⟨b, after⟩ := eval.wou
      rw [stopReplenish_complete running pumped]
      refine ⟨⟨steady.forced, fun f limit _ => steady.flags f limit, completeReplenish_dry run_, ?_⟩, ?_, fun r => ?_⟩
      · rw [left, after, wou]
      · rw [left, after, wou]
      · rw [left, after, wou]
        simp
  · have none_ := not_exists.1 runs
    rw [stopReplenish_idle none_]
    exact ⟨⟨fun _ => rfl, fun _ _ _ => rfl, rfl, rfl⟩, rfl, none_⟩

theorem updateHalted_trc (cause : haltCause s = true) : (updateHalted s).trc.request = s.trc.request
    ∧ (updateHalted s).trc.handoff = s.trc.handoff := by
  unfold updateHalted
  rw [if_pos cause]
  split
  next => exact ⟨rfl, rfl⟩
  next =>
    unfold haltBegins
    dsimp only
    split <;> exact ⟨rfl, rfl⟩

theorem enterSetup_inhibited (inhibit : inhibitActive s = true) : (enterSetup s).lio.drives = s.lio.drives := by
  obtain ⟨v, vEq⟩ : ∃ v, v = refreshOutputs (modTrc (fun t => { t with
    handoff := .setup, values := s.rss.working.cfg.exit, setupRun := 0, dwell := 0, taken := false,
    handoffTimer := none }) s) := ⟨_, rfl⟩
  have active : inhibitActive v = true := (inhibitActive_congr (by simp [vEq]) (by simp [vEq])).trans inhibit
  have stays : setupAtOnce v = v := by simp [setupAtOnce, setupEnd, active]
  have eq : enterSetup s = v := by rw [vEq] at stays ⊢; exact stays
  rw [eq]
  simp [vEq]

/-- Where the inhibit leaves a handoff (R156). -/
def handoffRestarted : HandoffState → HandoffState
  | .setup | .pushing | .offered => .setup
  | other => other

/-- R156: under the inhibit a handoff in hand goes back to SETUP, and no delay of 0 ends there. -/
theorem restartHandoff_inhibited (inhibit : inhibitActive s = true) :
    (restartHandoff s).lio.drives = s.lio.drives ∧ (restartHandoff s).trc.halted = s.trc.halted
    ∧ (restartHandoff s).trc.handoff = handoffRestarted s.trc.handoff := by
  obtain ⟨-, -, -, halted, handoff⟩ := enterSetup_trc s
  rw [if_pos (.inr inhibit)] at handoff
  have drives := enterSetup_inhibited inhibit
  unfold restartHandoff
  cases state : s.trc.handoff with
  | empty | doneWaitClear => exact ⟨rfl, rfl, state⟩
  | setup | pushing | offered => exact ⟨drives, halted, handoff⟩

/-! ### The inhibit goes active (R169) -/

/-- What the owners leave, of a state in which all is forced off and the line is neither RUN nor SAFE_HOLD. -/
theorem ownersHearInhibit_silenced (inhibit : inhibitActive s = true) (run_ : s.flt.lineState ≠ .run)
    (hold : s.flt.lineState ≠ .safeHold) (t : State) (tEq : t = ownersHearInhibit s) :
    (∀ d, (t.lio.drives.get d).forced = (s.lio.drives.get d).forced)
    ∧ (∀ c, (t.lio.lamps.get c).forced = (s.lio.lamps.get c).forced)
    ∧ (∀ f, f ≠ .solventLimit → f ≠ .replenishBlocked → isSet f s = true → isSet f t = true)
    ∧ (∀ c r, LampForced c s → channelAt s c = .integrating r → Waits c r t)
    ∧ t.wou.transport = (if s.wou.list = [] then .idle else .stoppedByInhibit) ∧ t.wou.list = s.wou.list
    ∧ (∀ run, t.wou.replenish ≠ .running run)
    ∧ t.trc.halted = true ∧ t.trc.request = s.trc.request
    ∧ t.trc.handoff = handoffRestarted s.trc.handoff
    ∧ t.dry = s.dry := by
  obtain ⟨a, aEq⟩ : ∃ a, a = lampChannels.foldl pauseForced s := ⟨_, rfl⟩
  obtain ⟨b, bEq⟩ : ∃ b, b = transportAnew a := ⟨_, rfl⟩
  obtain ⟨d, dEq⟩ : ∃ d, d = stopReplenish false b := ⟨_, rfl⟩
  obtain ⟨e, eEq⟩ : ∃ e, e = updateHalted d := ⟨_, rfl⟩
  have restarts : t = restartHandoff e := by rw [tEq, eEq, dEq, bEq, aEq]; rfl
  have lineA : a.flt.lineState = s.flt.lineState := by simp [aEq]
  have lineB : b.flt.lineState = s.flt.lineState := by simp [bEq, lineA]
  have inhibitA : inhibitActive a = true := (inhibitActive_congr (by simp [aEq]) (by simp [aEq])).trans inhibit
  have inhibitD : inhibitActive d = true :=
    (inhibitActive_congr (s := a) (by simp [dEq, bEq]) (by simp [dEq, bEq])).trans inhibitA
  have inhibitE : inhibitActive e = true := (inhibitActive_congr (s := d) (by simp [eEq]) (by simp [eEq])).trans inhibitD
  have cause : haltCause d = true := by simp [haltCause, inhibitD]
  obtain ⟨moved, transport⟩ := transportAnew_inhibited inhibitA (by rw [lineA]; exact run_)
  rw [← bEq] at moved transport
  obtain ⟨stopped, transportD, stands⟩ := stopReplenish_inhibited (by rw [lineB]; exact run_) (by rw [lineB]; exact hold)
  rw [← dEq] at stopped transportD stands
  obtain ⟨drives, haltedKept, handoff⟩ := restartHandoff_inhibited inhibitE
  obtain ⟨halted, -⟩ := updateHalted_halts cause
  obtain ⟨request, handoffKept⟩ := updateHalted_trc cause
  have halts := steady_updateHalted d
  rw [← eEq] at halted request handoffKept halts
  have wouA : a.wou = s.wou := by simp [aEq]
  have dryA : a.dry = s.dry := by simp [aEq]
  have trcD : d.trc = s.trc := by simp [dEq, bEq, aEq]
  have wouT : t.wou = d.wou := by simp [restarts, eEq]
  have lampsT : t.lio.lamps = a.lio.lamps := by simp [restarts, eEq, dEq, bEq]
  have dinT : t.din = a.din := by simp [restarts, eEq, dEq, bEq]
  refine ⟨fun c => ?_, fun c => ?_, fun f limit blocked set => ?_, fun c r forced run => ?_, ?_, ?_, ?_, ?_, ?_, ?_, ?_⟩
  · rw [restarts, drives, halts.forced, stopped.forced, moved.forced]
    simp [aEq]
  · rw [lampsT, aEq, foldl_pauseForced_forced]
  · have setA : isSet f a = true := by rw [aEq]; exact foldl_pauseForced_flags f _ s set
    rw [isSet_congr (s := e) (by simp [restarts]), halts.flags f limit, stopped.flags f limit blocked,
      moved.flags f limit blocked]
    exact setA
  · have every : c ∈ lampChannels := by cases c <;> decide
    obtain ⟨recording, paused⟩ := foldl_pauseForced_waits (r := r) lampChannels s forced
      (.inr ⟨⟨r.recording, run⟩, every⟩)
    rw [← aEq] at paused
    exact ⟨recording, (channelAt_congr (by rw [dinT]) c).trans paused⟩
  · rw [wouT, transportD, transport, wouA]
  · rw [wouT, stopped.list, moved.list, wouA]
  · rw [wouT]
    exact stands
  · rw [restarts, haltedKept]
    exact halted
  · rw [restarts, (restartHandoff_frame e).2.2.2.2.2.2.2.2.2.2.2.1, request, trcD]
  · rw [restarts, handoff, handoffKept, trcD]
  · rw [restarts, (restartHandoff_frame e).2.2.2.2.2.2.2.1, eEq, (updateHalted_frame d).2.2.2.2.2.2.2.1, stopped.dry, moved.dry,
      dryA]

/-- Settles O17: all channels are forced off, the line stops, and every owner stops in turn. -/
theorem inhibitStopsTheLine : Obligations.InhibitStopsTheLine := by
  unfold Obligations.InhibitStopsTheLine
  intro i s power carries before timed
  obtain ⟨u, uEq⟩ : ∃ u, u = flipped i s := ⟨_, rfl⟩
  obtain ⟨a, aEq⟩ : ∃ a, a = forceAllOff u := ⟨_, rfl⟩
  obtain ⟨b, bEq⟩ : ∃ b, b = stopLine a := ⟨_, rfl⟩
  obtain ⟨t, tEq⟩ : ∃ t, t = ownersHearInhibit b := ⟨_, rfl⟩
  have delivers : inhibitOn u = t := by rw [tEq, bEq, aEq]; rfl
  have step : exec (.debounceExpiry i) s = .next t := by
    refine (event_on power).trans (congrArg Host.Outcome.next ?_)
    rw [← delivers, uEq]
    simp [debounceEnd, Option.isSome_iff_ne_none, timed, flipInput_eq, carries, before, deliver]
  have active : inhibitActive u = true := by rw [uEq]; exact inputActive_flipped_on carries before
  have stopped := stopLine_stopped a
  rw [← bEq] at stopped
  obtain ⟨ptb, rss, din, exu, wou, dry, lfn, trc, inputs, drivesB, lampsB⟩ := stopped.frame
  have fltA : a.flt = s.flt := by simp [aEq, uEq, flipped]
  have activeB : inhibitActive b = true := by
    refine (inhibitActive_congr (s := u) ?_ ?_).trans active
    · rw [inputs, aEq]
      simp
    · rw [rss, aEq]
      simp
  have ends : s.flt.lineState = .run ∨ s.flt.lineState = .safeHold → b.flt.lineState = .stopped ∧ b.flt.cause = .inhibit :=
    fun runs => stopped.stops (by rw [fltA]; exact runs)
  have stands : s.flt.lineState = .init ∨ s.flt.lineState = .stopped →
      b.flt.lineState = s.flt.lineState ∧ b.flt.cause = s.flt.cause := fun still => by
    have kept := stopped.stands (by rw [fltA]; exact still)
    rwa [fltA] at kept
  have lineB : b.flt.lineState ≠ .run ∧ b.flt.lineState ≠ .safeHold := by
    cases line : s.flt.lineState with
    | run => simp [(ends (.inl line)).1]
    | safeHold => simp [(ends (.inr line)).1]
    | init => simp [(stands (.inl line)).1, line]
    | stopped => simp [(stands (.inr line)).1, line]
  obtain ⟨drivesForced, lampsForced, flags, segments, transport, list, replenish, halted, request, handoff, dryT⟩ :=
    ownersHearInhibit_silenced activeB lineB.1 lineB.2 t tEq
  have trcB : b.trc = s.trc := by rw [trc, aEq]; simp [uEq, flipped]
  have wouB : b.wou = s.wou := by rw [wou, aEq]; simp [uEq, flipped]
  have dinB : b.din = s.din := by rw [din, aEq]; simp [uEq, flipped]
  have dryB : b.dry = s.dry := by rw [dry, aEq]; simp [uEq, flipped]
  have litOff (c : LampChannel) (lit : lampIsOn c s = true) : LampForced c b := by
    have on : lampIsOn c u = true := by rw [uEq]; exact lit
    rw [LampForced, lampsB, aEq, lamp_forceAllOff, if_pos on]
  obtain ⟨drivesOff, lampsOff⟩ : AllOff t := by rw [← delivers]; exact inhibitOn_allOff active
  have fltT : t.flt.lineState = b.flt.lineState ∧ t.flt.cause = b.flt.cause ∧ t.flt.masks = b.flt.masks := by simp [tEq]
  obtain ⟨lineT, causeT, masksT⟩ := fltT
  refine ⟨t, step, ?_, drivesOff, lampsOff, fun c on => ?_, fun c lit => ?_, flags _ (by simp) (by simp) ?_,
    fun runs => ?_, fun still => ?_, fun c r lit run => ?_, ?_, ?_, replenish, halted, ?_, ?_, ?_, ?_, dryT.trans dryB, ?_⟩
  · refine (inhibitActive_congr (s := b) ?_ ?_).trans activeB
    · simp [tEq]
    · simp [tEq]
  · have onU : driveIsOn c u = true := by rw [uEq]; exact on
    rw [drivesForced, drivesB, aEq, drive_forceAllOff, if_pos onU]
  · rw [lampsForced]
    exact litOff c lit
  · rw [stopped.flags]
    simp
  · rw [lineT, causeT]
    exact ends runs
  · rw [lineT, causeT]
    exact stands still
  · obtain ⟨recording, paused⟩ := segments c r (litOff c lit) ((channelAt_congr (by rw [dinB]) c).trans run)
    exact ⟨_, paused, rfl, rfl, rfl, rfl, rfl⟩
  · rw [transport, wouB]
  · rw [list, wouB]
  · rw [request, trcB]
  · rw [handoff, trcB]
    cases s.trc.handoff <;> rfl
  · have queue : t.ptb.queue = b.ptb.queue := by simp [tEq]
    rw [queue, ptb, aEq]
    simp [uEq, flipped]
  · have working : t.rss.working = b.rss.working := by simp [tEq]
    rw [working, rss, aEq]
    simp [uEq, flipped]
  · rw [masksT, stopped.masks, fltA]

end Sys2Proof.Machine
end


section
/-! SUPPORT. The inhibit going inactive: the marks and latches gone, the line in SAFE_HOLD, the owners going on (R169, R173). -/
namespace Sys2Proof.Machine
variable {s t u : State}

/-! ### The channels released (R169) -/

/-- Channel `d` has neither a forced-off mark nor a FAULT latch. -/
def DriveReleased (d : DriveChannel) (s : State) : Prop := (s.lio.drives.get d).forced = false ∧ driveFaulted d s = false

theorem drive_releaseDrive (s : State) (c d : DriveChannel) : (releaseDrive s c).lio.drives.get d =
    if d = c then { state := if driveFaulted d s then .off else driveState d s, forced := false }
    else s.lio.drives.get d := by
  simp only [releaseDrive, setDrive, modLio_lio, PerDrive.get_set]
  split
  next own => rw [own]
  next => rfl

theorem releaseDrive_self (s : State) (d : DriveChannel) : DriveReleased d (releaseDrive s d) := by
  have now := (drive_releaseDrive s d d).trans (if_pos rfl)
  refine ⟨by rw [now], ?_⟩
  rw [driveFaulted_eq, driveState, now]
  cases fault : driveFaulted d s with
  | true => rfl
  | false =>
    rw [driveFaulted_eq] at fault
    simpa using fault

theorem DriveReleased.releaseDrive {d : DriveChannel} (h : DriveReleased d s) (c : DriveChannel) :
    DriveReleased d (releaseDrive s c) := by
  by_cases own : d = c
  · exact own ▸ releaseDrive_self s d
  · have now := (drive_releaseDrive s c d).trans (if_neg own)
    refine ⟨by rw [now]; exact h.1, ?_⟩
    rw [driveFaulted_eq, driveState, now]
    exact (driveFaulted_eq d s).symm.trans h.2

theorem foldl_releaseDrive_released {d : DriveChannel} : ∀ (l : List DriveChannel) (s : State),
    (DriveReleased d s ∨ d ∈ l) → DriveReleased d (l.foldl releaseDrive s)
  | [], _, .inl released => released
  | [], _, .inr mem => by cases mem
  | c :: l, s, h => by
    rw [List.foldl_cons]
    refine foldl_releaseDrive_released l _ ?_
    rcases h with released | mem
    · exact .inl (released.releaseDrive c)
    · rcases List.mem_cons.1 mem with rfl | later
      · exact .inl (releaseDrive_self s d)
      · exact .inr later

theorem lamp_releaseLamp (s : State) (c d : LampChannel) : (releaseLamp s c).lio.lamps.get d =
    if d = c then { s.lio.lamps.get d with forced := false } else s.lio.lamps.get d := by
  simp only [releaseLamp, setLamp, modLio_lio, PerLamp.get_set]
  split
  next own => rw [own]
  next => rfl

theorem lamp_foldl_releaseLamp (l : List LampChannel) (s : State) (d : LampChannel) :
    (l.foldl releaseLamp s).lio.lamps.get d =
      if d ∈ l then { s.lio.lamps.get d with forced := false } else s.lio.lamps.get d := by
  induction l generalizing s with
  | nil => simp
  | cons c l ih =>
    rw [List.foldl_cons, ih, lamp_releaseLamp]
    by_cases own : d = c <;> simp [own]

theorem releaseAll_released (s : State) : (∀ d, DriveReleased d (releaseAll s))
    ∧ ∀ c, (releaseAll s).lio.lamps.get c = { s.lio.lamps.get c with forced := false } := by
  refine ⟨fun d => ?_, fun c => ?_⟩
  · have drives : (releaseAll s).lio.drives = (driveChannels.foldl releaseDrive s).lio.drives := by
      unfold releaseAll
      simp
    have every : d ∈ driveChannels := by cases d <;> decide
    obtain ⟨forced, works⟩ := foldl_releaseDrive_released (d := d) driveChannels s (.inr every)
    exact ⟨by rw [drives]; exact forced, (driveFaulted_congr drives d).trans works⟩
  · have lamps : (driveChannels.foldl releaseDrive s).lio.lamps = s.lio.lamps := by simp
    have every : c ∈ lampChannels := by cases c <;> decide
    rw [releaseAll, lamp_foldl_releaseLamp, if_pos every, lamps]

/-! ### The owners going on (R169) -/

theorem steady_leaveSetup (s : State) : Steady s (leaveSetup s) := by
  unfold leaveSetup
  split
  · exact (steady_modTrc _ s).trans (steady_updateConveyor _)
  · exact (steady_modTrc _ s).trans (steady_refreshOutputs _)

theorem steady_handoffGoesOn (s : State) : Steady s (handoffGoesOn s) := by
  unfold handoffGoesOn setupAtOnce setupEnd
  split
  · split
    · split
      · exact steady_leaveSetup s
      · exact .refl s
    · exact .refl s
  · exact steady_updateConveyor s

theorem steady_ownersHearRelease (s : State) : Steady s (ownersHearRelease s) :=
  ((((((steady_updateRollers s).trans (steady_transportAnew _)).trans (steady_tryReplenish _)).trans
    (steady_testHeater _)).trans (steady_updateOutfeed _)).trans (steady_tryRelease _)).trans
    ((steady_updateHalted _).trans (steady_handoffGoesOn _))

section Heater
variable {c : DriveChannel}

theorem driveState_updateOutfeed (other : c ≠ .outfeed) (s : State) : driveState c (updateOutfeed s) = driveState c s := by
  unfold updateOutfeed
  split
  · split
    · rw [driveState_driveOff, if_neg fun h => other h.1]
    · rw [driveState_driveOn, if_neg fun h => other h.1]
  · rfl

theorem driveState_phaseAfresh (other : c ≠ .elevator) (s : State) : driveState c (phaseAfresh s) = driveState c s := by
  unfold phaseAfresh
  split
  · split
    · unfold afterTravel
      split
      · exact driveState_elevatorToIdle other s
      · exact driveState_commandPhase other s _
      · exact driveState_commandPhase other s _
      · rfl
    · exact driveState_commandPhase other s _
  · exact driveState_commandPhase other s _
  · exact driveState_arbiter other s
  · rfl

theorem driveState_updateHalted (other : c ≠ .elevator) (s : State) : driveState c (updateHalted s) = driveState c s := by
  unfold updateHalted
  split
  · split
    · rfl
    · unfold haltBegins
      dsimp only
      split <;> rfl
  · split
    · exact (driveState_phaseAfresh other _).trans rfl
    · rfl

theorem driveState_handoffGoesOn (other : c ≠ .conveyor) (s : State) : driveState c (handoffGoesOn s) = driveState c s := by
  unfold handoffGoesOn setupAtOnce setupEnd
  split
  · split
    · split
      · exact driveState_leaveSetup other s
      · rfl
    · rfl
  · exact driveState_updateConveyor other s

/-- The heater comes back, and no owner that goes on after it turns it (R119, R169). -/
theorem ownersHearRelease_heater (running : s.flt.lineState ≠ .init) (inhibit : inhibitActive s = false)
    (sound : driveFaulted .heater s = false) (cool : isSet .dryerOvertemp s = false) :
    driveState .heater (ownersHearRelease s) = .on (.value (dryerSetpoint s)) := by
  obtain ⟨v, vEq⟩ : ∃ v, v = washoutGoesOn (updateRollers s) := ⟨_, rfl⟩
  have steady : Steady s v := by
    rw [vEq]
    exact ((steady_updateRollers s).trans (steady_transportAnew _)).trans (steady_tryReplenish _)
  have store : v.rss = s.rss := by simp [vEq]
  have quiet : inhibitActive v = false := (inhibitActive_congr (by simp [vEq]) (by simp [vEq])).trans inhibit
  have on := testHeater_on (s := v) (by simpa [vEq] using running) quiet ((steady.faults _).trans sound)
    ((steady.flags _ (by simp)).trans cool)
  have eq : ownersHearRelease s = handoffGoesOn (updateHalted (tryRelease (updateOutfeed (testHeater v)))) := by
    rw [vEq]
    rfl
  rw [eq, driveState_handoffGoesOn (by simp), driveState_updateHalted (by simp), driveState_tryRelease (by simp),
    driveState_updateOutfeed (by simp), on, dryerSetpoint, store]
  rfl

end Heater

theorem deliver_inhibitOff (s : State) :
    deliver .inhibit false s = ownersHearRelease (releaseLine (releaseAll s)) := by
  simp only [deliver, Bool.false_eq_true, if_false, inhibitOff]

/-- Settles O18: all channels are released, the line goes to SAFE_HOLD, and the owners go on. -/
theorem inhibitIsReleased : Obligations.InhibitIsReleased := by
  unfold Obligations.InhibitIsReleased
  intro i s power carries before timed alone stopped
  have h : Changes i .inhibit false s := ⟨power, carries, alone, by simpa using before, timed⟩
  obtain ⟨a, aEq⟩ : ∃ a, a = releaseAll (flipped i s) := ⟨_, rfl⟩
  obtain ⟨b, bEq⟩ : ∃ b, b = changeLine .safeHold .inhibitRelease a := ⟨_, rfl⟩
  obtain ⟨t, tEq⟩ : ∃ t, t = ownersHearRelease b := ⟨_, rfl⟩
  have lineA : a.flt.lineState = .stopped := by simpa [aEq, flipped] using stopped
  have step : exec (.debounceExpiry i) s = .next t := by
    have release : releaseLine a = b := (if_pos lineA).trans bEq.symm
    refine (exec_debounce h).trans (congrArg Host.Outcome.next ((deliver_inhibitOff _).trans ?_))
    rw [← aEq, release, ← tEq]
  have inactive : inhibitActive b = false :=
    (inhibitActive_congr (s := flipped i s) (by simp [bEq, aEq]) (by simp [bEq, aEq])).trans (inputActive_flipped_self h)
  obtain ⟨drives, lamps⟩ := releaseAll_released (flipped i s)
  rw [← aEq] at drives lamps
  have steadyB : Steady a b := by rw [bEq]; exact steady_changeLine _ _ a
  have steady : Steady a t := by rw [tEq]; exact steadyB.trans (steady_ownersHearRelease b)
  have flags (f : Flag) : isSet f a = isSet f s := isSet_congr (by simp [aEq, flipped]) f
  obtain ⟨lineB, causeB, masksB⟩ : b.flt.lineState = .safeHold ∧ b.flt.cause = .inhibitRelease ∧ b.flt.masks = a.flt.masks := by
    simp [bEq]
  obtain ⟨-, dinB, -, -, lampsB, -⟩ := changeLine_safeHold .inhibitRelease a
  rw [← bEq] at dinB lampsB
  have lampsT : t.lio.lamps = a.lio.lamps := by
    rw [← lampsB]
    simp [tEq]
  refine ⟨t, step, ?_, ?_, ?_, (steady.flags _ (by simp)).trans (flags _), fun c => ⟨(steady.forced c).trans (drives c).1,
    (steady.faults c).trans (drives c).2⟩, fun c => ⟨?_, ?_⟩, fun cool => ?_, ?_, ?_, ?_, ?_⟩
  · exact (inhibitActive_congr (by simp [tEq]) (by simp [tEq])).trans inactive
  · simpa [tEq] using lineB
  · simpa [tEq] using causeB
  · rw [lampsT, lamps]
  · rw [lampLevel, lampsT, lamps]
    rfl
  · have store : b.rss = s.rss := by simp [bEq, aEq, flipped]
    rw [tEq, ownersHearRelease_heater (by simp [lineB]) inactive ((steadyB.faults _).trans (drives _).2)
      ((steadyB.flags _ (by simp)).trans ((flags _).trans cool)), dryerSetpoint, store]
  · simp [tEq, bEq, aEq, flipped]
  · simp [tEq, bEq, aEq, flipped]
  · have din : t.din = b.din := by simp [tEq]
    rw [din, dinB]
    simp [aEq, flipped]
  · have masks : t.flt.masks = b.flt.masks := by simp [tEq]
    rw [masks, masksB]
    simp [aEq, flipped]

end Sys2Proof.Machine
end


section
/-! SUPPORT. No attention item is lost by what the change of an input function does (R191, R193). -/
namespace Sys2Proof.Machine
variable {s t u : State}

/-- From `s` to `t` no attention item pending is lost. -/
def ItemsKept (s t : State) : Prop := ∀ a, attnHas s.lnk.attnPending a = true → attnHas t.lnk.attnPending a = true

namespace ItemsKept

theorem refl (s : State) : ItemsKept s s := fun _ has => has

theorem trans (h : ItemsKept s t) (g : ItemsKept t u) : ItemsKept s u := fun a has => g a (h a has)

theorem of_link (link : t.lnk = s.lnk) : ItemsKept s t := fun a has => by rw [link]; exact has

theorem foldl {α : Type} {f : State → α → State} (step : ∀ v a, ItemsKept v (f v a)) (l : List α) (s : State) :
    ItemsKept s (l.foldl f s) := by
  induction l generalizing s with
  | nil => exact .refl s
  | cons a l ih => exact (step s a).trans (ih _)

end ItemsKept

/-! ### The washout -/

theorem items_setFlag (f : Flag) (s : State) : ItemsKept s (setFlag f s) := (goesOn_setFlag f s).items
theorem items_raiseAttn (a : AttnItem) (s : State) : ItemsKept s (raiseAttn a s) := (goesOn_raiseAttn a s).items
theorem items_evalAdmission (s : State) : ItemsKept s (evalAdmission s) := (goesOn_evalAdmission s).items
theorem items_askExposure (s : State) : ItemsKept s (askExposure s) := (goesOn_askExposure s).items
theorem items_changeLine (new : LineState) (cause : Cause) (s : State) : ItemsKept s (changeLine new cause s) :=
  (goesOn_changeLine new cause s).items

theorem items_enterPending (s : State) : ItemsKept s (enterPending s) := by
  unfold enterPending
  split
  · exact (ItemsKept.of_link (by simp)).trans (items_setFlag _ _)
  · exact .of_link (by simp)

theorem items_transportAnew (s : State) : ItemsKept s (transportAnew s) := by
  have taken : ItemsKept s (takeTransport s) := .of_link (by simp)
  unfold transportAnew
  dsimp only
  split
  · exact taken
  · exact taken.trans (items_evalAdmission _)

theorem items_testStallEnd (s : State) : ItemsKept s (testStallEnd s) := by
  unfold testStallEnd
  split
  · exact (ItemsKept.of_link (by simp)).trans (items_transportAnew _)
  · exact .refl s

theorem items_completeReplenish (s : State) : ItemsKept s (completeReplenish s) := by
  unfold completeReplenish
  split
  · exact (ItemsKept.of_link (by simp)).trans (items_evalAdmission _)
  · exact .refl s

theorem items_stopReplenish (pumpFault : Bool) (s : State) : ItemsKept s (stopReplenish pumpFault s) := by
  unfold stopReplenish
  split
  · split
    · exact items_completeReplenish s
    · dsimp only
      refine ItemsKept.trans ?_ (items_evalAdmission _)
      split
      · exact ((ItemsKept.of_link (by simp)).trans (items_enterPending _)).trans (items_setFlag _ _)
      · exact (ItemsKept.of_link (by simp)).trans (items_enterPending _)
  · exact .refl s

theorem items_freshLowChange (active : Bool) (s : State) : ItemsKept s (freshLowChange active s) := by
  have entered := (items_enterPending s).trans (items_evalAdmission _)
  unfold freshLowChange
  split
  · split
    · exact entered
    · exact .refl s
  · split
    · exact .refl s
    · exact entered
  · exact .refl s

/-! ### The end of a segment -/

theorem items_addLampTime (ch : LampChannel) (samples : Nat) (s : State) : ItemsKept s (addLampTime ch samples s) := by
  have tested (v : State) : ItemsKept v (testLampLife v) := by
    unfold testLampLife
    split
    · exact items_setFlag _ v
    · exact .refl v
  have asked (v : State) : ItemsKept v (askCountersWrite v) := .of_link (by simp)
  unfold addLampTime
  exact ((ItemsKept.of_link (by simp)).trans (tested _)).trans (asked _)

theorem items_writeTrace (ch : LampChannel) (r : RunRecord) (s : State) : ItemsKept s (writeTrace ch r s) := by
  have suspended (v : State) :
      ItemsKept v (suspendRecording (modResult r.slot ch (fun x => { x with traceComplete := false }) v)) :=
    .of_link (by simp)
  unfold writeTrace
  split
  · split
    · dsimp only
      split
      · exact (ItemsKept.of_link (by simp)).trans (items_raiseAttn _ _)
      · exact .of_link (by simp)
    · exact ((ItemsKept.of_link (by simp)).trans (items_setFlag _ _)).trans (suspended _)
  · exact .of_link (by simp)

theorem items_endSegment (ch : LampChannel) (samples : Nat) (s : State) : ItemsKept s (endSegment ch samples s) := by
  have closed (v : State) : ItemsKept v (closeFinalWindow ch v) := by
    unfold closeFinalWindow
    split
    · split
      · exact items_writeTrace _ _ v
      · exact .refl v
    · exact .refl v
  unfold endSegment
  exact ((ItemsKept.of_link (by simp)).trans (closed _)).trans (items_addLampTime _ _ _)

theorem items_pauseSegment (ch : LampChannel) (s : State) : ItemsKept s (pauseSegment ch s) := by
  have paused : ItemsKept s (pauseChannel ch s) := by
    unfold pauseChannel
    split
    · next r _ =>
      have ended := (items_endSegment ch r.segSamples s).trans (.of_link
        (t := modPlate r.slot (fun p => { p with interruptions := satAdd 255 p.interruptions 1 })
          (endSegment ch r.segSamples s)) (by simp))
      dsimp only
      split
      · exact ended.trans (.of_link (by simp))
      · exact ended
    · exact .refl s
  unfold pauseSegment
  split
  · exact paused.trans (.of_link (by simp))
  · exact .refl s

/-! ### The exit -/

theorem items_completeHandoff (s : State) : ItemsKept s (completeHandoff s) := by
  have closed (k : Slot) (v : State) : ItemsKept v (closeDone k v) := by
    unfold closeDone
    split
    · exact .refl v
    · split
      · exact (ItemsKept.of_link (by simp)).trans (items_raiseAttn _ _)
      · exact .refl v
  have cleared (v : State) : ItemsKept v (testExitClear (modTrc (fun t => { t with plate := none }) v)) :=
    .of_link (by simp)
  unfold completeHandoff
  split
  · exact .refl s
  · exact ((ItemsKept.of_link (by simp)).trans (closed _ _)).trans (cleared _)

theorem items_stkBusyChange (active : Bool) (s : State) : ItemsKept s (stkBusyChange active s) := by
  unfold stkBusyChange
  split
  · split
    · split
      · exact items_completeHandoff s
      · exact .refl s
    · split
      · exact .of_link (by simp)
      · split
        · exact items_completeHandoff s
        · exact .refl s
    · exact .refl s
    · exact .refl s
  · exact .refl s

theorem items_stkTakenChange (active : Bool) (s : State) : ItemsKept s (stkTakenChange active s) := by
  have taken : ItemsKept s (setTaken s) := .of_link (by simp)
  unfold stkTakenChange
  split
  · dsimp only
    split
    · exact taken
    · exact taken.trans (items_completeHandoff _)
  · exact .refl s

theorem items_operatorTakeChange (active : Bool) (s : State) : ItemsKept s (operatorTakeChange active s) := by
  unfold operatorTakeChange
  split
  · exact items_completeHandoff s
  · exact .refl s

/-! ### The exposure unit -/

theorem items_exuLidChange (active : Bool) (s : State) : ItemsKept s (exuLidChange active s) := by
  have rollers : ItemsKept s (updateRollers s) := .of_link (by simp)
  unfold exuLidChange
  dsimp only
  split
  · exact rollers
  · exact rollers.trans (items_askExposure _)

theorem items_lidOpened (s : State) : ItemsKept s (lidOpened s) := by
  unfold lidOpened
  exact (((ItemsKept.of_link (by simp)).trans (items_pauseSegment _ _)).trans (items_pauseSegment _ _)).trans
    (items_exuLidChange _ _)

theorem items_exuPresentChange (active : Bool) (s : State) : ItemsKept s (exuPresentChange active s) := by
  have complete : ItemsKept s (loadComplete s) := by
    unfold loadComplete
    split
    · exact (ItemsKept.of_link (by simp)).trans (items_askExposure _)
    · exact .refl s
  unfold exuPresentChange
  split
  · split
    · exact complete
    · exact .refl s
  · split
    · split
      · exact .refl s
      · exact .of_link (by simp)
    · exact .of_link (by simp)
  · split
    · exact .refl s
    · exact .of_link (by simp)
  all_goals exact .refl s

/-! ### The inhibit -/

theorem items_inhibitOn (s : State) : ItemsKept s (inhibitOn s) := by
  have stopped (v : State) : ItemsKept v (stopLine v) := by
    unfold stopLine
    dsimp only
    split
    · exact (items_setFlag _ v).trans (items_changeLine _ _ _)
    · exact (items_setFlag _ v).trans (items_changeLine _ _ _)
    all_goals exact items_setFlag _ v
  have forced (v : State) (c : LampChannel) : ItemsKept v (pauseForced v c) := by
    unfold pauseForced
    split
    · exact items_pauseSegment c v
    · exact .refl v
  have off : ItemsKept s (forceAllOff s) := .of_link (by simp)
  have restarted (v : State) : ItemsKept v (restartHandoff (updateHalted v)) := .of_link (by simp)
  unfold inhibitOn ownersHearInhibit
  have paused := (off.trans (stopped _)).trans (.foldl forced lampChannels _)
  exact ((paused.trans (items_transportAnew _)).trans (items_stopReplenish _ _)).trans (restarted _)

theorem items_inhibitOff (s : State) : ItemsKept s (inhibitOff s) := by
  have line (v : State) : ItemsKept v (releaseLine v) := by
    unfold releaseLine
    split
    · exact items_changeLine _ _ v
    · exact .refl v
  have replenish (v : State) : ItemsKept v (tryReplenish v) := (goesOn_tryReplenish v).items
  have off : ItemsKept s (releaseAll s) := .of_link (by simp)
  have rollers (v : State) : ItemsKept v (updateRollers v) := .of_link (by simp)
  have others (v : State) :
      ItemsKept v (handoffGoesOn (updateHalted (tryRelease (updateOutfeed (testHeater v))))) := .of_link (by simp)
  unfold inhibitOff ownersHearRelease washoutGoesOn
  have released := (off.trans (line _)).trans (rollers _)
  exact ((released.trans (items_transportAnew _)).trans (replenish _)).trans (others _)

/-! ### Every change delivered -/

theorem items_deliver (fn : InputFunction) (active : Bool) (s : State) : ItemsKept s (deliver fn active s) := by
  unfold deliver
  cases fn with
  | inhibit =>
    dsimp only
    split
    · exact items_inhibitOn s
    · exact items_inhibitOff s
  | exuLid =>
    dsimp only
    split
    · exact items_lidOpened s
    · exact items_exuLidChange false s
  | exuPresent => exact items_exuPresentChange active s
  | intakePresent => exact .of_link (by simp)
  | lfnPresent => exact .of_link (by simp)
  | exitPresent => exact .of_link (by simp)
  | washExitPresent =>
    have sensed (v : State) : ItemsKept v (exitSensorChange active v) := .of_link (by simp)
    dsimp only
    split
    · exact sensed s
    · exact (items_testStallEnd s).trans (sensed _)
  | stkBusy => exact items_stkBusyChange active s
  | stkTaken => exact items_stkTakenChange active s
  | freshLow => exact items_freshLowChange active s
  | operatorTake => exact items_operatorTakeChange active s
  | none => exact .refl s

/-- The state with the carried input lines resettled, before the changes are delivered (R161). -/
def inputsResettled (lines : List (Fin 12)) (before s : State) : State := lines.foldl (resettleInput before) s

theorem applyInputs_eq (lines : List (Fin 12)) (before s : State) : applyInputs lines before s
    = deliverAll (changedFunctions before (inputsResettled lines before s)) (inputsResettled lines before s) := rfl

theorem items_deliverAll (l : List (InputFunction × Bool)) (s : State) : ItemsKept s (deliverAll l s) := by
  unfold deliverAll
  exact ItemsKept.foldl (f := fun v c => deliver c.1 c.2 v) (fun v c => items_deliver c.1 c.2 v) l s

theorem items_applyInputs (lines : List (Fin 12)) (before s : State) : ItemsKept s (applyInputs lines before s) := by
  have resettled : ItemsKept s (inputsResettled lines before s) := .of_link (by unfold inputsResettled; simp)
  rw [applyInputs_eq]
  exact ItemsKept.trans resettled (items_deliverAll _ _)

end Sys2Proof.Machine
end


section
/-! SUPPORT. CONFIG_WRITE: its groups as they are read, its ranges and checks, and what is stored (R35, R36, R195). -/
namespace Sys2Proof.Machine
variable {g : ConfigGroups} {cfg : LineConfig}

/-! ### Folds over lines -/

/-- A fold whose step for `a` changes one place of a table, as `val a` says, and keeps `P`. -/
theorem foldl_places {β α γ : Type} {n : Nat} {f : β → α → β} {get : β → Fin n → γ} {place : α → Fin n}
    {val : α → γ → γ} {P : β → Prop}
    (step : ∀ b a, P b → P (f b a) ∧ ∀ i, get (f b a) i = if i = place a then val a (get b i) else get b i)
    (l : List α) {b : β} (start : P b) :
    P (l.foldl f b) ∧ (∀ i, i ∉ l.map place → get (l.foldl f b) i = get b i)
      ∧ ((l.map place).Nodup → ∀ a ∈ l, get (l.foldl f b) (place a) = val a (get b (place a))) := by
  induction l generalizing b with
  | nil => exact ⟨start, fun _ _ => rfl, fun _ _ => by simp⟩
  | cons x l ih =>
    obtain ⟨kept, at_⟩ := step b x start
    obtain ⟨last, others, named⟩ := ih kept
    simp only [List.map_cons, List.mem_cons, not_or, List.nodup_cons, List.foldl_cons]
    refine ⟨last, fun i absent => ?_, fun apart a member => ?_⟩
    · rw [others i absent.2, at_, if_neg absent.1]
    · rcases member with rfl | member
      · rw [others _ apart.1, at_, if_pos rfl]
      · have differ : place a ≠ place x := fun same => apart.1 (same ▸ List.mem_map_of_mem member)
        rw [named apart.2 a member, at_, if_neg differ]

theorem lineIndex_eq_iff {n lines : Nat} {h : 0 < lines} (low : 1 ≤ n) (high : n ≤ lines) (i : Fin lines) :
    lineIndex n lines h = i ↔ n = i.val + 1 := by
  have small : (n - 1) % lines = n - 1 := Nat.mod_eq_of_lt (by omega)
  simp only [lineIndex, Fin.ext_iff, small]
  omega

theorem lines_apart {α : Type} {line : α → Nat} {lines : Nat} {h : 0 < lines} {l : List α}
    (range : ∀ x ∈ l, 1 ≤ line x ∧ line x ≤ lines) (apart : (l.map line).Nodup) :
    (l.map fun x => lineIndex (line x) lines h).Nodup := by
  refine List.pairwise_map.2 ((List.pairwise_map.1 apart).imp_of_mem fun {x y} hx hy differ same => differ ?_)
  obtain ⟨lowX, highX⟩ := range x hx
  obtain ⟨lowY, highY⟩ := range y hy
  have own := (lineIndex_eq_iff (h := h) lowY highY _).1 rfl
  have other := (lineIndex_eq_iff lowX highX _).1 same
  omega

/-! ### How the bytes are read (R195) -/

theorem atPlace_eq {α : Type} (l : List α) (n : Nat) : atPlace l n = if n = 0 then none else l[n - 1]? := by
  cases n with
  | zero => rfl
  | succ n => rfl

theorem groups_read (a b c d e : Byte) :
    inputGroupAt [a, b, c, d] = ⟨a.toNat, (if b.toNat = 0 then none else allInputFunctions[b.toNat - 1]?),
      boolOf c, d.toNat⟩
    ∧ outputGroupAt [a, b, c, d, e] = ⟨a.toNat, (if b.toNat = 0 then none else outputSources[b.toNat - 1]?), boolOf c,
        d.toNat * 256 + e.toNat⟩ := by
  simp [inputGroupAt, outputGroupAt, at1, at2, num2, atPlace_eq]

/-! ### The ranges (R36, check 1) -/

theorem linesOk_iff (n : Nat) (l : List Nat) : linesOk n l = true ↔ 1 ≤ l.length ∧ l.length ≤ n ∧ l.Nodup
    ∧ ∀ x ∈ l, 1 ≤ x ∧ x ≤ n := by
  simp only [linesOk, Bool.and_eq_true, decide_eq_true_eq, List.all_eq_true]
  tauto

/-- The ranges of the groups of input lines and of output lines. -/
def InputsOk (l : List InputGroup) : Prop := 1 ≤ l.length ∧ l.length ≤ 12 ∧ (l.map (·.line)).Nodup
  ∧ ∀ x ∈ l, 1 ≤ x.line ∧ x.line ≤ 12 ∧ x.function ≠ none ∧ x.invert ≠ none
def OutputsOk (l : List OutputGroup) : Prop := 1 ≤ l.length ∧ l.length ≤ 8 ∧ (l.map (·.line)).Nodup
  ∧ ∀ x ∈ l, 1 ≤ x.line ∧ x.line ≤ 8 ∧ x.source ≠ none ∧ x.invert ≠ none

theorem inputsOk_iff (l : List InputGroup) :
    linesOk 12 (l.map (·.line)) = true ∧ l.all (fun x => x.function.isSome && x.invert.isSome) = true ↔ InputsOk l := by
  simp only [Bool.and_eq_true, linesOk_iff, List.length_map, List.forall_mem_map, List.all_eq_true, InputsOk,
    Option.isSome_iff_ne_none]
  constructor
  · rintro ⟨⟨low, high, apart, range⟩, read⟩
    exact ⟨low, high, apart, fun x hx => ⟨(range x hx).1, (range x hx).2, read x hx⟩⟩
  · rintro ⟨low, high, apart, ok⟩
    exact ⟨⟨low, high, apart, fun x hx => ⟨(ok x hx).1, (ok x hx).2.1⟩⟩, fun x hx => (ok x hx).2.2⟩

theorem outputsOk_iff (l : List OutputGroup) :
    linesOk 8 (l.map (·.line)) = true ∧ l.all (fun x => x.source.isSome && x.invert.isSome) = true ↔ OutputsOk l := by
  simp only [Bool.and_eq_true, linesOk_iff, List.length_map, List.forall_mem_map, List.all_eq_true, OutputsOk,
    Option.isSome_iff_ne_none]
  constructor
  · rintro ⟨⟨low, high, apart, range⟩, read⟩
    exact ⟨low, high, apart, fun x hx => ⟨(range x hx).1, (range x hx).2, read x hx⟩⟩
  · rintro ⟨low, high, apart, ok⟩
    exact ⟨⟨low, high, apart, fun x hx => ⟨(ok x hx).1, (ok x hx).2.1⟩⟩, fun x hx => (ok x hx).2.2⟩

theorem attnSetOf_ne_none (b : Byte) : attnSetOf b ≠ none ↔ b.toNat < 64 := by
  rcases Nat.lt_or_ge b.toNat 64 with low | high
  · simp [attnSetOf_eq_some low, low]
  · simp [attnSetOf_eq_none high, high]

theorem configInRange_iff (p : Byte) : configInRange p g = true ↔ 1 ≤ p.toNat ∧ p.toNat < 32
    ∧ (∀ l, g.inputs = some l → InputsOk l) ∧ (∀ l, g.outputs = some l → OutputsOk l)
    ∧ (∀ x, g.exit = some x → x.mode ≠ none ∧ x.pushFirst ≠ none) ∧ (∀ b, g.attention = some b → b.toNat < 64) := by
  have positive : p ≠ 0#8 ↔ 1 ≤ p.toNat := by
    rw [ne_eq, byte_eq_iff p 0 (by decide)]
    omega
  simp only [configInRange, presenceUnknown, bne_iff_ne, positive, Bool.not_eq_true', decide_eq_false_iff_not, not_le,
    Option.all_eq_true, inputsOk_iff, outputsOk_iff, attnSetOf_ne_none, Bool.and_eq_true, Option.isSome_iff_ne_none,
    and_assoc]
  rfl

/-! ### The checks on the whole record (R35) -/

/-- A function has one line at most when it names at most one. -/
theorem linesWith_le_one (fn : InputFunction) : linesWith cfg fn ≤ 1 ↔
    ∀ i j : Fin 12, cfg.inputs[i.val].function = fn → cfg.inputs[j.val].function = fn → i = j := by
  have once : (allInputs.filter (fun i => cfg.inputs[i.val].function == fn)).Nodup :=
    (List.nodup_finRange 12).filter _
  have member (i : Fin 12) : i ∈ allInputs.filter (fun i => cfg.inputs[i.val].function == fn)
      ↔ cfg.inputs[i.val].function = fn := by simp [allInputs]
  unfold linesWith
  rw [← List.toFinset_card_of_nodup once, Finset.card_le_one]
  simp only [List.mem_toFinset, member]
  exact ⟨fun h i j hi hj => h i hi j hj, fun h i hi j hj => h i j hi hj⟩

theorem configConsistent_iff : configConsistent cfg = true ↔ cfg.inputs[0].function = .inhibit
    ∧ cfg.inputs[0].debounce = 10 ∧ ∀ i j : Fin 12, cfg.inputs[i.val].function = cfg.inputs[j.val].function →
        cfg.inputs[i.val].function ≠ .none → i = j := by
  have carried (fn : InputFunction) : fn ∈ inputFunctions ↔ fn ≠ .none := by cases fn <;> simp [inputFunctions]
  simp only [configConsistent, Bool.and_eq_true, beq_iff_eq, List.all_eq_true, decide_eq_true_eq, carried,
    linesWith_le_one, and_assoc]
  refine and_congr_right fun _ => and_congr_right fun _ => ⟨fun once i j same some => ?_, fun once fn some i j hi hj => ?_⟩
  · exact once _ some i j rfl same.symm
  · exact once i j (hi.trans hj.symm) (hi ▸ some)

/-! ### What is stored (R35) -/

theorem storeInput_at (c : LineConfig) (x : InputGroup) (i : Fin 12) : (storeInput c x).inputs[i.val]
    = if i = lineIndex x.line 12 (by decide) then inputCfgOf x else c.inputs[i.val] := by
  simp only [storeInput, Vector.getElem_set, Fin.ext_iff, eq_comm]

theorem storeOutput_at (c : LineConfig) (x : OutputGroup) (i : Fin 8) : (storeOutput c x).outputs[i.val]
    = if i = lineIndex x.line 8 (by decide) then outputCfgOf x else c.outputs[i.val] := by
  simp only [storeOutput, Vector.getElem_set, Fin.ext_iff, eq_comm]

theorem storeConfig_inputs (g : ConfigGroups) (cfg : LineConfig) :
    (∀ i, i ∉ carriedInputs g → (storeConfig g cfg).inputs[i.val] = cfg.inputs[i.val])
    ∧ ((carriedInputs g).Nodup → ∀ x ∈ g.inputs.getD [],
        (storeConfig g cfg).inputs[(lineIndex x.line 12 (by decide)).val] = inputCfgOf x) := by
  obtain ⟨-, others, named⟩ := foldl_places (f := storeInput) (get := fun c i => c.inputs[i.val])
    (place := fun x => lineIndex x.line 12 (by decide)) (val := fun x _ => inputCfgOf x) (P := fun _ => True)
    (fun c x _ => ⟨trivial, storeInput_at c x⟩) (g.inputs.getD []) (b := cfg) trivial
  have kept (l : List OutputGroup) (c : LineConfig) : (l.foldl storeOutput c).inputs = c.inputs := by
    induction l generalizing c with
    | nil => rfl
    | cons x l ih => exact ih _
  have eq : (storeConfig g cfg).inputs = ((g.inputs.getD []).foldl storeInput cfg).inputs := kept _ _
  simp only [eq]
  exact ⟨others, named⟩

theorem storeConfig_outputs (g : ConfigGroups) (cfg : LineConfig) :
    (∀ i, i ∉ carriedOutputs g → (storeConfig g cfg).outputs[i.val] = cfg.outputs[i.val])
    ∧ ((carriedOutputs g).Nodup → ∀ x ∈ g.outputs.getD [],
        (storeConfig g cfg).outputs[(lineIndex x.line 8 (by decide)).val] = outputCfgOf x) := by
  have kept (l : List InputGroup) (c : LineConfig) : (l.foldl storeInput c).outputs = c.outputs := by
    induction l generalizing c with
    | nil => rfl
    | cons x l ih => exact ih _
  obtain ⟨-, others, named⟩ := foldl_places (f := storeOutput) (get := fun c i => c.outputs[i.val])
    (place := fun x => lineIndex x.line 8 (by decide)) (val := fun x _ => outputCfgOf x) (P := fun _ => True)
    (fun c x _ => ⟨trivial, storeOutput_at c x⟩) (g.outputs.getD []) (b := (g.inputs.getD []).foldl storeInput cfg)
    trivial
  simp only [kept] at others
  exact ⟨others, named⟩

theorem storeConfig_exit {x : ExitGroup} {mode : HandoffMode} {pushFirst : Bool} (exit : g.exit = some x)
    (modeIs : x.mode = some mode) (pushIs : x.pushFirst = some pushFirst) : (storeConfig g cfg).exit
      = ⟨mode, pushFirst, min x.setupDelay 5000, max 2 (min x.timedDwell 60), max 10 (min x.handoffTimeout 600)⟩ := by
  simp [storeConfig, exit, exitCfgOf, modeIs, pushIs, clampNat_eq]

theorem carried_nodup {p : Byte} (range : configInRange p g = true) : (carriedInputs g).Nodup ∧ (carriedOutputs g).Nodup := by
  obtain ⟨-, -, inputs, outputs, -⟩ := (configInRange_iff p).1 range
  constructor
  · unfold carriedInputs
    cases carried : g.inputs with
    | none => exact List.nodup_nil
    | some l =>
      obtain ⟨-, -, apart, ok⟩ := inputs l carried
      exact lines_apart (fun x hx => ⟨(ok x hx).1, (ok x hx).2.1⟩) apart
  · unfold carriedOutputs
    cases carried : g.outputs with
    | none => exact List.nodup_nil
    | some l =>
      obtain ⟨-, -, apart, ok⟩ := outputs l carried
      exact lines_apart (fun x hx => ⟨(ok x hx).1, (ok x hx).2.1⟩) apart

/-- The lines that the groups in range name, and those they leave. -/
theorem storeConfig_lines {p : Byte} (range : configInRange p g = true) (cfg : LineConfig) :
    (∀ l x fn inv, g.inputs = some l → x ∈ l → x.function = some fn → x.invert = some inv →
      ∀ i : Fin 12, x.line = i.val + 1 → (storeConfig g cfg).inputs[i.val] = ⟨fn, inv, x.debounce⟩)
    ∧ (∀ i : Fin 12, (∀ l, g.inputs = some l → ∀ x ∈ l, x.line ≠ i.val + 1) →
        (storeConfig g cfg).inputs[i.val] = cfg.inputs[i.val] ∧ i ∉ carriedInputs g)
    ∧ (∀ l x src inv, g.outputs = some l → x ∈ l → x.source = some src → x.invert = some inv →
      ∀ i : Fin 8, x.line = i.val + 1 → (storeConfig g cfg).outputs[i.val] = ⟨src, inv, min x.minPulse 2000⟩)
    ∧ (∀ i : Fin 8, (∀ l, g.outputs = some l → ∀ x ∈ l, x.line ≠ i.val + 1) →
        (storeConfig g cfg).outputs[i.val] = cfg.outputs[i.val] ∧ i ∉ carriedOutputs g) := by
  obtain ⟨inputsApart, outputsApart⟩ := carried_nodup range
  obtain ⟨-, -, inputsOk, outputsOk, -⟩ := (configInRange_iff p).1 range
  obtain ⟨inputsKept, inputsStored⟩ := storeConfig_inputs g cfg
  obtain ⟨outputsKept, outputsStored⟩ := storeConfig_outputs g cfg
  refine ⟨?_, ?_, ?_, ?_⟩
  · intro l x fn inv carried member function invert i line
    obtain ⟨-, -, -, ok⟩ := inputsOk l carried
    have place := (lineIndex_eq_iff (h := by decide) (ok x member).1 (ok x member).2.1 i).2 line
    have stored := inputsStored inputsApart x (by simpa [carried] using member)
    simpa only [place, inputCfgOf, function, invert, Option.getD_some] using stored
  · intro i unnamed
    have absent : i ∉ carriedInputs g := by
      unfold carriedInputs
      cases carried : g.inputs with
      | none => simp
      | some l =>
        obtain ⟨-, -, -, ok⟩ := inputsOk l carried
        rintro named
        obtain ⟨x, member, place⟩ := List.mem_map.1 named
        exact unnamed l carried x member ((lineIndex_eq_iff (ok x member).1 (ok x member).2.1 i).1 place)
    exact ⟨inputsKept i absent, absent⟩
  · intro l x src inv carried member source invert i line
    obtain ⟨-, -, -, ok⟩ := outputsOk l carried
    have place := (lineIndex_eq_iff (h := by decide) (ok x member).1 (ok x member).2.1 i).2 line
    have stored := outputsStored outputsApart x (by simpa [carried] using member)
    simpa only [place, outputCfgOf, source, invert, Option.getD_some, clampNat_eq, Nat.zero_le, max_eq_right] using stored
  · intro i unnamed
    have absent : i ∉ carriedOutputs g := by
      unfold carriedOutputs
      cases carried : g.outputs with
      | none => simp
      | some l =>
        obtain ⟨-, -, -, ok⟩ := outputsOk l carried
        rintro named
        obtain ⟨x, member, place⟩ := List.mem_map.1 named
        exact unnamed l carried x member ((lineIndex_eq_iff (ok x member).1 (ok x member).2.1 i).1 place)
    exact ⟨outputsKept i absent, absent⟩

end Sys2Proof.Machine
end


section
/-! SUPPORT. What an accepted CONFIG_WRITE makes of the lines, the watchdog and the ATTENTION mark (R36, R161, R163). -/
namespace Sys2Proof.Machine
variable {s t : State} {g : ConfigGroups}

/-! ### The line state -/

theorem running_deliver (fn : InputFunction) (active : Bool) (running : s.flt.lineState ≠ .init) :
    (deliver fn active s).flt.lineState ≠ .init := by
  by_cases own : fn = .inhibit
  · subst own
    unfold deliver
    dsimp only
    split
    · rw [inhibitOn_line, if_neg running]
      simp
    · rw [inhibitOff_line]
      split
      · simp
      · exact running
  · rw [(lineStays_deliver own s).line]
    exact running

theorem running_deliverAll (l : List (InputFunction × Bool)) (running : s.flt.lineState ≠ .init) :
    (deliverAll l s).flt.lineState ≠ .init := by
  induction l generalizing s with
  | nil => exact running
  | cons c l ih => exact ih (s := deliver c.1 c.2 s) (running_deliver _ _ running)

/-! ### The output lines settled (R163) -/

/-- What a carried output line becomes. -/
def resettledOutput (s : State) (c : OutputCfg) (o : OutputLine) : OutputLine :=
  ⟨o.user, wantedState s c o.user, if wantedState s c o.user = o.driven ∨ c.minPulse = 0 then none else some 0⟩

theorem settledOutput_resettled (c : OutputCfg) (o : OutputLine) :
    settledOutput s c { o with hold := none } = resettledOutput s c o := by
  unfold settledOutput resettledOutput
  dsimp only
  by_cases same : wantedState s c o.user = o.driven
  · simp [same]
  · simp [same]

theorem wantedState_onlyOutputs {x : State} (h : OnlyOutputs s x) (c : OutputCfg) (user : Bool) :
    wantedState x c user = wantedState s c user := by
  rw [h]
  rfl

theorem outputAt_resettleOutput {x : State} (h : OnlyOutputs s x) (running : s.flt.lineState ≠ .init) (i j : Fin 8) :
    outputAt (resettleOutput x i) j = if j = i then resettledOutput s (outputCfg s i) (outputAt x j) else outputAt x j := by
  have runningX : x.flt.lineState ≠ .init := by
    rw [h]
    exact running
  have cfg (v : OutputLine) : outputCfg (setOutput i v x) i = outputCfg s i := by
    rw [h]
    rfl
  rw [resettleOutput, if_neg runningX, refreshOutput, outputAt_setOutput, outputAt_setOutput, outputAt_setOutput, cfg]
  split
  next own =>
    rw [if_pos rfl, settledOutput_resettled, own, resettledOutput, resettledOutput,
      wantedState_onlyOutputs (h.setOutput _ _)]
  next => rfl

theorem OnlyOutputs.resettleOutput {x : State} (h : OnlyOutputs s x) (i : Fin 8) : OnlyOutputs s (resettleOutput x i) := by
  unfold Machine.resettleOutput
  split
  · exact h
  · exact (h.setOutput _ _).setOutput _ _

theorem outputsSettled_only (g : ConfigGroups) (s : State) : OnlyOutputs (configStored g s) (outputsSettled g s) := by
  unfold outputsSettled
  generalize carriedOutputs g = l
  have folded (x : State) (h : OnlyOutputs (configStored g s) x) :
      OnlyOutputs (configStored g s) (l.foldl Machine.resettleOutput x) := by
    induction l generalizing x with
    | nil => exact h
    | cons i l ih => exact ih _ (h.resettleOutput i)
  exact folded _ rfl

theorem outputsSettled_lines (running : s.flt.lineState ≠ .init) (apart : (carriedOutputs g).Nodup) :
    (∀ i ∈ carriedOutputs g, outputAt (outputsSettled g s) i
      = resettledOutput s ((storeConfig g s.rss.working.cfg).outputs[i.val]) (outputAt s i))
    ∧ (∀ i, i ∉ carriedOutputs g → outputAt (outputsSettled g s) i = outputAt s i) := by
  have folded := foldl_places (f := resettleOutput) (get := outputAt) (place := fun i : Fin 8 => i)
    (val := fun i o => resettledOutput (configStored g s) (outputCfg (configStored g s) i) o)
    (P := OnlyOutputs (configStored g s))
    (fun x i h => ⟨h.resettleOutput i, fun j => by
      rw [outputAt_resettleOutput h running]⟩) (carriedOutputs g) (b := configStored g s) rfl
  simp only [List.map_id'] at folded
  obtain ⟨-, others, named⟩ := folded
  exact ⟨fun i member => named apart i member, others⟩

theorem outputsSettled_none (none : g.outputs = none) : outputsSettled g s = configStored g s := by
  unfold outputsSettled carriedOutputs
  rw [none]
  rfl

/-! ### The input lines settled (R161) -/

/-- What a carried input line becomes. -/
def resettledInput (before after : InputCfg) (o : InputLine) : InputLine :=
  ⟨o.raw, if after.function = before.function ∧ after.invert = before.invert then o.active else o.raw != after.invert,
    none⟩

theorem inputAt_resettleInput (before x : State) (i j : Fin 12) : inputAt (resettleInput before x i) j
    = if j = i then resettledInput (inputCfg before i) (inputCfg x i) (inputAt x j) else inputAt x j := by
  rw [resettleInput, inputAt_setInput]
  split
  next own =>
    rw [own, resettledInput]
    have same : sameWiring (inputCfg before i) (inputCfg x i) = true
        ↔ (inputCfg x i).function = (inputCfg before i).function ∧ (inputCfg x i).invert = (inputCfg before i).invert := by
      simp only [sameWiring, Bool.and_eq_true, beq_iff_eq, eq_comm (a := (inputCfg before i).function),
        eq_comm (a := (inputCfg before i).invert)]
    by_cases h : sameWiring (inputCfg before i) (inputCfg x i) = true
    · rw [if_pos h, if_pos (same.1 h)]
    · rw [if_neg h, if_neg (same.not.1 h)]
      rfl
  next => rfl

theorem inputsResettled_lines {before x : State} {l : List (Fin 12)} (apart : l.Nodup) :
    (∀ i ∈ l, inputAt (inputsResettled l before x) i = resettledInput (inputCfg before i) (inputCfg x i) (inputAt x i))
    ∧ (∀ i, i ∉ l → inputAt (inputsResettled l before x) i = inputAt x i) := by
  have folded := foldl_places (f := resettleInput before) (get := inputAt) (place := fun i : Fin 12 => i)
    (val := fun i o => resettledInput (inputCfg before i) (inputCfg x i) o) (P := fun v => v.rss = x.rss)
    (fun v i h => ⟨by simpa using h, fun j => by
      have cfg : inputCfg v i = inputCfg x i := by rw [inputCfg, h]; rfl
      rw [inputAt_resettleInput, cfg]⟩) l (b := x) rfl
  simp only [List.map_id'] at folded
  obtain ⟨-, others, named⟩ := folded
  exact ⟨fun i member => named apart i member, others⟩

theorem inputAt_applyInputs (l : List (Fin 12)) (before x : State) (i : Fin 12) :
    inputAt (applyInputs l before x) i = inputAt (inputsResettled l before x) i := by
  have delivered (m : List (InputFunction × Bool)) (v : State) : (deliverAll m v).lio.inputs = v.lio.inputs := by
    unfold deliverAll
    simp
  rw [applyInputs_eq, inputAt, delivered]
  rfl

theorem running_applyInputs (l : List (Fin 12)) (before : State) (running : s.flt.lineState ≠ .init) :
    (applyInputs l before s).flt.lineState ≠ .init := by
  have resettled : (inputsResettled l before s).flt.lineState ≠ .init := by
    unfold inputsResettled
    simpa using running
  rw [applyInputs_eq]
  exact running_deliverAll _ resettled

/-- With no line carried no function changes. -/
theorem applyInputs_nil {before : State} (senses : ∀ fn, inputActive fn s = inputActive fn before) :
    applyInputs [] before s = s := by
  have changes : changedFunctions before s = [] := by simp [changedFunctions, senses]
  show deliverAll (changedFunctions before s) s = s
  rw [changes]
  rfl

/-! ### The record handed on (R36) -/

theorem announceEnabled_mark {old new : AttnSet} {a : AttnItem} (now : attnHas new a = true) (was : attnHas old a = false)
    (pending : attnHas s.lnk.attnPending a = true) : (announceEnabled old new s).lnk.attnMark = true := by
  have some : ¬ new &&& ~~~old &&& s.lnk.attnPending = 0#6 := fun empty => by
    have bit : attnHas (new &&& ~~~old &&& s.lnk.attnPending) a = attnHas 0#6 a := by rw [empty]
    have small : a.place < 6 := by cases a <;> decide
    unfold attnHas at now was pending bit
    rw [BitVec.getLsbD_and, BitVec.getLsbD_and, BitVec.getLsbD_not, now, was, pending, decide_eq_true small] at bit
    simp at bit
  rw [announceEnabled, if_neg some]
  rfl

/-- The state in which the carried lines have been settled, before the watchdog and the attention set are handed on. -/
def linesSettled (g : ConfigGroups) (s : State) : State := applyInputs (carriedInputs g) s (outputsSettled g s)

theorem applyConfig_linesSettled (g : ConfigGroups) (s : State) : applyConfig g s
    = announceEnabled (attnEnabled s) (storeConfig g s.rss.working.cfg).attention (handWatchdog g (linesSettled g s)) := rfl

theorem applyConfig_store (g : ConfigGroups) (s : State) : (applyConfig g s).rss.unsaved = true
    ∧ (applyConfig g s).rss.working = { s.rss.working with cfg := storeConfig g s.rss.working.cfg }
    ∧ (applyConfig g s).rss.bankA = s.rss.bankA ∧ (applyConfig g s).rss.bankB = s.rss.bankB := by
  have settled : (outputsSettled g s).rss = (configStored g s).rss := (outputsSettled_only g s).rss
  rw [applyConfig_linesSettled]
  simp only [announceEnabled_frame, handWatchdog_frame, linesSettled, applyInputs_frame, settled]
  exact ⟨rfl, rfl, rfl, rfl⟩

theorem applyConfig_watchdog (g : ConfigGroups) (s : State) :
    (g.watchdog = some 0 → (applyConfig g s).lnk.watchdog = none)
    ∧ (g.watchdog ≠ some 0 → (applyConfig g s).lnk.watchdog = s.lnk.watchdog) := by
  have settled : (linesSettled g s).lnk.watchdog = s.lnk.watchdog := by
    have outputs : (outputsSettled g s).lnk = s.lnk := by
      rw [outputsSettled_only g s]
      rfl
    simp only [linesSettled, applyInputs_frame, outputs]
  rw [applyConfig_linesSettled]
  simp only [announceEnabled_frame]
  constructor
  · intro off
    rw [handWatchdog, if_pos off]
    rfl
  · intro on
    rw [handWatchdog, if_neg on, settled]

theorem applyConfig_mark {a : AttnItem} (now : attnHas (storeConfig g s.rss.working.cfg).attention a = true)
    (was : attnHas s.rss.working.cfg.attention a = false) (pending : attnHas s.lnk.attnPending a = true) :
    (applyConfig g s).lnk.attnMark = true := by
  have outputs : ItemsKept s (outputsSettled g s) := .of_link (by
    rw [outputsSettled_only g s]
    rfl)
  have settled := (outputs.trans (items_applyInputs (carriedInputs g) s _)) a pending
  have handed : (handWatchdog g (linesSettled g s)).lnk.attnPending = (linesSettled g s).lnk.attnPending := by
    unfold handWatchdog
    split
    · rfl
    · rfl
  rw [applyConfig_linesSettled]
  refine announceEnabled_mark now was ?_
  rw [handed]
  exact settled

theorem applyConfig_lio (g : ConfigGroups) (s : State) : (applyConfig g s).lio = (linesSettled g s).lio := by
  simp [applyConfig_linesSettled]

theorem applyConfig_inputs (apart : (carriedInputs g).Nodup) :
    (∀ i ∈ carriedInputs g, inputAt (applyConfig g s) i
      = resettledInput (inputCfg s i) ((storeConfig g s.rss.working.cfg).inputs[i.val]) (inputAt s i))
    ∧ (∀ i, i ∉ carriedInputs g → inputAt (applyConfig g s) i = inputAt s i) := by
  have at_ (i : Fin 12) : inputAt (applyConfig g s) i
      = inputAt (inputsResettled (carriedInputs g) s (outputsSettled g s)) i := by
    rw [← inputAt_applyInputs, inputAt, applyConfig_lio]
    rfl
  have inputs : inputAt (outputsSettled g s) = inputAt s := by
    rw [outputsSettled_only g s]
    rfl
  have cfg (i : Fin 12) : inputCfg (outputsSettled g s) i = (storeConfig g s.rss.working.cfg).inputs[i.val] := by
    rw [outputsSettled_only g s]
    rfl
  obtain ⟨named, others⟩ := inputsResettled_lines (before := s) (x := outputsSettled g s) apart
  refine ⟨fun i member => ?_, fun i absent => ?_⟩
  · rw [at_, named i member, inputs, cfg]
  · rw [at_, others i absent, inputs]

theorem running_applyConfig (g : ConfigGroups) (running : s.flt.lineState ≠ .init) :
    (applyConfig g s).flt.lineState ≠ .init := by
  have outputs : (outputsSettled g s).flt.lineState ≠ .init := by
    rw [outputsSettled_only g s]
    exact running
  have settled : (linesSettled g s).flt.lineState ≠ .init := running_applyInputs _ _ outputs
  rw [applyConfig_linesSettled]
  simpa only [announceEnabled_frame, handWatchdog_frame] using settled

/-- Without a group of input lines nothing is delivered. -/
theorem linesSettled_no_inputs (none : g.inputs = none) : linesSettled g s = outputsSettled g s := by
  have kept : (storeConfig g s.rss.working.cfg).inputs = s.rss.working.cfg.inputs := by
    have absent (i : Fin 12) : i ∉ carriedInputs g := by simp [carriedInputs, none]
    refine Vector.ext fun i small => (storeConfig_inputs g s.rss.working.cfg).1 ⟨i, small⟩ (absent _)
  have senses (fn : InputFunction) : inputActive fn (outputsSettled g s) = inputActive fn s := by
    rw [outputsSettled_only g s]
    unfold inputActive inputCfg inputAt
    show allInputs.any (fun i => ((storeConfig g s.rss.working.cfg).inputs[i.val]).function == fn
      && (s.lio.inputs[i.val]).active) = _
    rw [kept]
  have nil : carriedInputs g = [] := by simp [carriedInputs, none]
  rw [linesSettled, nil, applyInputs_nil senses]

end Sys2Proof.Machine
end


section
/-! SUPPORT. The settlement of CONFIG_WRITE (R35, R36, R161). -/
namespace Sys2Proof.Machine
variable {s : State} {g : ConfigGroups}

theorem wantedState_serving (e : RxEntry) (c : OutputCfg) (user : Bool) :
    wantedState (serving e s) c user = wantedState s c user := rfl

/-- An accepted write that carries no input line leaves the stations; its output lines are settled (R163). -/
theorem applyConfig_no_inputs (none : g.inputs = none) : (applyConfig g s).ptb = s.ptb ∧ (applyConfig g s).din = s.din
    ∧ (applyConfig g s).exu = s.exu ∧ (applyConfig g s).wou = s.wou ∧ (applyConfig g s).dry = s.dry
    ∧ (applyConfig g s).lfn = s.lfn ∧ (applyConfig g s).trc = s.trc ∧ (applyConfig g s).flt = s.flt
    ∧ (applyConfig g s).lio = { s.lio with outputs := (outputsSettled g s).lio.outputs } := by
  rw [applyConfig_linesSettled, linesSettled_no_inputs none]
  simp only [announceEnabled_frame, handWatchdog_frame]
  rw [outputsSettled_only g s]
  exact ⟨rfl, rfl, rfl, rfl, rfl, rfl, rfl, rfl, rfl⟩

theorem applyConfig_outputs (none : g.inputs = none) (running : s.flt.lineState ≠ .init)
    (apart : (carriedOutputs g).Nodup) :
    (∀ i ∈ carriedOutputs g, outputAt (applyConfig g s) i
      = resettledOutput s ((storeConfig g s.rss.working.cfg).outputs[i.val]) (outputAt s i))
    ∧ (∀ i, i ∉ carriedOutputs g → outputAt (applyConfig g s) i = outputAt s i) := by
  obtain ⟨-, -, -, -, -, -, -, -, lio⟩ := applyConfig_no_inputs (s := s) none
  have at_ (i : Fin 8) : outputAt (applyConfig g s) i = outputAt (outputsSettled g s) i := by
    rw [outputAt, lio]
    rfl
  simp only [at_]
  exact outputsSettled_lines running apart

/-- What the groups store besides the lines (R35). -/
theorem storeConfig_groups (g : ConfigGroups) (cfg : LineConfig) :
    (∀ x mode pushFirst, g.exit = some x → x.mode = some mode → x.pushFirst = some pushFirst →
      (storeConfig g cfg).exit = ⟨mode, pushFirst, min x.setupDelay 5000, max 2 (min x.timedDwell 60),
        max 10 (min x.handoffTimeout 600)⟩)
    ∧ (g.exit = none → (storeConfig g cfg).exit = cfg.exit)
    ∧ (∀ n, g.watchdog = some n → (storeConfig g cfg).watchdog = if n = 0 then 0 else max 10 (min n 600))
    ∧ (g.watchdog = none → (storeConfig g cfg).watchdog = cfg.watchdog)
    ∧ (∀ b : Byte, g.attention = some b → b.toNat < 64 → (storeConfig g cfg).attention = b.setWidth 6)
    ∧ (g.attention = none → (storeConfig g cfg).attention = cfg.attention) := by
  refine ⟨fun x mode pushFirst => storeConfig_exit, ?_, ?_, ?_, ?_, ?_⟩
  · intro none
    simp [storeConfig, none]
  · intro n watchdog
    simp [storeConfig, watchdog, clampWatchdog, clampNat_eq]
  · intro none
    simp [storeConfig, none]
  · intro b attention low
    simp [storeConfig, attention, attnSetOf_eq_some low]
  · intro none
    simp [storeConfig, none]

/-- Settles O37: the checks are `configInRange_iff` and `configConsistent_iff`; what an accepted write leaves is said of
`applyConfig`, part by part. -/
theorem configWrite : Obligations.ConfigWrite := by
  unfold Obligations.ConfigWrite
  refine ⟨?_, ?_, ?_, ?_⟩
  · intro tag p rest g s parsed fits long ready accepted
    have bodyOk : bodyFits ⟨53#8, tag, p :: rest⟩ = true := fits
    obtain ⟨u, uEq⟩ : ∃ u, u = serving (.frame ⟨53#8, tag, p :: rest⟩) s := ⟨_, rfl⟩
    have part : actConfigWrite (p :: rest) u = actConfigGroups p g u := by rw [← parsed]; rfl
    have rssU : u.rss = s.rss := by rw [uEq]; rfl
    have taken : (configInRange p g && configConsistent (storeConfig g u.rss.working.cfg)) = true ↔ accepted := by
      rw [Bool.and_eq_true, rssU]
    refine ⟨fun refused => ?_, fun ok => ?_⟩
    · have same : actConfigWrite (p :: rest) u = (u, refusal .badField) :=
        part.trans (if_neg (taken.not.2 refused))
      rw [uEq] at same
      exact request_answered same long bodyOk ready
    · have done : actConfigWrite (p :: rest) (serving (.frame ⟨53#8, tag, p :: rest⟩) s)
          = (applyConfig g u, okOrClamped (configClamped g) (configGroupFields p g (applyConfig g u))) := by
        rw [← uEq]
        exact part.trans (if_pos (taken.2 ok))
      have runningU : u.flt.lineState ≠ .init := by rw [uEq]; exact ready.2.1
      have run := request_served done (running_applyConfig g runningU) long bodyOk ready
      obtain ⟨unsaved, working, bankA, bankB⟩ := applyConfig_store g u
      obtain ⟨watchdogOff, watchdogOn⟩ := applyConfig_watchdog g u
      obtain ⟨inputsApart, outputsApart⟩ := carried_nodup ok.1
      obtain ⟨inputs, otherInputs⟩ := applyConfig_inputs (s := u) inputsApart
      have cfg : (applyConfig g u).rss.working.cfg = storeConfig g u.rss.working.cfg := congrArg (·.cfg) working
      have lnkU : u.lnk.watchdog = s.lnk.watchdog ∧ u.lnk.attnPending = s.lnk.attnPending := by rw [uEq]; exact ⟨rfl, rfl⟩
      have lioU : u.lio = s.lio := by rw [uEq]; rfl
      refine ⟨_, run, unsaved, working.trans (by rw [rssU]), bankA.trans (by rw [rssU]), bankB.trans (by rw [rssU]),
        ?_, ?_, watchdogOff, fun on => (watchdogOn on).trans lnkU.1, ?_, ?_⟩
      · intro i member
        refine (inputs i member).trans ?_
        rw [← cfg]
        show resettledInput (inputCfg u i) (inputCfg (applyConfig g u) i) (inputAt u i) = _
        rw [inputCfg, inputAt, rssU, lioU]
        rfl
      · intro i absent
        refine (otherInputs i absent).trans ?_
        rw [inputAt, lioU]
        rfl
      · intro a now was pending
        refine applyConfig_mark (s := u) (a := a) ?_ ?_ ?_
        · rw [← cfg]
          exact now
        · rw [rssU]
          exact was
        · rw [lnkU.2]
          exact pending
      · intro none
        obtain ⟨ptb, din, exu, wou, dry, lfn, trc, flt, lio⟩ := applyConfig_no_inputs (s := u) none
        obtain ⟨outputs, otherOutputs⟩ := applyConfig_outputs (s := u) none runningU outputsApart
        refine ⟨ptb.trans (by rw [uEq]; rfl), din.trans (by rw [uEq]; rfl), exu.trans (by rw [uEq]; rfl),
          wou.trans (by rw [uEq]; rfl), dry.trans (by rw [uEq]; rfl), lfn.trans (by rw [uEq]; rfl),
          trc.trans (by rw [uEq]; rfl), flt.trans (by rw [uEq]; rfl),
          (congrArg (·.drives) lio).trans (by rw [← lioU]), (congrArg (·.lamps) lio).trans (by rw [← lioU]), ?_, ?_, ?_⟩
        · intro noOutputs
          refine lio.trans ?_
          rw [outputsSettled_none noOutputs]
          exact lioU
        · intro _ i member
          refine (outputs i member).trans ?_
          rw [← cfg]
          show resettledOutput u (outputCfg (applyConfig g u) i) (outputAt u i) = _
          rw [resettledOutput, outputAt, lioU, uEq]
          simp only [wantedState_serving]
          rfl
        · intro i absent
          refine (otherOutputs i absent).trans ?_
          rw [outputAt, lioU]
          rfl
  · intro g cfg
    obtain ⟨exit, exitKept, watchdog, watchdogKept, attention, attentionKept⟩ := storeConfig_groups g cfg
    exact ⟨exit, exitKept, watchdog, watchdogKept, attention, attentionKept, configConsistent_iff⟩
  · exact groups_read
  · intro p g
    exact ⟨configInRange_iff p, fun range cfg => storeConfig_lines range cfg⟩

end Sys2Proof.Machine
end
